-- ==== Sys2Proof/Word.lean ====
section
/-! DEFINITION. The word types of the 416: a byte of a frame, and the 32-bit wrapping counts. -/

namespace Sys2Proof

/-- One byte of a frame, a body or a log entry (08, section 8.8). -/
abbrev Byte := BitVec 8

/-- A 32-bit wrapping count: ticks, ring-clock milliseconds, site minutes, sequence numbers, raw values. -/
abbrev Word32 := BitVec 32

end Sys2Proof
end

