-- ==== Sys2Proof/Config.lean ====
section
/-! DEFINITION. The figures that the manual fixes for the part, each with the rule that states it. -/

namespace Sys2Proof.Config

/-- R182: entry places of the test log. -/
abbrev logCapacity : Nat := 2048
/-- R184: the occupancy at which no ordinary record is taken any more. -/
abbrev logOrdinary : Nat := 2016
/-- R157: responses the management response queue holds at most. -/
abbrev responseMax : Nat := 4
/-- R158: own frames in flight at most. -/
abbrev inFlightMax : Nat := 4
/-- R174: entries of the command queue at most. -/
abbrev queueMax : Nat := 16
/-- R174: entries of the priority list at most. -/
abbrev priorityMax : Nat := 8
/-- R161: consecutive losses that break the ring. -/
abbrev lossesToBreak : Nat := 3
/-- R194: ticks of one site minute. -/
abbrev ticksPerMinute : Nat := 600
/-- R194, 11.8: ring-clock milliseconds of one tick (log 6). -/
abbrev msPerTick : Nat := 100
/-- R192: bytes of the assembly store and of the long-response store. -/
abbrev longBody : Nat := 1024
/-- R192: bytes of a response body that one frame carries. -/
abbrev responseBody : Nat := 120
/-- R48: the TC count at which a reference phase is lost. -/
abbrev tcLimit : Nat := 1048576
/-- 00, Units: the ends of the force range. -/
abbrev forceMin : Int := -8388608
/-- 00, Units: the upper end of the force range. -/
abbrev forceMax : Int := 8388607
/-- R35: the largest total of a COUNTER channel. -/
abbrev totalMax : Nat := 16777215

end Sys2Proof.Config
end

