-- ==== Sys2Proof/Syntax.lean ====
section
/-! DEFINITION. The commands of the 416: one constructor of `Instr` for each row of spec/opcode_table.json,
with the items the rows' rules list. Numbers are carried as the request carries them; whether they lie in
range is for the block that owns the request to say. -/

namespace Sys2Proof

/-- R2: the design fields of an anchor record, in the order of the table. -/
structure Design where
  anchorId : Nat
  row : Nat
  position : Nat
  klass : Nat
  strands : Nat
  freeLength : Nat
  bondLength : Nat
  workingLoad : Nat
  hardLimit : Nat
  insertionTarget : Nat
  groutTarget : Nat
  groutMax : Nat
  cureMinutes : Nat
  deriving DecidableEq, Repr, Inhabited

/-- R18: the parameters of LOAD_TO and UNLOAD_TO. -/
structure MoveParams where
  target : Nat
  speed : Nat
  approach : Nat
  tolerance : Nat
  timeout : Nat
  deriving DecidableEq, Repr, Inhabited

/-- R18: the parameters of HOLD_SETTLE. -/
structure SettleParams where
  minimum : Nat
  maximum : Nat
  band : Nat
  interval : Nat
  limit : Nat
  loadTolerance : Nat
  deriving DecidableEq, Repr, Inhabited

/-- R18: the extension of a HOLD_CREEP step. -/
structure CreepExtension where
  t2b : Nat
  logratio : Nat
  deriving DecidableEq, Repr, Inhabited

/-- R18: the parameters of HOLD_CREEP. -/
structure CreepParams where
  t1 : Nat
  t2 : Nat
  logratio : Nat
  extension : Option CreepExtension
  limit : Int
  loadTolerance : Nat
  deriving DecidableEq, Repr, Inhabited

/-- R18: the parameters of LOCKOFF. -/
structure LockParams where
  factor : Nat
  seatWindow : Nat
  releaseWindow : Nat
  releaseLevel : Nat
  deriving DecidableEq, Repr, Inhabited

/-- R18: one step of a procedure, with its parameters. -/
inductive ProcStep where
  | loadTo (p : MoveParams)
  | unloadTo (p : MoveParams)
  | holdSettle (p : SettleParams)
  | holdCreep (p : CreepParams)
  | apparent
  | cellCheck
  | lockoff (p : LockParams)
  | finish
  deriving DecidableEq, Repr, Inhabited

/-- R17: the constants and the procedure of an anchor class. -/
structure ClassDef where
  area : Nat
  modulus : Nat
  lowerFactor : Nat
  bondFactor : Nat
  minSpan : Nat
  tolLow : Nat
  tolHigh : Nat
  crossAbsolute : Nat
  crossRelative : Nat
  pointInterval : Nat
  groutFollows : Bool
  rejectExit : Option Nat
  procedure : List ProcStep
  deriving DecidableEq, Repr, Inhabited

/-- R26, R27: the kind of a measurement channel with its parameters. -/
inductive ChanConfig where
  | none
  | calibrated (table : Nat) (staleLimit : Nat)
  | scaled (mult : Int) (div : Nat) (offset : Int) (staleLimit : Nat)
  | counter (mult : Nat) (div : Nat) (staleLimit : Nat)
  | gauge (table : Nat) (staleLimit : Nat)
  deriving DecidableEq, Repr, Inhabited

/-- R45: the configuration of a cell input. -/
structure CellConfig where
  nRef : Nat
  mMin : Nat
  reuseAge : Nat
  surveyPeriod : Nat
  output : Nat
  deriving DecidableEq, Repr, Inhabited

/-- R60, R62: the binding of a stressing channel. -/
structure Binding where
  jack : Nat
  force : Nat
  extension : Nat
  seat : Nat
  cell : Nat
  stroke : Nat
  deriving DecidableEq, Repr, Inhabited

/-- R114: the configuration of the placement unit. -/
structure PlacementConfig where
  winchNode : Nat
  pumpNode : Nat
  payout : Nat
  flow : Nat
  tension : Nat
  pressure : Nat
  ret : Nat
  tensionX : Option Nat
  pressureX : Option Nat
  winchSpeed : Nat
  pumpSpeed : Nat
  winchTimeout : Nat
  deriving DecidableEq, Repr, Inhabited

/-- R134: the side of its level on which a classifier watches. -/
inductive Side where
  | above | below
  deriving DecidableEq, Repr, Inhabited

/-- R134: the configuration of a classifier. -/
structure ClassifierConfig where
  watched : Nat
  side : Side
  level : Int
  hysteresis : Nat
  tSpike : Nat
  tHold : Nat
  tLong : Nat
  spikeReject : Bool
  deriving DecidableEq, Repr, Inhabited

/-- R141: what a trip counter observes, with the items that only a CHANNEL source has. The class mask has
bit i set for the event kind coded i (SPIKE, SURGE, SUSTAINED, OVERLONG). -/
inductive TripSource where
  | channel (m : Nat) (threshold : Int) (invert : Bool) (edge : Bool)
  | events (x : Nat) (mask : Nat)
  | ringError
  | gaugeFault
  deriving DecidableEq, Repr, Inhabited

/-- R142: the items of LOAD_TRIP after the counter number. -/
structure TripConfig where
  enabled : Bool
  source : TripSource
  freezeEnable : Bool
  preload : Nat
  deriving DecidableEq, Repr, Inhabited

/-- R168: the items of a poll entry; the slot count is the length of the mapping, and an unmapped slot
is `none`. -/
structure PollConfig where
  node : Nat
  kind : Nat
  period : Nat
  slots : List (Option Nat)
  deriving DecidableEq, Repr, Inhabited

/-- R167, R173: the mode parameters of the scheduler. -/
structure ScheduleParams where
  high : Nat
  low : Nat
  commandStarve : Nat
  pollStarve : Nat
  deriving DecidableEq, Repr, Inhabited

/-- R20: where ENQUEUE_STRESS puts the slot. -/
inductive Place where
  | front | back
  deriving DecidableEq, Repr, Inhabited

/-- R57: the reference choice of MEASURE_CELL. -/
inductive ReferenceChoice where
  | reuse | fresh
  deriving DecidableEq, Repr, Inhabited

/-- The management requests with their items (08, section 8.8, request codes), LOAD_PART apart: it carries
parts of the others (R192). -/
inductive Request where
  | loadAnchor (slot : Nat) (d : Design)
  | readAnchor (slot : Nat)
  | withdrawAnchor (slot : Nat)
  | retryAnchor (slot : Nat)
  | loadClass (k : Nat) (c : ClassDef)
  | readClass (k : Nat)
  | enqueueStress (slot : Nat) (p : Place)
  | dequeueStress (slot : Nat)
  | readOrder
  | setExclusion (d : Nat)
  | configChannel (m : Nat) (c : ChanConfig)
  | readChannel (m : Nat)
  | loadTable (t : Nat) (bps : List (Nat × Int))
  | readTable (t : Nat)
  | configCell (c : Nat) (cfg : Option CellConfig)
  | measureCell (c : Nat) (r : ReferenceChoice)
  | readCell (c : Nat)
  | bindChannel (n : Nat) (b : Binding) (auto : Bool)
  | unbindChannel (n : Nat)
  | setAutoTake (n : Nat) (auto : Bool)
  | readStress (n : Nat)
  | startStress (n : Nat) (slot : Nat)
  | haltChannel (n : Nat)
  | configPlacement (cfg : Option PlacementConfig)
  | readPlacement
  | startPlace (slot : Nat)
  | configClassifier (x : Nat) (cfg : Option ClassifierConfig)
  | readClassifier (x : Nat)
  | loadTrip (q : Nat) (cfg : TripConfig)
  | clearTrip (mask : Nat)
  | readTrip
  | freeze
  | thaw
  | configRing (timeout : Nat)
  | readRing
  | readPending (node : Nat)
  | loadPoll (e : Nat) (cfg : Option PollConfig)
  | readPolls
  | configSchedule (p : ScheduleParams)
  | readSchedule
  | readLog (start : Word32) (count : Nat)
  | trimLog (seq : Word32)
  | setWatermark (w : Nat)
  | clearOverrun
  | readLogState
  | readStatus
  | setTime (minute : Word32)
  | restart
  | readPart (part : Nat)
  | clearEstop
  deriving DecidableEq, Repr, Inhabited

/-- The commands of the 416: one constructor for each row of spec/opcode_table.json. A row that is a request
of the station carries the tag of its frame and the request's items; it is the request as taken (R157, R190;
log 1). -/
inductive Instr where
  | powerOnReset (straps : Nat) (line : Bool)
  | estopAsserted
  | estopLineDeasserted
  | lossOfSignal
  | frameArrival (clock : Word32) (frame : List Byte)
  | forwardTransmit
  | insertionOpportunity
  | frameTransmitted (clock : Word32)
  | entryExpiry (tag : Nat)
  | tickAdvance
  | siteMinuteAdvance
  | channelStale (m : Nat)
  | surveyRequest (c : Nat)
  | measurementStart
  | referenceEnd (t : Nat)
  | refLost (mc : Nat)
  | sensingEnd (m : Nat)
  | senseHigh (tc : Nat)
  | loadTimeout (n : Nat)
  | settleInterval (n : Nat)
  | settleMaximum (n : Nat)
  | lockWindowRunOut (n : Nat)
  | stressPointDue (n : Nat)
  | placementPointDue
  | winchTimeout
  | sustained (x : Nat)
  | overlong (x : Nat)
  | heldRecordWrite (n : Nat)
  | unownedRequestCode (tag : Nat) (code : Nat) (body : List Byte)
  | loadAnchor (tag : Nat) (slot : Nat) (d : Design)
  | readAnchor (tag : Nat) (slot : Nat)
  | withdrawAnchor (tag : Nat) (slot : Nat)
  | retryAnchor (tag : Nat) (slot : Nat)
  | loadClass (tag : Nat) (k : Nat) (c : ClassDef)
  | readClass (tag : Nat) (k : Nat)
  | enqueueStress (tag : Nat) (slot : Nat) (p : Place)
  | dequeueStress (tag : Nat) (slot : Nat)
  | readOrder (tag : Nat)
  | setExclusion (tag : Nat) (d : Nat)
  | configChannel (tag : Nat) (m : Nat) (c : ChanConfig)
  | readChannel (tag : Nat) (m : Nat)
  | loadTable (tag : Nat) (t : Nat) (bps : List (Nat × Int))
  | readTable (tag : Nat) (t : Nat)
  | configCell (tag : Nat) (c : Nat) (cfg : Option CellConfig)
  | measureCell (tag : Nat) (c : Nat) (r : ReferenceChoice)
  | readCell (tag : Nat) (c : Nat)
  | bindChannel (tag : Nat) (n : Nat) (b : Binding) (auto : Bool)
  | unbindChannel (tag : Nat) (n : Nat)
  | setAutoTake (tag : Nat) (n : Nat) (auto : Bool)
  | readStress (tag : Nat) (n : Nat)
  | startStress (tag : Nat) (n : Nat) (slot : Nat)
  | haltChannel (tag : Nat) (n : Nat)
  | configPlacement (tag : Nat) (cfg : Option PlacementConfig)
  | readPlacement (tag : Nat)
  | startPlace (tag : Nat) (slot : Nat)
  | configClassifier (tag : Nat) (x : Nat) (cfg : Option ClassifierConfig)
  | readClassifier (tag : Nat) (x : Nat)
  | loadTrip (tag : Nat) (q : Nat) (cfg : TripConfig)
  | clearTrip (tag : Nat) (mask : Nat)
  | readTrip (tag : Nat)
  | freeze (tag : Nat)
  | thaw (tag : Nat)
  | configRing (tag : Nat) (timeout : Nat)
  | readRing (tag : Nat)
  | readPending (tag : Nat) (node : Nat)
  | loadPoll (tag : Nat) (e : Nat) (cfg : Option PollConfig)
  | readPolls (tag : Nat)
  | configSchedule (tag : Nat) (p : ScheduleParams)
  | readSchedule (tag : Nat)
  | readLog (tag : Nat) (start : Word32) (count : Nat)
  | trimLog (tag : Nat) (seq : Word32)
  | setWatermark (tag : Nat) (w : Nat)
  | clearOverrun (tag : Nat)
  | readLogState (tag : Nat)
  | readStatus (tag : Nat)
  | setTime (tag : Nat) (minute : Word32)
  | restart (tag : Nat)
  | loadPart (tag : Nat) (target : Nat) (part : Nat) (last : Bool) (bytes : List Byte)
  | readPart (tag : Nat) (part : Nat)
  | clearEstop (tag : Nat)
  deriving DecidableEq, Repr, Inhabited

end Sys2Proof
end

