-- ==== Sys2Proof/Decode.lean ====
section
/-! DEFINITION. The decoder over the rows of the table that give bits. No row of this part's table gives any:
its commands are events and requests, not words (log 18). The decoder of the station's request bodies is in
Machine/Codec.lean. -/

namespace Sys2Proof

/-- No row of the table has bits, so no word spells a command (log 18). -/
def decodeTableWord (nbits w : Nat) : Option Instr :=
  match nbits, w with
  | _, _ => none

end Sys2Proof
end

