-- ==== Sys2Proof/Machine/State.lean ====
section
/-! DEFINITION. The state of the 416 as plain data, block by block, with every item the manual gives the part;
the outcomes' reasons; and the state after reset. -/

namespace Sys2Proof.Machine

open Sys2Proof

/-! ### Anchor table (R1, R2) -/

/-- R2: the phase of an anchor, in the order of the table. -/
inductive Phase where
  | free | defined | winching | placed | grouting | curing | ready | stressing | accepted | rejected | halted
  deriving DecidableEq, Repr, Inhabited

/-- R2: the phases an anchor can be halted from. -/
inductive HaltedFrom where
  | winching | grouting | stressing
  deriving DecidableEq, Repr, Inhabited

/-- R14: the halt causes, in the order of the table. -/
inductive HaltCause where
  | overload | strokeOut | sensorStale | loadTimeout | station | cellFault | cellMismatch | seatIncomplete
  | releaseTimeout | snag | winchTimeout | groutExcess | blockage | nodeAbsent | estop | ring | restart
  deriving DecidableEq, Repr, Inhabited

/-- R2: the rejection causes, in the order of the table. -/
inductive RejectCause where
  | apparentLow | apparentHigh | noSpan | creep | lockoffLow | lockoffHigh
  deriving DecidableEq, Repr, Inhabited

/-- R2: one anchor record. `design` is `none` exactly in FREE. -/
structure Anchor where
  phase : Phase
  design : Option Design
  haltedFrom : Option HaltedFrom
  haltCause : Option HaltCause
  insertionLength : Option Nat
  groutTake : Option Nat
  completionMinute : Option Word32
  lApp : Option Nat
  ksPrimary : Option Int
  ksExtension : Option Int
  retainedLoad : Option Int
  crossDifference : Option Int
  verdictCause : Option RejectCause
  deriving DecidableEq, Repr, Inhabited

/-- R1: the anchor table. An empty class is `none`. -/
structure AnchorTable where
  slots : Vector Anchor 96
  classes : Vector (Option ClassDef) 8
  order : List Nat
  exclusion : Nat
  deriving DecidableEq, Repr, Inhabited

/-! ### Measurement channels (R26, R40) -/

/-- R26: the range mark of a value. -/
inductive Mark where
  | within | under | over
  deriving DecidableEq, Repr, Inhabited

/-- R26: one measurement channel. -/
structure Channel where
  config : ChanConfig
  lastRaw : Option Word32
  saturated : Option Bool
  value : Option Int
  mark : Option Mark
  stamp : Option Word32
  fresh : Bool
  total : Option Nat
  deriving DecidableEq, Repr, Inhabited

/-- R26, R40: the channels and the calibration tables; an empty table is the empty list. -/
structure Measure where
  channels : Vector Channel 24
  tables : Vector (List (Nat × Int)) 16
  deriving DecidableEq, Repr, Inhabited

/-! ### Gauge converter and lift-off cells (R44) -/

/-- R44: the state of the converter. -/
inductive GaugePhase where
  | idle | reference | sensing
  deriving DecidableEq, Repr, Inhabited

/-- R46: a request of a cell; in service it is the requesters in service. -/
structure CellRequest where
  waiting : List Nat
  station : Bool
  survey : Bool
  freshReference : Bool
  firstTick : Word32
  deriving DecidableEq, Repr, Inhabited

/-- R52: how a measurement ended. -/
inductive MeasureEnd where
  | reading | refLost | senseHigh | senseLow | aborted
  deriving DecidableEq, Repr, Inhabited

/-- R52: the last result of a cell; outcome NONE is an absent last result. -/
structure LastResult where
  outcome : MeasureEnd
  endTick : Word32
  reused : Bool
  t : Option Nat
  m : Option Nat
  g : Option Nat
  saturated : Option Bool
  served : CellRequest
  deriving DecidableEq, Repr, Inhabited

/-- R44: one cell input; unconfigured is an absent configuration. -/
structure Cell where
  config : Option CellConfig
  storedT : Option (Nat × Word32)
  nextSurvey : Option Word32
  pending : Option CellRequest
  last : Option LastResult
  deriving DecidableEq, Repr, Inhabited

/-- R44, R48: the converter and the cells. `timeT` is the T in use in SENSING. -/
structure Gauge where
  phase : GaugePhase
  cell : Option Nat
  inService : Option CellRequest
  pointer : Nat
  reused : Bool
  timeT : Option Nat
  mcCount : Nat
  tcCount : Nat
  cells : Vector Cell 4
  deriving DecidableEq, Repr, Inhabited

/-! ### The test log (R182, 08 section 8.8) -/

/-- 08, section 8.8: the kinds of a log record. -/
inductive RecordKind where
  | start | step | point | stage | complete | event | fault | verdict | freeze | halt
  deriving DecidableEq, Repr, Inhabited

/-- R183: a record as a writer presents it: its tick, kind, unit byte, slot byte, detail byte and data. -/
structure LogRecord where
  tick : Word32
  kind : RecordKind
  unit : Nat
  slot : Nat
  detail : Nat
  data : List Byte
  deriving DecidableEq, Repr, Inhabited

/-- 08, section 8.8: one entry of the store, 20 bytes: bytes 0 … 3, 4 … 7, 8, 9, 10, 11 and 12 … 19. -/
structure LogEntry where
  seq : Word32
  tick : Word32
  kind : Nat
  unit : Nat
  slot : Nat
  detail : Nat
  data : List Byte
  deriving DecidableEq, Repr, Inhabited

/-- R182: the test log, oldest entry first. -/
structure TestLog where
  entries : List LogEntry
  oldest : Word32
  next : Word32
  watermark : Nat
  attention : Bool
  overrun : Bool
  deriving DecidableEq, Repr, Inhabited

/-! ### Stressing channels (R60) -/

/-- R60: the state of a stressing channel. -/
inductive StressMode where
  | unbound | idle | running | stalled | frozen | locking
  deriving DecidableEq, Repr, Inhabited

/-- R60: a motion command of a stressing channel. -/
inductive Motion where
  | advance (speed : Nat)
  | retract (speed : Nat)
  | hold
  deriving DecidableEq, Repr, Inhabited

/-- R69: the direction of the current target. -/
inductive Direction where
  | load | unload
  deriving DecidableEq, Repr, Inhabited

/-- R77: the settle data. -/
structure SettleData where
  reference : Int
  progress : Nat
  count : Nat
  deriving DecidableEq, Repr, Inhabited

/-- 05, section 5.4: the seat-stage progress of LOCKOFF. -/
inductive LockProgress where
  | approach | seating | releasing | retained
  deriving DecidableEq, Repr, Inhabited

/-- R97: the outcomes a stressing channel can receive of its cell request. -/
inductive CellOutcome where
  | reading | refLost | senseHigh | senseLow | noCell | noChannel
  deriving DecidableEq, Repr, Inhabited

/-- R53, R97: what a READING carries: G and the GAUGE channel's value, mark and stamp. -/
structure CellReading where
  g : Nat
  value : Int
  mark : Mark
  stamp : Word32
  deriving DecidableEq, Repr, Inhabited

/-- R97: the outcome record. -/
structure OutcomeRecord where
  outcome : CellOutcome
  reading : Option CellReading
  jackForce : Int
  jackMark : Mark
  tick : Word32
  deriving DecidableEq, Repr, Inhabited

/-- R60, R92, R97, R100 to R104: the working data of a test. `startOwing`: the step started while the channel
was held and its start judgment is made at resume (R70, R88). -/
structure Work where
  slot : Option Nat
  step : Option Nat
  elapsed : Nat
  commanded : Option Motion
  holdReached : Bool
  target : Option Int
  tolerance : Option Int
  direction : Option Direction
  lastLoaded : Option (Int × Int)
  lastUnloaded : Option (Int × Int)
  overshoot : Bool
  settle : Option SettleData
  s1 : Option (Int × Nat)
  s2 : Option (Int × Nat)
  s2b : Option (Int × Nat)
  progress : Option LockProgress
  approachDirection : Option Direction
  approachDone : Bool
  approachPoint : Option (Int × Int)
  seatCount : Option Nat
  seatElapsed : Option Nat
  releaseForce : Option Int
  releaseElapsed : Option Nat
  window : Nat
  requestOutstanding : Bool
  outcome : Option OutcomeRecord
  pendingCause : Option RejectCause
  pointCounter : Nat
  deferredFreeze : Bool
  deferredHalt : Bool
  held : Option LogRecord
  startOwing : Bool
  deriving DecidableEq, Repr, Inhabited

/-- R60: one stressing channel; its binding is absent exactly in UNBOUND. -/
structure Stress where
  mode : StressMode
  binding : Option Binding
  autoTake : Bool
  work : Work
  deriving DecidableEq, Repr, Inhabited

/-! ### Placement unit (R114) -/

/-- R114: the phase of a placement run. -/
inductive RunPhase where
  | winching | grouting
  deriving DecidableEq, Repr, Inhabited

/-- R114: the state of the placement unit. -/
inductive PlacementMode where
  | idle | winching | grouting | paused
  deriving DecidableEq, Repr, Inhabited

/-- R117: the command of class WINCH or PUMP last taken: the run command with its speed, or the stop. -/
inductive Drive where
  | run (speed : Nat)
  | stop
  deriving DecidableEq, Repr, Inhabited

/-- R114: the run items. -/
structure Run where
  slot : Nat
  pausedFrom : Option RunPhase
  elapsed : Nat
  speed : Nat
  starved : Bool
  pointCounter : Nat
  deriving DecidableEq, Repr, Inhabited

/-- R114: the placement unit. -/
structure Placement where
  mode : PlacementMode
  config : Option PlacementConfig
  run : Option Run
  winchCommand : Option Drive
  pumpCommand : Option Drive
  deriving DecidableEq, Repr, Inhabited

/-! ### Classifiers and trip counters (R134, R141) -/

/-- R134: the state of a classifier. -/
inductive ClassifierMode where
  | quiet | excursion | declared | stalled
  deriving DecidableEq, Repr, Inhabited

/-- R137, R138: the events of a classifier, in the order SPIKE, SURGE, SUSTAINED, OVERLONG. -/
inductive EventKind where
  | spike | surge | sustained | overlong
  deriving DecidableEq, Repr, Inhabited

/-- R134: one classifier; disabled is an absent configuration. -/
structure Classifier where
  config : Option ClassifierConfig
  mode : ClassifierMode
  start : Option Word32
  deriving DecidableEq, Repr, Inhabited

/-- R141: one trip counter. -/
structure Counter where
  enabled : Bool
  source : Option TripSource
  freezeEnable : Bool
  value : Nat
  overflow : Bool
  previous : Bool
  deriving DecidableEq, Repr, Inhabited

/-- R141, R146, R147: the trip counters, the frozen item and the station-freeze mark. -/
structure Trip where
  counters : Vector Counter 8
  frozen : Bool
  stationFreeze : Bool
  deriving DecidableEq, Repr, Inhabited

/-! ### Commands and frames (08 section 8.8) -/

/-- R165: the units that can own a node, and originate commands. -/
inductive Owner where
  | sc (n : Nat)
  | pu
  deriving DecidableEq, Repr, Inhabited

/-- 08, section 8.8: the command classes. -/
inductive CommandClass where
  | motion | seat | winch | pump
  deriving DecidableEq, Repr, Inhabited

/-- 08, section 8.8: the commands with their argument. -/
inductive Command where
  | jackAdvance (speed : Nat)
  | jackRetract (speed : Nat)
  | jackHold
  | jackSeat
  | winchPayout (speed : Nat)
  | winchStop
  | pumpRun (speed : Nat)
  | pumpStop
  deriving DecidableEq, Repr, Inhabited

/-- The kinds of frame the 416 originates. -/
inductive FrameKind where
  | poll | command | mgmtResp | probe
  deriving DecidableEq, Repr, Inhabited

/-- R158: the particulars of an own frame: for a POLL its entry, the copy of its mapping and whether the
station has loaded the entry anew since (R168); for a COMMAND its unit, the command and whether it was sent
from the priority list (R179). -/
inductive Particulars where
  | poll (entry : Nat) (slots : List (Option Nat)) (detached : Bool)
  | command (origin : Owner) (c : Command) (priority : Bool)
  | none
  deriving DecidableEq, Repr, Inhabited

/-- R158: an entry of the in-flight table. -/
structure InFlight where
  tag : Nat
  kind : FrameKind
  dest : Nat
  sent : Word32
  expiry : Word32
  about : Particulars
  deriving DecidableEq, Repr, Inhabited

/-- R152, R158: the own frame in transmission at port B. `discarded`: the ring broke or a RESTART was taken
meanwhile, so it is not entered in the table (log 8). -/
structure Transmission where
  frame : List Byte
  tag : Nat
  kind : FrameKind
  dest : Nat
  about : Particulars
  discarded : Bool
  deriving DecidableEq, Repr, Inhabited

/-- R191: the reasons of a refusal. -/
inductive Reason where
  | busy | inUse | badPhase | badValue | full | notFound | duplicate | estop | frozen | timeUnset
  deriving DecidableEq, Repr, Inhabited

/-- R157, R190: a response in the queue; DONE is an absent reason. -/
structure Response where
  tag : Nat
  code : Nat
  reason : Option Reason
  body : List Byte
  deriving DecidableEq, Repr, Inhabited

/-- R162: the state of the ring. -/
inductive RingState where
  | down | up | broken
  deriving DecidableEq, Repr, Inhabited

/-- R152, R157, R158, R161 to R166: the ring interface. `owners` is indexed by the address less 1. -/
structure Ring where
  state : RingState
  timeout : Nat
  lossCount : Nat
  clock : Word32
  tagCounter : Nat
  inFlight : List InFlight
  probeDue : Bool
  owners : Vector (Option Owner) 62
  responses : List Response
  store : List (List Byte)
  transmitter : Option Transmission
  portB : List Byte
  deriving DecidableEq, Repr, Inhabited

/-! ### Ring scheduler (R167) -/

/-- R167: the scheduling mode. -/
inductive ScheduleMode where
  | sampling | issuing
  deriving DecidableEq, Repr, Inhabited

/-- R168: a loaded poll entry. -/
structure Poll where
  config : PollConfig
  nextDue : Word32
  inFlight : Bool
  deriving DecidableEq, Repr, Inhabited

/-- R174: an entry of the command queue. -/
structure QueueEntry where
  node : Nat
  command : Command
  origin : Owner
  enqueued : Word32
  deriving DecidableEq, Repr, Inhabited

/-- R176: an entry of the priority list. -/
structure PriorityEntry where
  node : Nat
  command : Command
  origin : Owner
  deriving DecidableEq, Repr, Inhabited

/-- R167: a last-sent record. -/
structure Sent where
  command : Command
  origin : Owner
  tag : Nat
  tick : Word32
  deriving DecidableEq, Repr, Inhabited

/-- R167: the ring scheduler. `lastSent` and `failures` are indexed by the address less 1, and a node's
last-sent records by its command class. -/
structure Sched where
  mode : ScheduleMode
  toIssuing : Word32
  toSampling : Word32
  params : ScheduleParams
  polls : Vector (Option Poll) 32
  queue : List QueueEntry
  priority : List PriorityEntry
  lastSent : Vector (Vector (Option Sent) 4) 62
  failures : Vector Nat 62
  passedOver : Nat
  deriving DecidableEq, Repr, Inhabited

/-! ### Station requests, time and restart (11) -/

/-- R192: the assembly of a long request body. -/
structure Assembly where
  code : Nat
  bytes : List Byte
  nextPart : Nat
  deriving DecidableEq, Repr, Inhabited

/-- R192 to R199: the station-request block. `site` is the site minute with its sub-minute count, absent while
the set mark is clear. -/
structure Station where
  tick : Word32
  site : Option (Word32 × Nat)
  estop : Bool
  line : Bool
  address : Nat
  assembly : Option Assembly
  longResponse : List Byte
  deriving DecidableEq, Repr, Inhabited

/-- The whole state of the 416, block by block, and the model's own fields: `tickOpen` (a tick advance whose
due rows have not all been taken, log 2), `passDue` (a hand-out pass has been started in the change in
progress, log 20) and `pending` (the commands that wait, first in first out). -/
structure State where
  anchorTable : AnchorTable
  measure : Measure
  gauge : Gauge
  stress : Vector Stress 4
  placement : Placement
  classifiers : Vector Classifier 4
  trip : Trip
  log : TestLog
  ring : Ring
  sched : Sched
  station : Station
  tickOpen : Bool
  passDue : Bool
  pending : List Instr
  deriving DecidableEq, Repr, Inhabited

/-- Why a command could stop the machine with a fault. No command of the 416 does: bad frames are removed
(R153), requests are refused in their response (R190) and halts are changes of state (R85, R131). -/
inductive Fault where
  /-- Raised by no meaning; it only makes the type inhabited. Safe. -/
  | unused
  deriving DecidableEq, Repr, Inhabited

/-- Why a command has no meaning. -/
inductive Refusal where
  /-- Raised by `exec` for a row that has no meaning yet; no row is without one. Safe. -/
  | notModelled (mnemonic : String)
  deriving DecidableEq, Repr, Inhabited

/-! ### Power-on values -/

/-- R2: a FREE slot. -/
def Anchor.free : Anchor where
  phase := .free
  design := none
  haltedFrom := none
  haltCause := none
  insertionLength := none
  groutTake := none
  completionMinute := none
  lApp := none
  ksPrimary := none
  ksExtension := none
  retainedLoad := none
  crossDifference := none
  verdictCause := none

/-- R26: an unconfigured channel. -/
def Channel.unconfigured : Channel where
  config := .none
  lastRaw := none
  saturated := none
  value := none
  mark := none
  stamp := none
  fresh := false
  total := none

/-- R44: a cell input after power-on reset. -/
def Cell.reset : Cell where
  config := none
  storedT := none
  nextSurvey := none
  pending := none
  last := none

/-- R60: the working data when cleared (R66, R85). Hold reached, overshoot and the point counter, to which R60's table
gives no absence, are clear and 0 where R60 calls every item absent (log 10). -/
def Work.clear : Work where
  slot := none
  step := none
  elapsed := 0
  commanded := none
  holdReached := false
  target := none
  tolerance := none
  direction := none
  lastLoaded := none
  lastUnloaded := none
  overshoot := false
  settle := none
  s1 := none
  s2 := none
  s2b := none
  progress := none
  approachDirection := none
  approachDone := false
  approachPoint := none
  seatCount := none
  seatElapsed := none
  releaseForce := none
  releaseElapsed := none
  window := 0
  requestOutstanding := false
  outcome := none
  pendingCause := none
  pointCounter := 0
  deferredFreeze := false
  deferredHalt := false
  held := none
  startOwing := false

/-- R60: a stressing channel after power-on reset. -/
def Stress.reset : Stress where
  mode := .unbound
  binding := none
  autoTake := false
  work := Work.clear

/-- R141: a trip counter after power-on reset. -/
def Counter.reset : Counter where
  enabled := false
  source := none
  freezeEnable := false
  value := 0
  overflow := false
  previous := false

/-- Every block in its power-on state, with the station address read from the straps and the E-STOP line as it
stands; the latch is judged by the row's meaning (R199). R1, R26, R40, R44, R60, R114, R134, R141, R167, R182,
R194, R199; the counts of the converter are DESIGN CHOICE 0 (log 7). -/
def State.power (straps : Nat) (line : Bool) : State where
  anchorTable :=
    { slots := Vector.replicate 96 Anchor.free, classes := Vector.replicate 8 none, order := [], exclusion := 1 }
  measure := { channels := Vector.replicate 24 Channel.unconfigured, tables := Vector.replicate 16 [] }
  gauge :=
    { phase := .idle, cell := none, inService := none, pointer := 3, reused := false, timeT := none
      mcCount := 0, tcCount := 0, cells := Vector.replicate 4 Cell.reset }
  stress := Vector.replicate 4 Stress.reset
  placement := { mode := .idle, config := none, run := none, winchCommand := none, pumpCommand := none }
  classifiers := Vector.replicate 4 { config := none, mode := .quiet, start := none }
  trip := { counters := Vector.replicate 8 Counter.reset, frozen := false, stationFreeze := false }
  log := { entries := [], oldest := 0, next := 0, watermark := 1024, attention := false, overrun := false }
  ring :=
    { state := .down, timeout := 10, lossCount := 0, clock := 0, tagCounter := 0, inFlight := []
      probeDue := true, owners := Vector.replicate 62 none, responses := [], store := []
      transmitter := none, portB := [] }
  sched :=
    { mode := .sampling, toIssuing := 0, toSampling := 0
      params := { high := 8, low := 0, commandStarve := 5, pollStarve := 3 }
      polls := Vector.replicate 32 none, queue := [], priority := []
      lastSent := Vector.replicate 62 (Vector.replicate 4 none), failures := Vector.replicate 62 0
      passedOver := 0 }
  station :=
    { tick := 0, site := none, estop := false, line := line, address := straps, assembly := none
      longResponse := [] }
  tickOpen := false
  passDue := false
  pending := []

/-- The machine right after reset (R199), with the pins that the manual leaves to the board at the values log 5
names: station address 1 (DESIGN CHOICE) and the E-STOP line deasserted (DESIGN CHOICE). -/
def State.reset : State := State.power 1 false

end Sys2Proof.Machine
end

