-- ==== Sys2Proof/Machine/Operands.lean ====
section
/-! DEFINITION. Forming values from operands: the manual's arithmetic (00, Arithmetic), the per-mille targets,
the ages mod 2^32, and the range checks that the requests make of their items. -/

namespace Sys2Proof.Machine

open Sys2Proof Sys2Proof.Config

/-! ### Indexed collections -/

/-- The item numbered `i`; a number beyond the end reads as the default, and no rule reads one. -/
def look {α : Type} [Inhabited α] {n : Nat} (v : Vector α n) (i : Nat) : α := v[i]?.getD default

/-- The collection with item `i` replaced; a number beyond the end changes nothing. -/
def put {α : Type} {n : Nat} (v : Vector α n) (i : Nat) (a : α) : Vector α n := v.setIfInBounds i a

/-! ### Arithmetic (00) -/

/-- 00: truncate, toward zero. -/
def truncDiv (a : Int) (b : Nat) : Int := Int.tdiv a b

/-- 00: round to the nearest integer, halves away from zero. -/
def roundDiv (a : Int) (b : Nat) : Int :=
  let q : Int := ((2 * a.natAbs + b) / (2 * b) : Nat)
  if a < 0 then -q else q

/-- 00: a result beyond a stated end takes the value of that end. -/
def saturate (lo hi v : Int) : Int := if v < lo then lo else if hi < v then hi else v

/-- 00, Units: the force of a per-mille target, truncate(W × f / 1000). -/
def perMille (w f : Nat) : Nat := w * f / 1000

/-- The age of a tick, (now − then) mod 2^32 (R38, R51, R134, R169, R172). -/
def age (now stamp : Word32) : Nat := (now - stamp).toNat

/-- R103: the set bits among the 16 bits of a strand mask. -/
def bitCount : Nat → Nat → Nat
  | 0, _ => 0
  | k + 1, v => v % 2 + bitCount k (v / 2)

/-! ### Ranges -/

/-- A number lies in lo … hi, ends included (00, Names). -/
def within (lo hi v : Nat) : Bool := decide (lo ≤ v) && decide (v ≤ hi)

/-- A signed number lies in lo … hi. -/
def withinInt (lo hi v : Int) : Bool := decide (lo ≤ v) && decide (v ≤ hi)

/-- An item that may be NONE lies in its range when present. -/
def withinOption (lo hi : Nat) : Option Nat → Bool
  | none => true
  | some v => within lo hi v

/-- R2, R3: every design field lies in its range, and the grout max volume exceeds the target. -/
def designInRange (d : Design) : Bool :=
  within 1 65535 d.anchorId && within 0 7 d.row && within 0 255 d.position && within 0 7 d.klass
    && within 1 16 d.strands && within 1 65535 d.freeLength && within 1 65535 d.bondLength
    && within 1 50000 d.workingLoad && within 1 8388607 d.hardLimit && within 1 65535 d.insertionTarget
    && within 1 16777214 d.groutTarget && within (d.groutTarget + 1) 16777215 d.groutMax
    && within 0 65535 d.cureMinutes

/-- R18, table: the parameters of LOAD_TO and UNLOAD_TO. -/
def moveInRange (p : MoveParams) : Bool :=
  within 0 4000 p.target && within 1 8 p.speed && within 0 8388607 p.approach
    && within 0 8388607 p.tolerance && decide (p.tolerance ≤ p.approach) && within 1 65535 p.timeout

/-- R18, table: every step's parameters lie in their ranges. -/
def stepInRange : ProcStep → Bool
  | .loadTo p => moveInRange p
  | .unloadTo p => moveInRange p
  | .holdSettle p =>
    within 0 65535 p.minimum && within 1 65535 p.maximum && decide (p.minimum ≤ p.maximum)
      && within 1 65535 p.band && within 1 65535 p.interval && within 1 63 p.limit
      && within 0 8388607 p.loadTolerance
  | .holdCreep p =>
    within 1 65535 p.t1 && within (p.t1 + 1) 65535 p.t2 && within 1 4000 p.logratio
      && (match p.extension with
          | none => true
          | some e => within (p.t2 + 1) 65535 e.t2b && within 1 4000 e.logratio)
      && withinInt (-2147483648) 2147483647 p.limit && within 0 8388607 p.loadTolerance
  | .apparent => true
  | .cellCheck => true
  | .lockoff p =>
    within 0 4000 p.factor && within 1 64 p.seatWindow && within 1 64 p.releaseWindow
      && within 0 8388607 p.releaseLevel
  | .finish => true

/-- R18: the step is a LOAD_TO. -/
def stepIsLoad : ProcStep → Bool
  | .loadTo _ => true
  | _ => false

/-- R18: the step is a LOAD_TO or an UNLOAD_TO. -/
def stepIsMove : ProcStep → Bool
  | .loadTo _ => true
  | .unloadTo _ => true
  | _ => false

/-- R18: the step is a LOCKOFF. -/
def stepIsLockoff : ProcStep → Bool
  | .lockoff _ => true
  | _ => false

/-- R18, check 3: what the step needs somewhere before it in the list. -/
def stepPreceded (before : List ProcStep) : ProcStep → Bool
  | .holdSettle _ => before.any stepIsMove
  | .lockoff _ => before.any stepIsMove
  | .holdCreep _ => before.any stepIsLoad
  | _ => true

/-- R18, check 3, for every step of the list; `before` holds the steps already passed. -/
def procedureOrdered : List ProcStep → List ProcStep → Bool
  | _, [] => true
  | before, p :: rest => stepPreceded before p && procedureOrdered (p :: before) rest

/-- R18, check 5: the step is one that can fail a criterion. -/
def stepCanFail : ProcStep → Bool
  | .holdCreep _ => true
  | .apparent => true
  | .lockoff _ => true
  | _ => false

/-- R18, check 5: every step that can fail a criterion has a number below the reject exit; `k` is the number
of the first step of the list. -/
def failsBefore (exit : Nat) : Nat → List ProcStep → Bool
  | _, [] => true
  | k, p :: rest => (!stepCanFail p || decide (k < exit)) && failsBefore exit (k + 1) rest

/-- R18: the checks of a procedure, with the class's reject exit. -/
def procedureAccepted (exit : Option Nat) (p : List ProcStep) : Bool :=
  within 1 24 p.length
    && (p.getLast? == some .finish) && !(p.dropLast.any (· == .finish))
    && p.all stepInRange && procedureOrdered [] p
    && decide (p.countP stepIsLockoff ≤ 1)
    && (match exit with
        | none => true
        | some e => within 1 24 e && decide (e ≤ p.length) && failsBefore e 1 p)

/-- R17: a 0 carried for a constant that has a default stands for the default. -/
def withDefault (d v : Nat) : Nat := if v = 0 then d else v

/-- R17: the class as it is loaded, with its defaults. -/
def classFilled (c : ClassDef) : ClassDef :=
  { c with
    lowerFactor := withDefault 900 c.lowerFactor
    bondFactor := withDefault 500 c.bondFactor
    minSpan := withDefault 100 c.minSpan }

/-- R17: every constant lies in its range, and the procedure is accepted. -/
def classAccepted (c : ClassDef) : Bool :=
  within 50 300 c.area && within 1000 2200 c.modulus && within 1 4000 c.lowerFactor
    && within 1 4000 c.bondFactor && within 1 8388607 c.minSpan && within 0 1000 c.tolLow
    && within 0 4000 c.tolHigh && within 0 8388607 c.crossAbsolute && within 0 4000 c.crossRelative
    && within 0 65535 c.pointInterval && procedureAccepted c.rejectExit c.procedure

/-- R27, check 3: the parameters of a channel's kind; that a named table is loaded is checked beside. -/
def chanConfigInRange : ChanConfig → Bool
  | .none => true
  | .calibrated t l => within 0 15 t && within 1 65535 l
  | .gauge t l => within 0 15 t && within 1 65535 l
  | .scaled m d o l =>
    withinInt (-32768) 32767 m && within 1 32767 d && withinInt forceMin forceMax o && within 1 65535 l
  | .counter m d l => within 1 32767 m && within 1 32767 d && within 1 65535 l

/-- R41, check 3: each raw value is above the one before it. -/
def rawsRise : List (Nat × Int) → Bool
  | [] => true
  | [_] => true
  | a :: b :: rest => decide (a.1 < b.1) && rawsRise (b :: rest)

/-- R40, R41: 2 … 12 breakpoints, raw values rising, values in force range. -/
def tableInRange (bps : List (Nat × Int)) : Bool :=
  within 2 12 bps.length && rawsRise bps && bps.all fun b => withinInt forceMin forceMax b.2

/-- R44, R45: the configuration items of a cell. -/
def cellConfigInRange (c : CellConfig) : Bool :=
  within 256 32768 c.nRef && within 1 65535 c.mMin && within 0 65535 c.reuseAge
    && within 0 65535 c.surveyPeriod && within 0 23 c.output

/-- R60, R62 check 3: the items of a binding; force and extension are different channels. -/
def bindingInRange (b : Binding) : Bool :=
  within 1 62 b.jack && within 0 23 b.force && within 0 23 b.extension && within 0 23 b.seat
    && within 0 3 b.cell && within 1 2147483647 b.stroke && decide (b.force ≠ b.extension)

/-- R114, R115 check 2: the items of the placement unit, with the pairs that must differ. -/
def placementConfigInRange (c : PlacementConfig) : Bool :=
  within 1 62 c.winchNode && within 1 62 c.pumpNode && decide (c.winchNode ≠ c.pumpNode)
    && within 0 23 c.payout && within 0 23 c.flow && decide (c.payout ≠ c.flow)
    && within 0 23 c.tension && within 0 23 c.pressure && within 0 23 c.ret
    && withinOption 0 3 c.tensionX && withinOption 0 3 c.pressureX
    && (c.tensionX.isNone || c.pressureX.isNone || decide (c.tensionX ≠ c.pressureX))
    && within 1 8 c.winchSpeed && within 1 8 c.pumpSpeed && within 1 65535 c.winchTimeout

/-- R134, R135 check 3: the items of a classifier. -/
def classifierConfigInRange (c : ClassifierConfig) : Bool :=
  within 0 23 c.watched && withinInt (-8388608) 16777215 c.level && within 0 8388607 c.hysteresis
    && decide (c.tSpike < c.tHold) && decide (c.tHold < c.tLong) && within 0 65535 c.tLong

/-- R141, R142: the items of a trip counter; an empty class mask is out of range. -/
def tripConfigInRange (c : TripConfig) : Bool :=
  within 0 65535 c.preload
    && (match c.source with
        | .channel m t _ _ => within 0 23 m && withinInt (-8388608) 16777215 t
        | .events x mask => within 0 3 x && within 1 15 mask
        | .ringError => true
        | .gaugeFault => true)

/-- R168: the items of a poll entry. -/
def pollConfigInRange (c : PollConfig) : Bool :=
  within 1 62 c.node && within 0 15 c.kind && within 1 600 c.period && within 1 4 c.slots.length
    && c.slots.all (withinOption 0 23)

/-- R167, R173: the mode parameters; the low mark lies below the high mark. -/
def scheduleInRange (p : ScheduleParams) : Bool :=
  within 1 16 p.high && decide (p.low < p.high) && within 1 50 p.commandStarve
    && within 1 50 p.pollStarve

end Sys2Proof.Machine
end

