-- ==== Sys2Proof/Machine/Codec.lean ====
section
/-! DEFINITION. The formats of 08, section 8.8: integers and absent items in bodies, the ring check, the
commands, and the bodies of the station's requests, read and written from the same lists of items. -/

namespace Sys2Proof.Machine

open Sys2Proof Sys2Proof.Config

/-! ### Writing -/

/-- An integer of `w` bytes, most significant byte first (section 8.8). -/
def be : Nat → Nat → List Byte
  | 0, _ => []
  | w + 1, v => BitVec.ofNat 8 (v / 256 ^ w) :: be w v

/-- A signed integer of `w` bytes in two's complement (section 8.8). -/
def beInt (w : Nat) (v : Int) : List Byte := be w (v % (256 ^ w : Nat)).toNat

/-- A flag is one byte, 0 or 1. -/
def flag (b : Bool) : List Byte := if b then [1] else [0]

/-- An item that may be absent: a presence byte, then the item's `w` bytes, 0 when it is absent. -/
def optional (w : Nat) : Option (List Byte) → List Byte
  | none => 0 :: be w 0
  | some bs => 1 :: bs

/-- An absent or present unsigned integer of `w` bytes. -/
def optNat (w : Nat) (v : Option Nat) : List Byte := optional w (v.map (be w))

/-- An absent or present signed integer of `w` bytes. -/
def optInt (w : Nat) (v : Option Int) : List Byte := optional w (v.map (beInt w))

/-- An absent or present 32-bit count. -/
def optWord (v : Option Word32) : List Byte := optional 4 (v.map fun x => be 4 x.toNat)

/-- A 32-bit count. -/
def word (v : Word32) : List Byte := be 4 v.toNat

/-- A list is a count byte followed by its items. -/
def counted {α : Type} (f : α → List Byte) (xs : List α) : List Byte := be 1 xs.length ++ xs.flatMap f

/-- A subset is one byte, with bit i set when the value coded i is a member. -/
def subset (xs : List Nat) : List Byte :=
  be 1 ((List.range 8).foldl (fun v i => if xs.contains i then v + 2 ^ i else v) 0)

/-! ### Reading -/

/-- A reader takes its item from the front of the bytes and leaves the rest; `none` when the bytes are too few
or not an encoding of the item. -/
abbrev Reader (α : Type) := List Byte → Option (α × List Byte)

/-- An unsigned integer of `w` bytes. -/
def takeNat : Nat → Reader Nat
  | 0, bs => some (0, bs)
  | _ + 1, [] => none
  | w + 1, b :: bs =>
    match takeNat w bs with
    | none => none
    | some (v, rest) => some (b.toNat * 256 ^ w + v, rest)

/-- A signed integer of `w` bytes in two's complement. -/
def takeInt (w : Nat) : Reader Int := fun bs =>
  match takeNat w bs with
  | none => none
  | some (v, rest) => some (if v < 256 ^ w / 2 then (v : Int) else (v : Int) - (256 ^ w : Nat), rest)

/-- A 32-bit count. -/
def takeWord : Reader Word32 := fun bs =>
  match takeNat 4 bs with
  | none => none
  | some (v, rest) => some (BitVec.ofNat 32 v, rest)

/-- A flag; a byte other than 0 and 1 is no encoding of one (log 12). -/
def takeFlag : Reader Bool
  | [] => none
  | b :: bs => if b = 0 then some (false, bs) else if b = 1 then some (true, bs) else none

/-- An item that may be absent. Section 8.8 gives the bytes of an absent item as 0 and does not say what a body with
other bytes there is. That such a body spells its request, those bytes read past, is the model's choice (DESIGN
CHOICE, log 33). -/
def takeOptional {α : Type} (f : Reader α) : Reader (Option α) := fun bs =>
  match takeFlag bs with
  | none => none
  | some (p, bs) =>
    match f bs with
    | none => none
    | some (a, rest) => some (if p then some a else none, rest)

/-- `k` items one after the other. -/
def takeMany {α : Type} (f : Reader α) : Nat → Reader (List α)
  | 0, bs => some ([], bs)
  | k + 1, bs =>
    match f bs with
    | none => none
    | some (a, bs) =>
      match takeMany f k bs with
      | none => none
      | some (as, rest) => some (a :: as, rest)

/-- A list: a count byte followed by its items. -/
def takeCounted {α : Type} (f : Reader α) : Reader (List α) := fun bs =>
  match takeNat 1 bs with
  | none => none
  | some (k, rest) => takeMany f k rest

/-- The value read when nothing is left over: a body longer than its items require is no body (R190). -/
def whole {α : Type} (r : Option (α × List Byte)) : Option α :=
  match r with
  | some (a, []) => some a
  | _ => none

/-! ### The ring check (R153) -/

/-- One bit of the CRC with generator x^16 + x^12 + x^5 + 1. -/
def crcBit (crc : BitVec 16) : BitVec 16 :=
  if crc.msb then (crc <<< 1) ^^^ 0x1021#16 else crc <<< 1

/-- `k` bits of the CRC. -/
def crcBits : Nat → BitVec 16 → BitVec 16
  | 0, crc => crc
  | k + 1, crc => crcBits k (crcBit crc)

/-- One byte of the CRC, most significant bit first. -/
def crcByte (crc : BitVec 16) (b : Byte) : BitVec 16 :=
  crcBits 8 (crc ^^^ (b.zeroExtend 16 <<< 8))

/-- R153: the CRC over some bytes, seed 0xFFFF, no final inversion. -/
def crc16 (bs : List Byte) : BitVec 16 := bs.foldl crcByte 0xFFFF#16

/-- The bytes with their CRC, high byte first. -/
def withCrc (bs : List Byte) : List Byte := bs ++ be 2 (crc16 bs).toNat

/-! ### Commands (COMMAND payload) -/

/-- Section 8.8: the class of a command. -/
def commandClass : Command → CommandClass
  | .jackAdvance _ => .motion
  | .jackRetract _ => .motion
  | .jackHold => .motion
  | .jackSeat => .seat
  | .winchPayout _ => .winch
  | .winchStop => .winch
  | .pumpRun _ => .pump
  | .pumpStop => .pump

/-- The place of a class among a node's last-sent records, MOTION first. -/
def classIndex : CommandClass → Nat
  | .motion => 0
  | .seat => 1
  | .winch => 2
  | .pump => 3

/-- Section 8.8: byte 0 of a COMMAND payload. -/
def classCode (c : CommandClass) : Nat := classIndex c + 1

/-- Section 8.8: byte 1 of a COMMAND payload. -/
def commandCode : Command → Nat
  | .jackAdvance _ => 1
  | .jackRetract _ => 2
  | .jackHold => 3
  | .jackSeat => 1
  | .winchPayout _ => 1
  | .winchStop => 2
  | .pumpRun _ => 1
  | .pumpStop => 2

/-- Section 8.8: byte 2 of a COMMAND payload, the speed or 0. -/
def commandArgument : Command → Nat
  | .jackAdvance v => v
  | .jackRetract v => v
  | .winchPayout v => v
  | .pumpRun v => v
  | .jackHold => 0
  | .jackSeat => 0
  | .winchStop => 0
  | .pumpStop => 0

/-- Section 8.8: the three bytes of a COMMAND payload. -/
def commandBytes (c : Command) : List Byte :=
  be 1 (classCode (commandClass c)) ++ be 1 (commandCode c) ++ be 1 (commandArgument c)

/-- R156: class and code are those of JACK_HOLD, WINCH_STOP or PUMP_STOP. A payload too short to show both is
of no class the 416 knows. -/
def haltPayload : List Byte → Bool
  | c :: k :: _ =>
    (c.toNat == 1 && k.toNat == 3) || (c.toNat == 3 && k.toNat == 2) || (c.toNat == 4 && k.toNat == 2)
  | _ => false

/-! ### Items of requests, written and read -/

/-- R3: the design fields in the order of R2. -/
def putDesign (d : Design) : List Byte :=
  be 2 d.anchorId ++ be 1 d.row ++ be 1 d.position ++ be 1 d.klass ++ be 1 d.strands ++ be 2 d.freeLength
    ++ be 2 d.bondLength ++ be 2 d.workingLoad ++ be 3 d.hardLimit ++ be 2 d.insertionTarget
    ++ be 3 d.groutTarget ++ be 3 d.groutMax ++ be 2 d.cureMinutes

/-- R3: the design fields. -/
def takeDesign : Reader Design := fun b => do
  let (anchorId, b) ← takeNat 2 b
  let (row, b) ← takeNat 1 b
  let (position, b) ← takeNat 1 b
  let (klass, b) ← takeNat 1 b
  let (strands, b) ← takeNat 1 b
  let (freeLength, b) ← takeNat 2 b
  let (bondLength, b) ← takeNat 2 b
  let (workingLoad, b) ← takeNat 2 b
  let (hardLimit, b) ← takeNat 3 b
  let (insertionTarget, b) ← takeNat 2 b
  let (groutTarget, b) ← takeNat 3 b
  let (groutMax, b) ← takeNat 3 b
  let (cureMinutes, b) ← takeNat 2 b
  pure (⟨anchorId, row, position, klass, strands, freeLength, bondLength, workingLoad, hardLimit,
    insertionTarget, groutTarget, groutMax, cureMinutes⟩, b)

/-- R18: the parameters of LOAD_TO and UNLOAD_TO. -/
def putMove (p : MoveParams) : List Byte :=
  be 2 p.target ++ be 1 p.speed ++ be 3 p.approach ++ be 3 p.tolerance ++ be 2 p.timeout

/-- R18: the parameters of LOAD_TO and UNLOAD_TO. -/
def takeMove : Reader MoveParams := fun b => do
  let (target, b) ← takeNat 2 b
  let (speed, b) ← takeNat 1 b
  let (approach, b) ← takeNat 3 b
  let (tolerance, b) ← takeNat 3 b
  let (timeout, b) ← takeNat 2 b
  pure (⟨target, speed, approach, tolerance, timeout⟩, b)

/-- R18: the parameters of HOLD_SETTLE. -/
def putSettle (p : SettleParams) : List Byte :=
  be 2 p.minimum ++ be 2 p.maximum ++ be 2 p.band ++ be 2 p.interval ++ be 1 p.limit ++ be 3 p.loadTolerance

/-- R18: the parameters of HOLD_SETTLE. -/
def takeSettle : Reader SettleParams := fun b => do
  let (minimum, b) ← takeNat 2 b
  let (maximum, b) ← takeNat 2 b
  let (band, b) ← takeNat 2 b
  let (interval, b) ← takeNat 2 b
  let (limit, b) ← takeNat 1 b
  let (loadTolerance, b) ← takeNat 3 b
  pure (⟨minimum, maximum, band, interval, limit, loadTolerance⟩, b)

/-- R18: an extension. -/
def putExtension (e : CreepExtension) : List Byte := be 2 e.t2b ++ be 2 e.logratio

/-- R18: an extension. -/
def takeExtension : Reader CreepExtension := fun b => do
  let (t2b, b) ← takeNat 2 b
  let (logratio, b) ← takeNat 2 b
  pure (⟨t2b, logratio⟩, b)

/-- R18: the parameters of HOLD_CREEP. -/
def putCreep (p : CreepParams) : List Byte :=
  be 2 p.t1 ++ be 2 p.t2 ++ be 2 p.logratio ++ optional 4 (p.extension.map putExtension)
    ++ beInt 4 p.limit ++ be 3 p.loadTolerance

/-- R18: the parameters of HOLD_CREEP. -/
def takeCreep : Reader CreepParams := fun b => do
  let (t1, b) ← takeNat 2 b
  let (t2, b) ← takeNat 2 b
  let (logratio, b) ← takeNat 2 b
  let (extension, b) ← takeOptional takeExtension b
  let (limit, b) ← takeInt 4 b
  let (loadTolerance, b) ← takeNat 3 b
  pure (⟨t1, t2, logratio, extension, limit, loadTolerance⟩, b)

/-- R18: the parameters of LOCKOFF. -/
def putLock (p : LockParams) : List Byte :=
  be 2 p.factor ++ be 1 p.seatWindow ++ be 1 p.releaseWindow ++ be 3 p.releaseLevel

/-- R18: the parameters of LOCKOFF. -/
def takeLock : Reader LockParams := fun b => do
  let (factor, b) ← takeNat 2 b
  let (seatWindow, b) ← takeNat 1 b
  let (releaseWindow, b) ← takeNat 1 b
  let (releaseLevel, b) ← takeNat 3 b
  pure (⟨factor, seatWindow, releaseWindow, releaseLevel⟩, b)

/-- R18, 00 Terms: the step kinds coded from 0 in the order of the table. -/
def stepCode : ProcStep → Nat
  | .loadTo _ => 0
  | .unloadTo _ => 1
  | .holdSettle _ => 2
  | .holdCreep _ => 3
  | .apparent => 4
  | .cellCheck => 5
  | .lockoff _ => 6
  | .finish => 7

/-- The parameters of a step. -/
def stepParams : ProcStep → List Byte
  | .loadTo p => putMove p
  | .unloadTo p => putMove p
  | .holdSettle p => putSettle p
  | .holdCreep p => putCreep p
  | .apparent => []
  | .cellCheck => []
  | .lockoff p => putLock p
  | .finish => []

/-- A step: its kind, then its parameters. -/
def putStep (p : ProcStep) : List Byte := be 1 (stepCode p) ++ stepParams p

/-- A step; a kind that R18 does not list cannot be measured and is no encoding (log 12). -/
def takeStep : Reader ProcStep := fun b => do
  let (k, b) ← takeNat 1 b
  match k with
  | 0 => do let (p, b) ← takeMove b; pure (.loadTo p, b)
  | 1 => do let (p, b) ← takeMove b; pure (.unloadTo p, b)
  | 2 => do let (p, b) ← takeSettle b; pure (.holdSettle p, b)
  | 3 => do let (p, b) ← takeCreep b; pure (.holdCreep p, b)
  | 4 => pure (.apparent, b)
  | 5 => pure (.cellCheck, b)
  | 6 => do let (p, b) ← takeLock b; pure (.lockoff p, b)
  | 7 => pure (.finish, b)
  | _ => none

/-- R17: the constants of a class in the order of the table, then the procedure. The reject exit NONE is an absent item
(log 12). -/
def putClass (c : ClassDef) : List Byte :=
  be 2 c.area ++ be 2 c.modulus ++ be 2 c.lowerFactor ++ be 2 c.bondFactor ++ be 3 c.minSpan
    ++ be 2 c.tolLow ++ be 2 c.tolHigh ++ be 3 c.crossAbsolute ++ be 2 c.crossRelative
    ++ be 2 c.pointInterval ++ flag c.groutFollows ++ optNat 1 c.rejectExit ++ counted putStep c.procedure

/-- R17: a class. -/
def takeClass : Reader ClassDef := fun b => do
  let (area, b) ← takeNat 2 b
  let (modulus, b) ← takeNat 2 b
  let (lowerFactor, b) ← takeNat 2 b
  let (bondFactor, b) ← takeNat 2 b
  let (minSpan, b) ← takeNat 3 b
  let (tolLow, b) ← takeNat 2 b
  let (tolHigh, b) ← takeNat 2 b
  let (crossAbsolute, b) ← takeNat 3 b
  let (crossRelative, b) ← takeNat 2 b
  let (pointInterval, b) ← takeNat 2 b
  let (groutFollows, b) ← takeFlag b
  let (rejectExit, b) ← takeOptional (takeNat 1) b
  let (procedure, b) ← takeCounted takeStep b
  pure (⟨area, modulus, lowerFactor, bondFactor, minSpan, tolLow, tolHigh, crossAbsolute, crossRelative,
    pointInterval, groutFollows, rejectExit, procedure⟩, b)

/-- R26: the kinds coded from 0 in the order of the list. -/
def kindCode : ChanConfig → Nat
  | .none => 0
  | .calibrated _ _ => 1
  | .scaled _ _ _ _ => 2
  | .counter _ _ _ => 3
  | .gauge _ _ => 4

/-- R27: the kind, then its parameters. -/
def putChanConfig (c : ChanConfig) : List Byte :=
  be 1 (kindCode c) ++
    match c with
    | .none => []
    | .calibrated t l => be 1 t ++ be 2 l
    | .scaled m d o l => beInt 2 m ++ be 2 d ++ beInt 3 o ++ be 2 l
    | .counter m d l => be 2 m ++ be 2 d ++ be 2 l
    | .gauge t l => be 1 t ++ be 2 l

/-- R27: the kind and its parameters; a kind that R26 does not list is no encoding (log 12). -/
def takeChanConfig : Reader ChanConfig := fun b => do
  let (k, b) ← takeNat 1 b
  match k with
  | 0 => pure (.none, b)
  | 1 => do
    let (t, b) ← takeNat 1 b
    let (l, b) ← takeNat 2 b
    pure (.calibrated t l, b)
  | 2 => do
    let (m, b) ← takeInt 2 b
    let (d, b) ← takeNat 2 b
    let (o, b) ← takeInt 3 b
    let (l, b) ← takeNat 2 b
    pure (.scaled m d o l, b)
  | 3 => do
    let (m, b) ← takeNat 2 b
    let (d, b) ← takeNat 2 b
    let (l, b) ← takeNat 2 b
    pure (.counter m d l, b)
  | 4 => do
    let (t, b) ← takeNat 1 b
    let (l, b) ← takeNat 2 b
    pure (.gauge t l, b)
  | _ => none

/-- R41: a breakpoint. -/
def putBreakpoint (p : Nat × Int) : List Byte := be 4 p.1 ++ beInt 3 p.2

/-- R41: a breakpoint. -/
def takeBreakpoint : Reader (Nat × Int) := fun b => do
  let (x, b) ← takeNat 4 b
  let (v, b) ← takeInt 3 b
  pure ((x, v), b)

/-- R45: the items of a cell. -/
def putCellConfig (c : CellConfig) : List Byte :=
  be 2 c.nRef ++ be 2 c.mMin ++ be 2 c.reuseAge ++ be 2 c.surveyPeriod ++ be 1 c.output

/-- R45: the items of a cell. -/
def takeCellConfig : Reader CellConfig := fun b => do
  let (nRef, b) ← takeNat 2 b
  let (mMin, b) ← takeNat 2 b
  let (reuseAge, b) ← takeNat 2 b
  let (surveyPeriod, b) ← takeNat 2 b
  let (output, b) ← takeNat 1 b
  pure (⟨nRef, mMin, reuseAge, surveyPeriod, output⟩, b)

/-- R62: the items of a binding in the order of the rule. -/
def putBinding (c : Binding) : List Byte :=
  be 1 c.jack ++ be 1 c.force ++ be 1 c.extension ++ be 1 c.seat ++ be 1 c.cell ++ be 4 c.stroke

/-- R62: the items of a binding. -/
def takeBinding : Reader Binding := fun b => do
  let (jack, b) ← takeNat 1 b
  let (force, b) ← takeNat 1 b
  let (extension, b) ← takeNat 1 b
  let (seat, b) ← takeNat 1 b
  let (cell, b) ← takeNat 1 b
  let (stroke, b) ← takeNat 4 b
  pure (⟨jack, force, extension, seat, cell, stroke⟩, b)

/-- R114, R115: the configuration items in the order of the table. A classifier NONE is an absent item (log 12). -/
def putPlacementConfig (c : PlacementConfig) : List Byte :=
  be 1 c.winchNode ++ be 1 c.pumpNode ++ be 1 c.payout ++ be 1 c.flow ++ be 1 c.tension ++ be 1 c.pressure
    ++ be 1 c.ret ++ optNat 1 c.tensionX ++ optNat 1 c.pressureX ++ be 1 c.winchSpeed ++ be 1 c.pumpSpeed
    ++ be 2 c.winchTimeout

/-- R115: the configuration items, a classifier NONE as an absent item (log 12). -/
def takePlacementConfig : Reader PlacementConfig := fun b => do
  let (winchNode, b) ← takeNat 1 b
  let (pumpNode, b) ← takeNat 1 b
  let (payout, b) ← takeNat 1 b
  let (flow, b) ← takeNat 1 b
  let (tension, b) ← takeNat 1 b
  let (pressure, b) ← takeNat 1 b
  let (ret, b) ← takeNat 1 b
  let (tensionX, b) ← takeOptional (takeNat 1) b
  let (pressureX, b) ← takeOptional (takeNat 1) b
  let (winchSpeed, b) ← takeNat 1 b
  let (pumpSpeed, b) ← takeNat 1 b
  let (winchTimeout, b) ← takeNat 2 b
  pure (⟨winchNode, pumpNode, payout, flow, tension, pressure, ret, tensionX, pressureX, winchSpeed,
    pumpSpeed, winchTimeout⟩, b)

/-- R134: the direction, ABOVE 0 and BELOW 1. -/
def sideCode : Side → Nat
  | .above => 0
  | .below => 1

/-- R134: the direction. -/
def takeSide : Reader Side := fun b => do
  let (k, b) ← takeNat 1 b
  match k with
  | 0 => pure (.above, b)
  | 1 => pure (.below, b)
  | _ => none

/-- R134, R135: the configuration items of a classifier. -/
def putClassifierConfig (c : ClassifierConfig) : List Byte :=
  be 1 c.watched ++ be 1 (sideCode c.side) ++ beInt 4 c.level ++ be 3 c.hysteresis ++ be 2 c.tSpike
    ++ be 2 c.tHold ++ be 2 c.tLong ++ flag c.spikeReject

/-- R135: the configuration items of a classifier. -/
def takeClassifierConfig : Reader ClassifierConfig := fun b => do
  let (watched, b) ← takeNat 1 b
  let (side, b) ← takeSide b
  let (level, b) ← takeInt 4 b
  let (hysteresis, b) ← takeNat 3 b
  let (tSpike, b) ← takeNat 2 b
  let (tHold, b) ← takeNat 2 b
  let (tLong, b) ← takeNat 2 b
  let (spikeReject, b) ← takeFlag b
  pure (⟨watched, side, level, hysteresis, tSpike, tHold, tLong, spikeReject⟩, b)

/-- R142: a source with its parameters; the threshold, invert and edge follow for a CHANNEL source. -/
def putSource : TripSource → List Byte
  | .channel m t i e => be 1 0 ++ be 1 m ++ beInt 4 t ++ flag i ++ flag e
  | .events x k => be 1 1 ++ be 1 x ++ be 1 k
  | .ringError => be 1 2
  | .gaugeFault => be 1 3

/-- R142: a source; one that R141 does not list is no encoding (log 12). -/
def takeSource : Reader TripSource := fun b => do
  let (k, b) ← takeNat 1 b
  match k with
  | 0 => do
    let (m, b) ← takeNat 1 b
    let (t, b) ← takeInt 4 b
    let (i, b) ← takeFlag b
    let (e, b) ← takeFlag b
    pure (.channel m t i e, b)
  | 1 => do
    let (x, b) ← takeNat 1 b
    let (k, b) ← takeNat 1 b
    pure (.events x k, b)
  | 2 => pure (.ringError, b)
  | 3 => pure (.gaugeFault, b)
  | _ => none

/-- R142: the items of LOAD_TRIP after the counter. -/
def putTripConfig (c : TripConfig) : List Byte :=
  flag c.enabled ++ putSource c.source ++ flag c.freezeEnable ++ be 2 c.preload

/-- R142: the items of LOAD_TRIP after the counter. -/
def takeTripConfig : Reader TripConfig := fun b => do
  let (enabled, b) ← takeFlag b
  let (source, b) ← takeSource b
  let (freezeEnable, b) ← takeFlag b
  let (preload, b) ← takeNat 2 b
  pure (⟨enabled, source, freezeEnable, preload⟩, b)

/-- R168: the items of a poll entry; the slot count is the count byte of the mappings, and an unmapped slot an absent item
(log 12). -/
def putPollConfig (c : PollConfig) : List Byte :=
  be 1 c.node ++ be 1 c.kind ++ be 2 c.period ++ counted (optNat 1) c.slots

/-- R168: the items of a poll entry. For the mark "empty" they are the five zero bytes of an entry with no slot
(log 12). -/
def takePollConfig : Reader PollConfig := fun b => do
  let (node, b) ← takeNat 1 b
  let (kind, b) ← takeNat 1 b
  let (period, b) ← takeNat 2 b
  let (slots, b) ← takeCounted (takeOptional (takeNat 1)) b
  pure (⟨node, kind, period, slots⟩, b)

/-- R173: the mode parameters. -/
def putSchedule (p : ScheduleParams) : List Byte :=
  be 1 p.high ++ be 1 p.low ++ be 1 p.commandStarve ++ be 1 p.pollStarve

/-- R173: the mode parameters. -/
def takeSchedule : Reader ScheduleParams := fun b => do
  let (high, b) ← takeNat 1 b
  let (low, b) ← takeNat 1 b
  let (commandStarve, b) ← takeNat 1 b
  let (pollStarve, b) ← takeNat 1 b
  pure (⟨high, low, commandStarve, pollStarve⟩, b)

/-- R20: the place, FRONT 0 and BACK 1. -/
def placeCode : Place → Nat
  | .front => 0
  | .back => 1

/-- R20: the place. -/
def takePlace : Reader Place := fun b => do
  let (k, b) ← takeNat 1 b
  match k with
  | 0 => pure (.front, b)
  | 1 => pure (.back, b)
  | _ => none

/-- R57: the reference choice, REUSE 0 and FRESH 1. -/
def choiceCode : ReferenceChoice → Nat
  | .reuse => 0
  | .fresh => 1

/-- R57: the reference choice. -/
def takeChoice : Reader ReferenceChoice := fun b => do
  let (k, b) ← takeNat 1 b
  match k with
  | 0 => pure (.reuse, b)
  | 1 => pure (.fresh, b)
  | _ => none

/-! ### Requests (08 section 8.8, request codes) -/

/-- The request code of LOAD_PART. -/
abbrev loadPartCode : Nat := 0x63

/-- The request codes, in hexadecimal as the manual gives them. -/
def requestCode : Request → Nat
  | .loadAnchor _ _ => 0x10
  | .readAnchor _ => 0x11
  | .withdrawAnchor _ => 0x12
  | .retryAnchor _ => 0x13
  | .loadClass _ _ => 0x14
  | .readClass _ => 0x15
  | .enqueueStress _ _ => 0x16
  | .dequeueStress _ => 0x17
  | .readOrder => 0x18
  | .setExclusion _ => 0x19
  | .configChannel _ _ => 0x20
  | .readChannel _ => 0x21
  | .loadTable _ _ => 0x22
  | .readTable _ => 0x23
  | .configCell _ _ => 0x28
  | .measureCell _ _ => 0x29
  | .readCell _ => 0x2A
  | .bindChannel _ _ _ => 0x30
  | .unbindChannel _ => 0x31
  | .setAutoTake _ _ => 0x32
  | .readStress _ => 0x33
  | .startStress _ _ => 0x34
  | .haltChannel _ => 0x35
  | .configPlacement _ => 0x38
  | .readPlacement => 0x39
  | .startPlace _ => 0x3A
  | .configClassifier _ _ => 0x40
  | .readClassifier _ => 0x41
  | .loadTrip _ _ => 0x42
  | .clearTrip _ => 0x43
  | .readTrip => 0x44
  | .freeze => 0x45
  | .thaw => 0x46
  | .configRing _ => 0x48
  | .readRing => 0x49
  | .readPending _ => 0x50
  | .loadPoll _ _ => 0x51
  | .readPolls => 0x52
  | .configSchedule _ => 0x53
  | .readSchedule => 0x54
  | .readLog _ _ => 0x58
  | .trimLog _ => 0x59
  | .setWatermark _ => 0x5A
  | .clearOverrun => 0x5B
  | .readLogState => 0x5C
  | .readStatus => 0x60
  | .setTime _ => 0x61
  | .restart => 0x62
  | .readPart _ => 0x64
  | .clearEstop => 0x65

/-- The body of a request: the items its rule lists, in that order. A group of items that stands beside a mark
("unconfigured", "empty", "disabled") is an item that may be absent, with zeros of its shortest length; after the mark
"empty" of a LOAD_POLL five zero bytes, an entry with no slot (log 12). -/
def requestBody : Request → List Byte
  | .loadAnchor slot d => be 1 slot ++ putDesign d
  | .readAnchor slot => be 1 slot
  | .withdrawAnchor slot => be 1 slot
  | .retryAnchor slot => be 1 slot
  | .loadClass k c => be 1 k ++ putClass c
  | .readClass k => be 1 k
  | .enqueueStress slot p => be 1 slot ++ be 1 (placeCode p)
  | .dequeueStress slot => be 1 slot
  | .readOrder => []
  | .setExclusion d => be 1 d
  | .configChannel m c => be 1 m ++ putChanConfig c
  | .readChannel m => be 1 m
  | .loadTable t bps => be 1 t ++ counted putBreakpoint bps
  | .readTable t => be 1 t
  | .configCell c cfg => be 1 c ++ optional 9 (cfg.map putCellConfig)
  | .measureCell c r => be 1 c ++ be 1 (choiceCode r)
  | .readCell c => be 1 c
  | .bindChannel n b auto => be 1 n ++ putBinding b ++ flag auto
  | .unbindChannel n => be 1 n
  | .setAutoTake n auto => be 1 n ++ flag auto
  | .readStress n => be 1 n
  | .startStress n slot => be 1 n ++ be 1 slot
  | .haltChannel n => be 1 n
  | .configPlacement cfg => optional 15 (cfg.map putPlacementConfig)
  | .readPlacement => []
  | .startPlace slot => be 1 slot
  | .configClassifier x cfg => be 1 x ++ optional 16 (cfg.map putClassifierConfig)
  | .readClassifier x => be 1 x
  | .loadTrip q c => be 1 q ++ putTripConfig c
  | .clearTrip mask => be 1 mask
  | .readTrip => []
  | .freeze => []
  | .thaw => []
  | .configRing timeout => be 1 timeout
  | .readRing => []
  | .readPending node => be 1 node
  | .loadPoll e cfg => be 1 e ++ optional 5 (cfg.map putPollConfig)
  | .readPolls => []
  | .configSchedule p => putSchedule p
  | .readSchedule => []
  | .readLog start count => word start ++ be 1 count
  | .trimLog seq => word seq
  | .setWatermark w => be 2 w
  | .clearOverrun => []
  | .readLogState => []
  | .readStatus => []
  | .setTime minute => word minute
  | .restart => []
  | .readPart part => be 1 part
  | .clearEstop => []

/-- A request whose body is one byte. -/
def oneByte (f : Nat → Request) : Reader Request := fun b => do
  let (v, b) ← takeNat 1 b
  pure (f v, b)

/-- The reader of a request's body, by its code; a code that no block owns has none (R190). -/
def takeRequest (code : Nat) : Reader Request := fun b =>
  match code with
  | 0x10 => do
    let (slot, b) ← takeNat 1 b
    let (d, b) ← takeDesign b
    pure (.loadAnchor slot d, b)
  | 0x11 => oneByte .readAnchor b
  | 0x12 => oneByte .withdrawAnchor b
  | 0x13 => oneByte .retryAnchor b
  | 0x14 => do
    let (k, b) ← takeNat 1 b
    let (c, b) ← takeClass b
    pure (.loadClass k c, b)
  | 0x15 => oneByte .readClass b
  | 0x16 => do
    let (slot, b) ← takeNat 1 b
    let (p, b) ← takePlace b
    pure (.enqueueStress slot p, b)
  | 0x17 => oneByte .dequeueStress b
  | 0x18 => some (.readOrder, b)
  | 0x19 => oneByte .setExclusion b
  | 0x20 => do
    let (m, b) ← takeNat 1 b
    let (c, b) ← takeChanConfig b
    pure (.configChannel m c, b)
  | 0x21 => oneByte .readChannel b
  | 0x22 => do
    let (t, b) ← takeNat 1 b
    let (bps, b) ← takeCounted takeBreakpoint b
    pure (.loadTable t bps, b)
  | 0x23 => oneByte .readTable b
  | 0x28 => do
    let (c, b) ← takeNat 1 b
    let (cfg, b) ← takeOptional takeCellConfig b
    pure (.configCell c cfg, b)
  | 0x29 => do
    let (c, b) ← takeNat 1 b
    let (r, b) ← takeChoice b
    pure (.measureCell c r, b)
  | 0x2A => oneByte .readCell b
  | 0x30 => do
    let (n, b) ← takeNat 1 b
    let (c, b) ← takeBinding b
    let (auto, b) ← takeFlag b
    pure (.bindChannel n c auto, b)
  | 0x31 => oneByte .unbindChannel b
  | 0x32 => do
    let (n, b) ← takeNat 1 b
    let (auto, b) ← takeFlag b
    pure (.setAutoTake n auto, b)
  | 0x33 => oneByte .readStress b
  | 0x34 => do
    let (n, b) ← takeNat 1 b
    let (slot, b) ← takeNat 1 b
    pure (.startStress n slot, b)
  | 0x35 => oneByte .haltChannel b
  | 0x38 => do
    let (cfg, b) ← takeOptional takePlacementConfig b
    pure (.configPlacement cfg, b)
  | 0x39 => some (.readPlacement, b)
  | 0x3A => oneByte .startPlace b
  | 0x40 => do
    let (x, b) ← takeNat 1 b
    let (cfg, b) ← takeOptional takeClassifierConfig b
    pure (.configClassifier x cfg, b)
  | 0x41 => oneByte .readClassifier b
  | 0x42 => do
    let (q, b) ← takeNat 1 b
    let (c, b) ← takeTripConfig b
    pure (.loadTrip q c, b)
  | 0x43 => oneByte .clearTrip b
  | 0x44 => some (.readTrip, b)
  | 0x45 => some (.freeze, b)
  | 0x46 => some (.thaw, b)
  | 0x48 => oneByte .configRing b
  | 0x49 => some (.readRing, b)
  | 0x50 => oneByte .readPending b
  | 0x51 => do
    let (e, b) ← takeNat 1 b
    let (cfg, b) ← takeOptional takePollConfig b
    pure (.loadPoll e cfg, b)
  | 0x52 => some (.readPolls, b)
  | 0x53 => do
    let (p, b) ← takeSchedule b
    pure (.configSchedule p, b)
  | 0x54 => some (.readSchedule, b)
  | 0x58 => do
    let (start, b) ← takeWord b
    let (count, b) ← takeNat 1 b
    pure (.readLog start count, b)
  | 0x59 => do
    let (seq, b) ← takeWord b
    pure (.trimLog seq, b)
  | 0x5A => do
    let (w, b) ← takeNat 2 b
    pure (.setWatermark w, b)
  | 0x5B => some (.clearOverrun, b)
  | 0x5C => some (.readLogState, b)
  | 0x60 => some (.readStatus, b)
  | 0x61 => do
    let (minute, b) ← takeWord b
    pure (.setTime minute, b)
  | 0x62 => some (.restart, b)
  | 0x64 => oneByte .readPart b
  | 0x65 => some (.clearEstop, b)
  | _ => none

/-- R190: the request that a code and a body spell; `none` for a code that no block owns and for a body
shorter or longer than its items require. -/
def decodeRequest (code : Nat) (body : List Byte) : Option Request := whole (takeRequest code body)

/-- R190, R192: a code that some block owns, LOAD_PART's own among them. -/
def ownedCode (code : Nat) : Bool :=
  code ∈ [0x10, 0x11, 0x12, 0x13, 0x14, 0x15, 0x16, 0x17, 0x18, 0x19, 0x20, 0x21, 0x22, 0x23, 0x28, 0x29, 0x2A,
    0x30, 0x31, 0x32, 0x33, 0x34, 0x35, 0x38, 0x39, 0x3A, 0x40, 0x41, 0x42, 0x43, 0x44, 0x45, 0x46, 0x48, 0x49,
    0x50, 0x51, 0x52, 0x53, 0x54, 0x58, 0x59, 0x5A, 0x5B, 0x5C, 0x60, 0x61, 0x62, 0x63, 0x64, 0x65]

/-- R192: the items of LOAD_PART: target code, part number, last flag, and the 0 … 119 bytes as a list, its count byte
before them (section 8.8). -/
def takePart : List Byte → Option (Nat × Nat × Bool × List Byte)
  | target :: part :: rest =>
    match takeFlag rest with
    | some (last, count :: bytes) =>
      if count.toNat = bytes.length ∧ bytes.length ≤ 119 then some (target.toNat, part.toNat, last, bytes) else none
    | _ => none
  | _ => none

end Sys2Proof.Machine
end

