-- ==== Sys2Proof/Machine/Ops.lean ====
section
/-! DEFINITION. The named operations that every family of commands uses: reading and updating one block or one
numbered item of the state, writing a record into the test log, presenting a command to the queue, and placing
a halt in the priority list. -/

namespace Sys2Proof.Machine

open Sys2Proof Sys2Proof.Config

/-! ### One block of the state -/

/-- The state with its anchor table updated. -/
def State.onAnchorTable (s : State) (f : AnchorTable → AnchorTable) : State :=
  { s with anchorTable := f s.anchorTable }

/-- The state with its measurement block updated. -/
def State.onMeasure (s : State) (f : Measure → Measure) : State := { s with measure := f s.measure }

/-- The state with its gauge block updated. -/
def State.onGauge (s : State) (f : Gauge → Gauge) : State := { s with gauge := f s.gauge }

/-- The state with stressing channel `n` updated. -/
def State.onStress (s : State) (n : Nat) (f : Stress → Stress) : State :=
  { s with stress := put s.stress n (f (look s.stress n)) }

/-- The state with its placement unit updated. -/
def State.onPlacement (s : State) (f : Placement → Placement) : State := { s with placement := f s.placement }

/-- The state with classifier `x` updated. -/
def State.onClassifier (s : State) (x : Nat) (f : Classifier → Classifier) : State :=
  { s with classifiers := put s.classifiers x (f (look s.classifiers x)) }

/-- The state with its trip-counter block updated. -/
def State.onTrip (s : State) (f : Trip → Trip) : State := { s with trip := f s.trip }

/-- The state with its log updated. -/
def State.onLog (s : State) (f : TestLog → TestLog) : State := { s with log := f s.log }

/-- The state with its ring interface updated. -/
def State.onRing (s : State) (f : Ring → Ring) : State := { s with ring := f s.ring }

/-- The state with its ring scheduler updated. -/
def State.onSched (s : State) (f : Sched → Sched) : State := { s with sched := f s.sched }

/-- The state with its station-request block updated. -/
def State.onStation (s : State) (f : Station → Station) : State := { s with station := f s.station }

/-- A hand-out pass has been started (R24); it is made at the end of the change (log 20). -/
def State.startPass (s : State) : State := { s with passDue := true }

/-! ### Numbered items -/

/-- Anchor slot `slot`. -/
def anchorAt (s : State) (slot : Nat) : Anchor := look s.anchorTable.slots slot

/-- The state with an anchor record updated. -/
def State.onAnchor (s : State) (slot : Nat) (f : Anchor → Anchor) : State :=
  s.onAnchorTable fun t => { t with slots := put t.slots slot (f (look t.slots slot)) }

/-- The design fields of a slot; only a FREE slot has none, and no rule reads them there. -/
def designOf (s : State) (slot : Nat) : Design := (anchorAt s slot).design.getD default

/-- Class `k`; an empty class is read by no rule (R19). -/
def classAt (s : State) (k : Nat) : ClassDef := (look s.anchorTable.classes k).getD default

/-- The class of the anchor in a slot, as the class stands now (R17). -/
def classOf (s : State) (slot : Nat) : ClassDef := classAt s (designOf s slot).klass

/-- Measurement channel `m`. -/
def channelAt (s : State) (m : Nat) : Channel := look s.measure.channels m

/-- The state with a measurement channel updated. -/
def State.onChannel (s : State) (m : Nat) (f : Channel → Channel) : State :=
  s.onMeasure fun b => { b with channels := put b.channels m (f (look b.channels m)) }

/-- The value of a channel as it stands, 0 where a channel of kind NONE has none (log 10, log 11). -/
def valueOf (s : State) (m : Nat) : Int := (channelAt s m).value.getD 0

/-- The range mark of a channel as it stands, IN where a channel of kind NONE has none (log 10, log 11). -/
def markOf (s : State) (m : Nat) : Mark := (channelAt s m).mark.getD .within

/-- R38: the channel is FRESH. -/
def isFresh (s : State) (m : Nat) : Bool := (channelAt s m).fresh

/-- Calibration table `t`, empty as the empty list. -/
def tableAt (s : State) (t : Nat) : List (Nat × Int) := look s.measure.tables t

/-- Cell input `c`. -/
def cellAt (s : State) (c : Nat) : Cell := look s.gauge.cells c

/-- The state with a cell input updated. -/
def State.onCell (s : State) (c : Nat) (f : Cell → Cell) : State :=
  s.onGauge fun g => { g with cells := put g.cells c (f (look g.cells c)) }

/-- Stressing channel `n`. -/
def stressAt (s : State) (n : Nat) : Stress := look s.stress n

/-- The working data of stressing channel `n`. -/
def workOf (s : State) (n : Nat) : Work := (stressAt s n).work

/-- The binding of stressing channel `n`; no rule reads it in UNBOUND. -/
def bindingOf (s : State) (n : Nat) : Binding := (stressAt s n).binding.getD default

/-- The state with the working data of stressing channel `n` updated. -/
def State.onWork (s : State) (n : Nat) (f : Work → Work) : State :=
  s.onStress n fun c => { c with work := f c.work }

/-- The state with stressing channel `n` in another of its states. -/
def State.setMode (s : State) (n : Nat) (m : StressMode) : State := s.onStress n fun c => { c with mode := m }

/-- 04, section 4.1: the channel holds an anchor, in RUNNING, STALLED, FROZEN and LOCKING. -/
def holdsAnchor (s : State) (n : Nat) : Bool :=
  match (stressAt s n).mode with
  | .running => true
  | .stalled => true
  | .frozen => true
  | .locking => true
  | .idle => false
  | .unbound => false

/-- The slot bound to stressing channel `n`. -/
def slotOf (s : State) (n : Nat) : Nat := (workOf s n).slot.getD 0

/-- Classifier `x`. -/
def classifierAt (s : State) (x : Nat) : Classifier := look s.classifiers x

/-- Trip counter `q`. -/
def counterAt (s : State) (q : Nat) : Counter := look s.trip.counters q

/-- R165: the owner of a node address 1 … 62. -/
def ownerOf (s : State) (node : Nat) : Option Owner :=
  if within 1 62 node then look s.ring.owners (node - 1) else none

/-- R165: the state with the owner of a node address set or released. -/
def State.setOwner (s : State) (node : Nat) (o : Option Owner) : State :=
  if within 1 62 node then s.onRing fun r => { r with owners := put r.owners (node - 1) o } else s

/-- The four stressing channels, lowest number first. -/
def channels4 : List Nat := [0, 1, 2, 3]

/-- The ring is UP. -/
def ringUp (s : State) : Bool := s.ring.state == .up

/-- The current tick (R194). -/
def now (s : State) : Word32 := s.station.tick

/-! ### Records of the test log (R182 to R186) -/

/-- R182: the number of entries held. -/
def occupancy (l : TestLog) : Nat := (l.next - l.oldest).toNat

/-- R182: a sequence number is held. -/
def seqHeld (l : TestLog) (seq : Word32) : Bool := decide ((seq - l.oldest).toNat < occupancy l)

/-- R186: the attention mark judged against the watermark. -/
def judgeAttention (l : TestLog) : TestLog := { l with attention := decide (l.watermark ≤ occupancy l) }

/-- Section 8.8: a record carries at most 63 data bytes, 7 in its head and 8 in each of 7 continuations. -/
def recordData (r : LogRecord) : List Byte := r.data.take 63

/-- Section 10.2: the entries that a record takes. -/
def recordLength (r : LogRecord) : Nat := 1 + ((recordData r).length - 7 + 7) / 8

/-- Section 8.8: unused bytes are 0. -/
def padded (k : Nat) (bs : List Byte) : List Byte := bs.take k ++ List.replicate (k - bs.length) 0

/-- Section 8.8: the kind byte of a head entry. -/
def recordKindCode : RecordKind → Nat
  | .start => 1
  | .step => 2
  | .point => 3
  | .stage => 4
  | .complete => 5
  | .event => 6
  | .fault => 7
  | .verdict => 8
  | .freeze => 9
  | .halt => 10

/-- Section 8.8, R183: the entries of a record from the sequence number its head takes. -/
def recordEntries (seq : Word32) (r : LogRecord) : List LogEntry :=
  { seq := seq, tick := r.tick, kind := recordKindCode r.kind, unit := r.unit, slot := r.slot, detail := r.detail
    data := be 1 (recordLength r - 1) ++ padded 7 (recordData r) } ::
  (List.range (recordLength r - 1)).map fun i =>
    { seq := seq + BitVec.ofNat 32 (i + 1), tick := r.tick, kind := 15, unit := r.unit, slot := r.slot
      detail := i + 1, data := padded 8 ((recordData r).drop (7 + 8 * i)) }

/-- R183: a record taken: its entries at the back, the next sequence number advanced, the mark judged. -/
def appendRecord (r : LogRecord) (l : TestLog) : TestLog :=
  judgeAttention { l with
    entries := l.entries ++ recordEntries l.next r
    next := l.next + BitVec.ofNat 32 (recordLength r) }

/-- R184: the log takes an ordinary record. -/
def ordinaryRoom (l : TestLog) : Bool := decide (occupancy l < logOrdinary)

/-- R184, R185: a reserve record is written, or it is refused and OVERRUN is set. -/
def writeReserve (r : LogRecord) (s : State) : State :=
  if occupancy s.log + recordLength r ≤ logCapacity then s.onLog (appendRecord r)
  else s.onLog fun l => { l with overrun := true }

/-- R109, R133, R184: an ordinary record is written, or dropped where the log does not take it. -/
def writeOrDrop (r : LogRecord) (s : State) : State :=
  if ordinaryRoom s.log then s.onLog (appendRecord r) else s

/-! ### The command queue and the priority list (R174 to R177) -/

/-- R174: the entry has this node and this class. -/
def sameKey (node : Nat) (k : CommandClass) (e : QueueEntry) : Bool :=
  e.node == node && commandClass e.command == k

/-- R174: whether the queue answers "taken" to a presentation. -/
def queueTakes (s : State) (node : Nat) (c : Command) : Bool :=
  ringUp s && (s.sched.queue.any (sameKey node (commandClass c)) || decide (s.sched.queue.length < queueMax))

/-- R174: the queue after a presentation that it takes: the entry of the key replaced in place, or a new entry
at the back with the current tick. -/
def queueWith (tick : Word32) (node : Nat) (c : Command) (origin : Owner) (q : List QueueEntry) : List QueueEntry :=
  if q.any (sameKey node (commandClass c)) then
    q.map fun e => if sameKey node (commandClass c) e then { e with command := c, origin := origin } else e
  else q ++ [{ node := node, command := c, origin := origin, enqueued := tick }]

/-- R174: a unit presents a command; a presentation that is not taken changes nothing. -/
def present (node : Nat) (c : Command) (origin : Owner) (s : State) : State :=
  if queueTakes s node c then
    s.onSched fun d => { d with queue := queueWith (now s) node c origin d.queue }
  else s

/-- R176: room for a new entry: when the list is full, the oldest entry whose node is not owned goes. -/
def priorityRoom (s : State) (p : List PriorityEntry) : List PriorityEntry :=
  if p.length < priorityMax then p else p.eraseP fun e => (ownerOf s e.node).isNone

/-- R114: the placement unit's configuration; a run exists only in a configured unit (R120). -/
def placementConfig (s : State) : PlacementConfig := s.placement.config.getD default

/-- R117, R179: a stop that the placement unit places by the priority route for a node is the recorded command of
that node at once, whichever rule places it (log 23). A stop for a node that the unit no longer names is no record
of the node that it names now. -/
def recordStop (node : Nat) (c : Command) (origin : Owner) (s : State) : State :=
  match origin, c with
  | .pu, .winchStop =>
    if (placementConfig s).winchNode = node then s.onPlacement fun p => { p with winchCommand := some .stop } else s
  | .pu, .pumpStop =>
    if (placementConfig s).pumpNode = node then s.onPlacement fun p => { p with pumpCommand := some .stop } else s
  | _, _ => s

/-- R176: the priority list after a placement, with the state's ownership table. -/
def priorityWith (s : State) (node : Nat) (c : Command) (origin : Owner) (p : List PriorityEntry) :
    List PriorityEntry :=
  if p.any (·.node == node) then
    p.map fun e => if e.node == node then { e with command := c, origin := origin } else e
  else priorityRoom s p ++ [{ node := node, command := c, origin := origin }]

/-- R176: a halt is placed for a node, and every queue entry of the node is removed. -/
def placeHalt (node : Nat) (c : Command) (origin : Owner) (s : State) : State :=
  recordStop node c origin (s.onSched fun d =>
    { d with
      priority := priorityWith s node c origin d.priority
      queue := d.queue.filter fun e => !(e.node == node) })

/-- R164, R177: the halt for an owned node: JACK_HOLD for a jack node, WINCH_STOP or PUMP_STOP for the
placement unit's nodes. -/
def haltOf (s : State) (node : Nat) : Owner → Command
  | .sc _ => .jackHold
  | .pu =>
    match s.placement.config with
    | some c => if c.winchNode = node then .winchStop else .pumpStop
    | none => .pumpStop

/-- R177: the halt of the sweep for one node address, placed when the node is owned. -/
def sweepNode (s : State) (node : Nat) : State :=
  match ownerOf s node with
  | some o => placeHalt node (haltOf s node o) o s
  | none => s

/-- The node addresses 1 … 62 in rising order. -/
def nodes62 : List Nat := (List.range 62).map (· + 1)

/-- R177: the halt sweep. -/
def haltSweep (s : State) : State := nodes62.foldl sweepNode s

/-- R196: the number of owned nodes. -/
def ownedCount (s : State) : Nat := nodes62.countP fun a => (ownerOf s a).isSome

/-! ### Units in records (08 section 8.8) -/

/-- The unit byte of the placement unit. -/
abbrev unitPU : Nat := 4
/-- The unit byte of the trip counters. -/
abbrev unitTrip : Nat := 5
/-- The unit byte of the station-request block. -/
abbrev unitStation : Nat := 6
/-- The slot byte where a record names no slot. -/
abbrev noSlot : Nat := 255

/-- The owner as a byte: SC0 … SC3 0 … 3, PU 4. -/
def ownerCode : Owner → Nat
  | .sc n => n
  | .pu => 4

/-- R2: the phases coded from FREE 0 to HALTED 10. -/
def phaseCode : Phase → Nat
  | .free => 0
  | .defined => 1
  | .winching => 2
  | .placed => 3
  | .grouting => 4
  | .curing => 5
  | .ready => 6
  | .stressing => 7
  | .accepted => 8
  | .rejected => 9
  | .halted => 10

/-- R14: the halt causes coded from 0 in the order of the table. -/
def causeCode : HaltCause → Nat
  | .overload => 0
  | .strokeOut => 1
  | .sensorStale => 2
  | .loadTimeout => 3
  | .station => 4
  | .cellFault => 5
  | .cellMismatch => 6
  | .seatIncomplete => 7
  | .releaseTimeout => 8
  | .snag => 9
  | .winchTimeout => 10
  | .groutExcess => 11
  | .blockage => 12
  | .nodeAbsent => 13
  | .estop => 14
  | .ring => 15
  | .restart => 16

/-- Section 8.8, detail codes 16 … 32: the halt causes. -/
def causeDetail (c : HaltCause) : Nat := 16 + causeCode c

/-- R2: the rejection causes coded from 0 in the order of the table. -/
def rejectCode : RejectCause → Nat
  | .apparentLow => 0
  | .apparentHigh => 1
  | .noSpan => 2
  | .creep => 3
  | .lockoffLow => 4
  | .lockoffHigh => 5

/-- Section 8.8, detail codes 1 … 6: the rejection causes. -/
def rejectDetail (c : RejectCause) : Nat := 1 + rejectCode c

/-- R26: the range marks coded from 0: IN, UNDER, OVER. -/
def markCode : Mark → Nat
  | .within => 0
  | .under => 1
  | .over => 2

/-- A force, 3 bytes: the force range is a 24-bit range. -/
def putForce (v : Int) : List Byte := beInt 3 v

/-- A force with its range mark. -/
def putForceMark (s : State) (m : Nat) : List Byte := putForce (valueOf s m) ++ be 1 (markCode (markOf s m))

/-- R26: the freshness coded from 0: FRESH, STALE. -/
def freshCode (fresh : Bool) : Nat := if fresh then 0 else 1

/-- A channel's value of `w` bytes with its range mark and freshness. A channel of kind NONE has no value and no mark
(R26); they are sent as 0 and IN, without a presence byte (log 10, log 11). -/
def putValue (w : Nat) (s : State) (m : Nat) : List Byte :=
  beInt w (valueOf s m) ++ be 1 (markCode (markOf s m)) ++ be 1 (freshCode (isFresh s m))

end Sys2Proof.Machine
end

