-- ==== Sys2Proof/Machine/Flags.lean ====
section
/-! DEFINITION. The conditions and marks that the rules read: what is in use, what holds an order-list entry
back, and the part-wide conditions of a hand-out pass. -/

namespace Sys2Proof.Machine

open Sys2Proof Sys2Proof.Config

/-! ### In use (R28) -/

/-- R28: the channel serves a stressing channel that holds an anchor: as its force, extension or seat-mask
channel, or as the output channel of its cell. -/
def servesStress (s : State) (m n : Nat) : Bool :=
  holdsAnchor s n &&
    ((bindingOf s n).force == m || (bindingOf s n).extension == m || (bindingOf s n).seat == m
      || (match (cellAt s (bindingOf s n).cell).config with
          | some c => c.output == m
          | none => false))

/-- R28: the channel is one of the placement unit's five. -/
def placementNames (c : PlacementConfig) (m : Nat) : Bool :=
  c.payout == m || c.tension == m || c.flow == m || c.pressure == m || c.ret == m

/-- R28: the placement unit is WINCHING, GROUTING or PAUSED. -/
def placementBusy (s : State) : Bool := !(s.placement.mode == .idle)

/-- R28: a measurement channel is in use. -/
def channelInUse (s : State) (m : Nat) : Bool :=
  channels4.any (servesStress s m)
    || (placementBusy s && (match s.placement.config with
        | some c => placementNames c m
        | none => false))

/-- R28, R42: the CALIBRATED or GAUGE channel names the table. -/
def namesTable (c : ChanConfig) (t : Nat) : Bool :=
  match c with
  | .calibrated u _ => u == t
  | .gauge u _ => u == t
  | .none => false
  | .scaled _ _ _ _ => false
  | .counter _ _ _ => false

/-- R28: a calibration table is in use. -/
def tableInUse (s : State) (t : Nat) : Bool :=
  (List.range 24).any fun m => namesTable (channelAt s m).config t && channelInUse s m

/-- R45, check 2: a stressing channel that holds an anchor has the cell in its binding. -/
def cellInUse (s : State) (c : Nat) : Bool :=
  channels4.any fun n => holdsAnchor s n && (bindingOf s n).cell == c

/-- R135, check 2: the placement unit is at work with this classifier. -/
def classifierInUse (s : State) (x : Nat) : Bool :=
  placementBusy s && (match s.placement.config with
    | some c => c.tensionX == some x || c.pressureX == some x
    | none => false)

/-! ### Anchors: exclusion, limit and hold (R11, R22) -/

/-- The slot numbers 0 … 95. -/
def slots96 : List Nat := List.range 96

/-- R23: some anchor is STRESSING. -/
def anyStressing (s : State) : Bool := slots96.any fun i => (anchorAt s i).phase == .stressing

/-- R17: some anchor of the class is STRESSING. -/
def classStressing (s : State) (k : Nat) : Bool :=
  slots96.any fun i => (anchorAt s i).phase == .stressing && (designOf s i).klass == k

/-- R11: the absolute difference of two positions. -/
def distance (a b : Nat) : Nat := (a - b) + (b - a)

/-- R11: an anchor in STRESSING on the same row lies within the exclusion distance. -/
def excluded (s : State) (slot : Nat) : Bool :=
  slots96.any fun i => (anchorAt s i).phase == .stressing && (designOf s i).row == (designOf s slot).row
    && decide (distance (designOf s i).position (designOf s slot).position ≤ s.anchorTable.exclusion)

/-- R11: the per-mille factor that a step's target is formed from. -/
def stepFactor : ProcStep → Option Nat
  | .loadTo p => some p.target
  | .unloadTo p => some p.target
  | .lockoff p => some p.factor
  | .holdSettle _ => none
  | .holdCreep _ => none
  | .apparent => none
  | .cellCheck => none
  | .finish => none

/-- R11: every step target of the anchor's class lies below its Fmax. -/
def targetsBelow (s : State) (slot : Nat) : Bool :=
  (classOf s slot).procedure.all fun p =>
    match stepFactor p with
    | some f => decide (perMille (designOf s slot).workingLoad f < (designOf s slot).hardLimit)
    | none => true

/-- R22: why an order-list entry would not be handed out, coded from 0 in this order. -/
inductive Hold where
  | clear | curing | excluded | limit
  deriving DecidableEq, Repr, Inhabited

/-- R22: the hold of an entry, the first reason that applies. -/
def holdReason (s : State) (slot : Nat) : Hold :=
  if (anchorAt s slot).phase = .curing then .curing
  else if excluded s slot then .excluded
  else if targetsBelow s slot then .clear
  else .limit

/-- R24: an order-list entry is eligible. -/
def eligible (s : State) (slot : Nat) : Bool :=
  (anchorAt s slot).phase == .ready && (holdReason s slot == .clear)

/-- R24: a stressing channel can receive. -/
def canReceive (s : State) (n : Nat) : Bool :=
  (stressAt s n).mode == .idle && (stressAt s n).autoTake

/-- R24: the part-wide conditions of a hand-out pass. -/
def passOpen (s : State) : Bool := !s.trip.frozen && !s.station.estop && ringUp s

end Sys2Proof.Machine
end

