-- ==== Sys2Proof/Machine/Anchors.lean ====
section
/-! DEFINITION. The anchor table's own changes of a record: the cure evaluation, the report of a halt and the
report of a verdict (01). -/

namespace Sys2Proof.Machine

open Sys2Proof Sys2Proof.Config

/-- R10: a CURING anchor whose cure time has passed. The sum is exact, not wrapped. -/
def cured (s : State) (a : Anchor) : Bool :=
  a.phase == .curing &&
    match s.station.site, a.completionMinute, a.design with
    | some (minute, _), some done, some d => decide (done.toNat + d.cureMinutes ≤ minute.toNat)
    | _, _, _ => false

/-- R10: the cure evaluation of every anchor; entries into READY start one pass. -/
def cureAll (s : State) : State :=
  let s' := s.onAnchorTable fun t =>
    { t with slots := t.slots.map fun a => if cured s a then { a with phase := .ready } else a }
  if slots96.any fun i => cured s (anchorAt s i) then s'.startPass else s'

/-- R9, R10: the cure evaluation of one anchor, on its entry to CURING. -/
def cureOne (slot : Nat) (s : State) : State :=
  if cured s (anchorAt s slot) then (s.onAnchor slot fun a => { a with phase := .ready }).startPass else s

/-- R14: the phase as halted-from. -/
def haltedFromOf : Phase → HaltedFrom
  | .winching => .winching
  | .grouting => .grouting
  | _ => .stressing

/-- R14, R16: the anchor of a halted run becomes HALTED, its results kept. -/
def haltAnchor (slot : Nat) (cause : HaltCause) (s : State) : State :=
  s.onAnchor slot fun a =>
    { a with phase := .halted, haltedFrom := some (haltedFromOf a.phase), haltCause := some cause }

/-- R13: the verdict reported at END. -/
def verdictAnchor (slot : Nat) (cause : Option RejectCause) (s : State) : State :=
  s.onAnchor slot fun a =>
    { a with phase := (if cause.isSome then .rejected else .accepted), verdictCause := cause }

/-- R11: the anchor enters STRESSING, and its order-list entry is removed. -/
def admitAnchor (slot : Nat) (s : State) : State :=
  (s.onAnchor slot fun a => { a with phase := .stressing }).onAnchorTable fun t =>
    { t with order := t.order.filter fun e => !(e == slot) }

/-- R15: every stressing result absent. -/
def clearStressing (a : Anchor) : Anchor :=
  { a with
    lApp := none, ksPrimary := none, ksExtension := none, retainedLoad := none, crossDifference := none
    verdictCause := none }

end Sys2Proof.Machine
end

