-- ==== Sys2Proof/Machine/Placement.lean ====
section
/-! DEFINITION. The placement unit: its commands, runs, samples, classifier events, freeze and thaw, halts, ticks
and log records (06). -/

namespace Sys2Proof.Machine

open Sys2Proof Sys2Proof.Config

/-! ### Reading the unit -/

/-- R114: the run items. -/
def runOf (s : State) : Run := s.placement.run.getD default

/-- R114: the phase of the run, the paused-from phase in PAUSED. -/
def runPhase (s : State) : RunPhase :=
  match s.placement.mode with
  | .winching => .winching
  | .grouting => .grouting
  | .paused => (runOf s).pausedFrom.getD .winching
  | .idle => .winching

/-- R114: the state with the run items updated. -/
def State.onRun (s : State) (f : Run → Run) : State := s.onPlacement fun p => { p with run := p.run.map f }

/-- R117: the node of a phase's actuator. -/
def driveNode (s : State) : RunPhase → Nat
  | .winching => (placementConfig s).winchNode
  | .grouting => (placementConfig s).pumpNode

/-- R117: a drive of a phase as a command. -/
def driveCommand : RunPhase → Drive → Command
  | .winching, .run v => .winchPayout v
  | .winching, .stop => .winchStop
  | .grouting, .run v => .pumpRun v
  | .grouting, .stop => .pumpStop

/-- R117: the command recorded for a phase's node. -/
def recordedDrive (s : State) : RunPhase → Option Drive
  | .winching => s.placement.winchCommand
  | .grouting => s.placement.pumpCommand

/-- R117: the recorded command of a phase's node set. -/
def recordDrive (p : RunPhase) (d : Drive) (s : State) : State :=
  s.onPlacement fun u =>
    match p with
    | .winching => { u with winchCommand := some d }
    | .grouting => { u with pumpCommand := some d }

/-- R121, R125: the channel whose total a phase judges. -/
def totalChannel (s : State) : RunPhase → Nat
  | .winching => (placementConfig s).payout
  | .grouting => (placementConfig s).flow

/-- A run phase coded by the phase of its anchor (R2). -/
def runPhaseCode : RunPhase → Nat
  | .winching => phaseCode .winching
  | .grouting => phaseCode .grouting

/-! ### Commands (R117, R118, R131) -/

/-- R117: the unit wants a drive for a phase's actuator and presents it when it differs from the recorded one. -/
def wantDrive (p : RunPhase) (d : Drive) (s : State) : State :=
  if recordedDrive s p = some d then s
  else if queueTakes s (driveNode s p) (driveCommand p d) then
    recordDrive p d (present (driveNode s p) (driveCommand p d) .pu s)
  else s

/-- R129, R131: the stop of a phase by the priority route; the recorded command becomes the stop at once. -/
def stopByPriority (p : RunPhase) (s : State) : State :=
  placeHalt (driveNode s p) (driveCommand p .stop) .pu s

/-- R118: the stop that ends a run normally is presented by the queue route, whatever command is recorded for the
node, and goes by the priority route where the queue does not take it. -/
def stopRun (p : RunPhase) (s : State) : State :=
  if queueTakes s (driveNode s p) (driveCommand p .stop) then
    recordDrive p .stop (present (driveNode s p) (driveCommand p .stop) .pu s)
  else stopByPriority p s

/-- R117: the drive that the run wants. -/
def wantedDrive (r : Run) : Drive := if r.starved then .stop else .run r.speed

/-- R117: the command choice at a decision moment of a run. -/
def driveChoice (p : RunPhase) (s : State) : State := wantDrive p (wantedDrive (runOf s)) s

/-- R119: a channel that the phase judges is STALE. -/
def starvedNow (s : State) : RunPhase → Bool
  | .winching => !isFresh s (placementConfig s).payout
  | .grouting => !isFresh s (placementConfig s).flow || !isFresh s (placementConfig s).ret

/-- R119: the starved item judged from the freshness of the phase's channels as they stand. -/
def judgeStarved (p : RunPhase) (s : State) : State := s.onRun fun r => { r with starved := starvedNow s p }

/-! ### Records (R121, R122, R124 to R126, R131, R133; log 11) -/

/-- A record of the placement unit about its current anchor. -/
def placementRecord (s : State) (k : RecordKind) (detail : Nat) (data : List Byte) : LogRecord :=
  { tick := now s, kind := k, unit := unitPU, slot := (runOf s).slot, detail := detail, data := data }

/-- R131: the reserve record of a halt. -/
def placementHaltData (s : State) : List Byte :=
  be 2 (designOf s (runOf s).slot).anchorId ++ be 1 (runPhaseCode (runPhase s))
    ++ flag (s.placement.mode == .paused) ++ be 2 (runOf s).elapsed ++ be 1 (runOf s).speed
    ++ putValue 3 s (totalChannel s (runPhase s)) ++ putValue 3 s (placementConfig s).ret

/-- R131: the kind of the record of a halt. -/
def placementHaltKind : HaltCause → RecordKind
  | .estop => .halt
  | .ring => .halt
  | _ => .fault

/-- R133: the values of a point. -/
def placementPointData (s : State) : List Byte :=
  let c := placementConfig s
  be 1 (runPhaseCode (runPhase s)) ++ be 2 (runOf s).elapsed ++ be 1 (runOf s).speed
    ++ (match runPhase s with
        | .winching => putValue 3 s c.payout ++ putValue 3 s c.tension
        | .grouting => putValue 3 s c.flow ++ putValue 3 s c.pressure ++ putValue 3 s c.ret)

/-! ### Ends of a run -/

/-- R122, R126, R131: the unit releases its anchor and enters IDLE. -/
def releasePlacement (s : State) : State := s.onPlacement fun p => { p with mode := .idle, run := none }

/-- R131: the halt of a run, as one change. -/
def haltPlacementRun (cause : HaltCause) (s : State) : State :=
  let r := placementRecord s (placementHaltKind cause) (causeDetail cause) (placementHaltData s)
  releasePlacement (haltAnchor (runOf s).slot cause (writeReserve r (stopByPriority (runPhase s) s)))

/-- R132: a class-B event halts the run; in IDLE it changes nothing. -/
def haltPlacement (cause : HaltCause) (s : State) : State :=
  if placementBusy s then haltPlacementRun cause s else s

/-- R36: a zeroing request. -/
def zeroTotal (m : Nat) (s : State) : State :=
  s.onChannel m fun c =>
    match c.config with
    | .counter _ _ _ => { c with total := some 0, value := some 0, mark := some .within }
    | .none => c
    | .calibrated _ _ => c
    | .scaled _ _ _ _ => c
    | .gauge _ _ => c

/-- R121, R125: the state of the placement unit in a phase. -/
def phaseMode : RunPhase → PlacementMode
  | .winching => .winching
  | .grouting => .grouting

/-- R7, R8: the phase of an anchor whose run begins. -/
def phaseAnchor : RunPhase → Phase
  | .winching => .winching
  | .grouting => .grouting

/-- R121, R125: the configured speed of a phase. -/
def phaseSpeed (s : State) : RunPhase → Nat
  | .winching => (placementConfig s).winchSpeed
  | .grouting => (placementConfig s).pumpSpeed

/-- R7, R121, R125: a run begins on the anchor of a slot, as one change. -/
def beginRun (p : RunPhase) (slot : Nat) (s : State) : State :=
  let s1 := (s.onAnchor slot fun a => { a with phase := phaseAnchor p }).onPlacement fun u =>
    { u with
      mode := phaseMode p
      run := some
        { slot := slot, pausedFrom := none, elapsed := 0, speed := phaseSpeed s p, starved := false
          pointCounter := 0 } }
  let total := valueOf s1 (totalChannel s1 p)
  let s2 := zeroTotal (totalChannel s1 p) s1
  let s3 := writeOrDrop (placementRecord s2 .start 0
    (be 2 (designOf s2 slot).anchorId ++ be 1 (runPhaseCode p) ++ beInt 3 total ++ be 1 (runOf s2).speed)) s2
  driveChoice p (judgeStarved p s3)

/-- R8, R122: the completion of a winching run; with grout-follows set a grouting run begins at once. -/
def completeWinching (s : State) : State :=
  let slot := (runOf s).slot
  let len := min 65535 (valueOf s (placementConfig s).payout).toNat
  let s1 := (stopRun .winching s).onAnchor slot fun a =>
    { a with phase := .placed, insertionLength := some len }
  let s2 := writeOrDrop (placementRecord s .complete 0
    (be 1 (runPhaseCode .winching) ++ be 2 len ++ be 2 (runOf s).elapsed)) s1
  if (classOf s2 slot).groutFollows then beginRun .grouting slot s2 else releasePlacement s2

/-- R9, R126: the completion of a grouting run. -/
def completeGrouting (s : State) : State :=
  let slot := (runOf s).slot
  let take := (valueOf s (placementConfig s).flow).toNat
  let minute := s.station.site.map (·.1)
  let s1 := cureOne slot ((stopRun .grouting s).onAnchor slot fun a =>
    { a with phase := .curing, groutTake := some take, completionMinute := minute })
  let s2 := writeOrDrop (placementRecord s .complete 0
    (be 1 (runPhaseCode .grouting) ++ be 3 take ++ word (minute.getD 0) ++ be 2 (runOf s).elapsed)) s1
  releasePlacement s2

/-! ### Judgments (R119, R122, R126, R127) -/

/-- R126: the return shows. -/
def returnShows (s : State) : Bool := decide (1 ≤ valueOf s (placementConfig s).ret)

/-- R122: the payout total is at or above the insertion target. -/
def targetReached (s : State) : Bool :=
  decide (((designOf s (runOf s).slot).insertionTarget : Int) ≤ valueOf s (placementConfig s).payout)

/-- R119, R122, R126, R127, R130: starvation is judged, then the judgment of the phase when the run is not
starved, then the command choice when the run goes on. -/
def judgeRun (p : RunPhase) (s : State) : State :=
  let s1 := judgeStarved p s
  let flow := valueOf s1 (placementConfig s1).flow
  let d := designOf s1 (runOf s1).slot
  if (runOf s1).starved then driveChoice p s1
  else
    match p with
    | .winching => if targetReached s1 then completeWinching s1 else driveChoice p s1
    | .grouting =>
      if (d.groutTarget : Int) ≤ flow ∧ returnShows s1 = true then completeGrouting s1
      else if (d.groutMax : Int) ≤ flow ∧ returnShows s1 = false then haltPlacementRun .groutExcess s1
      else driveChoice p s1

/-- R118: the channel is one whose samples and STALE changes are decision moments of the phase. -/
def judgedChannel (s : State) (m : Nat) : RunPhase → Bool
  | .winching => (placementConfig s).payout == m
  | .grouting => (placementConfig s).flow == m || (placementConfig s).ret == m

/-- R118, R122, R126: a fresh sample of channel `m` reaches the placement unit. -/
def placementSample (m : Nat) (s : State) : State :=
  match s.placement.mode with
  | .winching => if judgedChannel s m .winching then judgeRun .winching s else s
  | .grouting => if judgedChannel s m .grouting then judgeRun .grouting s else s
  | .paused => s
  | .idle => s

/-- R118, R119: a change of channel `m` to STALE reaches the placement unit. -/
def placementStale (m : Nat) (s : State) : State :=
  match s.placement.mode with
  | .winching => if judgedChannel s m .winching then driveChoice .winching (judgeStarved .winching s) else s
  | .grouting => if judgedChannel s m .grouting then driveChoice .grouting (judgeStarved .grouting s) else s
  | .paused => s
  | .idle => s

/-! ### Classifier events (R124, R128, R129) -/

/-- R140, section 8.8: the detail code of an event. -/
def eventDetail : EventKind → Nat
  | .spike => 40
  | .surge => 41
  | .sustained => 42
  | .overlong => 43

/-- R124, R128: the classifier whose events act in a phase. -/
def phaseClassifier (s : State) : RunPhase → Option Nat
  | .winching => (placementConfig s).tensionX
  | .grouting => (placementConfig s).pressureX

/-- R124, R128: the current speed after a SUSTAINED. -/
def slowed (p : RunPhase) (v : Nat) : Nat :=
  match p with
  | .winching => 1
  | .grouting => max 1 (v - 2)

/-- R124, R128, R129: the current speed after an event. -/
def speedAfter (p : RunPhase) (v : Nat) : EventKind → Nat
  | .sustained => slowed p v
  | .spike => v
  | .surge => v
  | .overlong => v

/-- R124, R128: the halt cause of an OVERLONG. -/
def overlongCause : RunPhase → HaltCause
  | .winching => .snag
  | .grouting => .blockage

/-- R124, R128: the EVENT record; the detail code carries the event, and no data byte repeats it (log 11). -/
def eventRecord (s : State) (x : Nat) (k : EventKind) : LogRecord :=
  placementRecord s .event (eventDetail k) (be 1 x ++ be 2 (runOf s).elapsed ++ be 1 (runOf s).speed)

/-- R124, R128, R129: an event of classifier `x` reaches the placement unit. -/
def placementEvent (x : Nat) (k : EventKind) (s : State) : State :=
  if !placementBusy s then s
  else
    let p := runPhase s
    if phaseClassifier s p = some x then
      if k = .overlong then haltPlacementRun (overlongCause p) s
      else
        let s1 := s.onRun fun r => { r with speed := speedAfter p r.speed k }
        let s2 := writeOrDrop (eventRecord s1 x k) s1
        if s.placement.mode = .paused then s2 else driveChoice p (judgeStarved p s2)
    else s

/-! ### Freeze, thaw and ticks (R123, R129, R130, R133) -/

/-- R129: the part becomes frozen. -/
def pausePlacement (s : State) : State :=
  let pause (p : RunPhase) : State :=
    (stopByPriority p (s.onRun fun r => { r with pausedFrom := some p })).onPlacement fun u =>
      { u with mode := .paused }
  match s.placement.mode with
  | .winching => pause .winching
  | .grouting => pause .grouting
  | .paused => s
  | .idle => s

/-- R130: the part becomes unfrozen. -/
def thawPlacement (s : State) : State :=
  if s.placement.mode = .paused then
    let p := runPhase s
    judgeRun p ((s.onRun fun r => { r with pausedFrom := none }).onPlacement fun u =>
      { u with mode := phaseMode p })
  else s

/-- R123: the run elapsed of a winching run has reached the timeout. -/
def winchExpired (s : State) : Bool :=
  s.placement.mode == .winching && decide ((placementConfig s).winchTimeout ≤ (runOf s).elapsed)

/-- R133: the point interval of the current anchor's class. -/
def placementInterval (s : State) : Nat := (classOf s (runOf s).slot).pointInterval

/-- R123, R133: the counts of a tick advance in WINCHING and GROUTING. With a point interval of 0 the counter becomes 0,
also where a LOAD_CLASS has set the interval to 0 in the middle of the run (log 28). -/
def tickRun (interval : Nat) (r : Run) : Run :=
  { r with
    elapsed := min 65535 (r.elapsed + 1)
    pointCounter := if interval = 0 then 0 else min 65535 (r.pointCounter + 1) }

/-- R118, R123, R133: a tick advance reaches the placement unit. -/
def tickPlacement (s : State) : State :=
  let tick (p : RunPhase) : State :=
    let s1 := s.onRun (tickRun (placementInterval s))
    if winchExpired s1 then s1 else driveChoice p (judgeStarved p s1)
  match s.placement.mode with
  | .winching => tick .winching
  | .grouting => tick .grouting
  | .paused => s
  | .idle => s

/-- R133: a point falls due in WINCHING or GROUTING. -/
def placementPointDue (s : State) : Bool :=
  (s.placement.mode == .winching || s.placement.mode == .grouting)
    && decide (0 < placementInterval s) && decide (placementInterval s ≤ (runOf s).pointCounter)

/-- R133: the POINT record is written or skipped, and the point counter returns to 0. -/
def placementPoint (s : State) : State :=
  (writeOrDrop (placementRecord s .point 0 (placementPointData s)) s).onRun fun r => { r with pointCounter := 0 }

end Sys2Proof.Machine
end

