-- ==== Sys2Proof/Machine/CellRequests.lean ====
section
/-! DEFINITION. The requests of a lift-off cell: the search that starts a measurement, joining a request and withdrawing
one (03, R46, R47, R51, R55). -/

namespace Sys2Proof.Machine

open Sys2Proof Sys2Proof.Config

/-! ### The search and the start of a measurement (R47, R48, R49, R51) -/

/-- R47: the cells in the order of the search, the cell after the pointer first. -/
def searchOrder (pointer : Nat) : List Nat := [1, 2, 3, 4].map fun i => (pointer + i) % 4

/-- R47: the cell that the search finds, with its pending request. -/
def nextRequest (s : State) : Option (Nat × CellRequest) :=
  (searchOrder s.gauge.pointer).findSome? fun c => (cellAt s c).pending.map fun r => (c, r)

/-- R51: the stored T is used and the reference phase skipped. -/
def reusedT (s : State) (c : Nat) (r : CellRequest) : Option Nat :=
  match (cellAt s c).config, (cellAt s c).storedT with
  | some cfg, some (t, stamp) =>
    if 0 < cfg.reuseAge ∧ age (now s) stamp < cfg.reuseAge ∧ r.freshReference = false then some t else none
  | _, _ => none

/-- The configuration of a cell in work; the cell in work is configured (R46). -/
def cellConfig (s : State) (c : Nat) : CellConfig := (cellAt s c).config.getD default

/-- R47: the pending request is moved into service and the pointer set. -/
def takeIntoService (c : Nat) (r : CellRequest) (s : State) : State :=
  (s.onCell c fun cell => { cell with pending := none }).onGauge fun g =>
    { g with cell := some c, inService := some r, pointer := c }

/-- R49: SENSING is entered with a time T. -/
def enterSensing (t : Nat) (reused : Bool) (s : State) : State :=
  s.onGauge fun g => { g with phase := .sensing, timeT := some t, tcCount := t, mcCount := 0, reused := reused }

/-- R48: REFERENCE is entered. -/
def enterReference (c : Nat) (s : State) : State :=
  let n := (cellConfig s c).nRef
  s.onGauge fun g =>
    { g with phase := .reference, timeT := none, mcCount := 65536 - n, tcCount := 0, reused := false }

/-- R47, R51: the measurement of a cell starts for its request, in REFERENCE or, on reuse, in SENSING. -/
def startOn (c : Nat) (r : CellRequest) (s : State) : State :=
  let s1 := takeIntoService c r s
  match reusedT s1 c r with
  | some t => enterSensing t true s1
  | none => enterReference c s1

/-- R47: the search of an IDLE converter, which starts the measurement of the first cell with a pending request; a
converter at work makes none. -/
def searchCells (s : State) : State :=
  if s.gauge.phase = .idle then
    match nextRequest s with
    | some (c, r) => startOn c r s
    | none => s
  else s

/-! ### Joining and withdrawing (R46, R55) -/

/-- R46: a pending request just created, with no requester yet. -/
def newRequest (tick : Word32) : CellRequest :=
  { waiting := [], station := false, survey := false, freshReference := false, firstTick := tick }

/-- R46, R47: a request arrives: it joins the cell's pending request, or creates one, and an IDLE converter searches at
once. -/
def joinRequest (c : Nat) (f : CellRequest → CellRequest) (s : State) : State :=
  searchCells (s.onCell c fun cell => { cell with pending := some (f (cell.pending.getD (newRequest (now s)))) })

/-- R55: the request without a channel's wait. -/
def withoutWaiting (n : Nat) (r : CellRequest) : CellRequest :=
  { r with waiting := r.waiting.filter fun w => !(w == n) }

/-- R55: a pending request with no requester left is removed. -/
def withdrawPending (n : Nat) (r : CellRequest) : Option CellRequest :=
  let r' := withoutWaiting n r
  if r'.waiting.isEmpty && !r'.station && !r'.survey then none else some r'

/-- R55: a stressing channel withdraws its request of a cell, pending or in service. A channel in neither
record changes nothing. -/
def withdrawRequest (c n : Nat) (s : State) : State :=
  let s := s.onCell c fun cell =>
    { cell with pending := cell.pending.bind fun r =>
        if r.waiting.contains n then withdrawPending n r else some r }
  if s.gauge.cell = some c then
    s.onGauge fun g => { g with inService := g.inService.map (withoutWaiting n) }
  else s

end Sys2Proof.Machine
end

