-- ==== Sys2Proof/Machine/StressHold.lean ====
section
/-! DEFINITION. What a stressing channel does with its jack and with the log in any of its states: presenting a
motion command, holding by the priority route, stalling on a full log, halting, and entering FROZEN (04, R71, R85,
R87, R89). -/

namespace Sys2Proof.Machine

open Sys2Proof Sys2Proof.Config

/-- R71: the command that a motion is. -/
def motionCommand : Motion → Command
  | .advance v => .jackAdvance v
  | .retract v => .jackRetract v
  | .hold => .jackHold

/-- R18: the step that the channel executes. -/
def stepOf (s : State) (n : Nat) : ProcStep :=
  ((classOf s (slotOf s n)).procedure[(workOf s n).step.getD 1 - 1]?).getD .finish

/-- R60, R73, R100: the channel, RUNNING, is in a LOAD_TO, an UNLOAD_TO or the approach of a LOCKOFF, the steps that
have a hold reached. A STALLED channel judges no step, and the JACK_HOLD that it presents (R89) is no act of the step: its
taking sets no hold reached (log 15). -/
def seeksTarget (s : State) (n : Nat) : Bool :=
  (stressAt s n).mode == .running &&
    (stepIsMove (stepOf s n) || (workOf s n).progress == some .approach)

/-- R71, R73: the channel wants a motion. It presents the motion when it differs from the commanded one, and the
queue's taking makes it the commanded motion; a JACK_HOLD that the step presented and the queue took sets hold
reached (log 15). -/
def wantMotion (n : Nat) (m : Motion) (s : State) : State :=
  if (workOf s n).commanded = some m then s
  else if queueTakes s (bindingOf s n).jack (motionCommand m) then
    (present (bindingOf s n).jack (motionCommand m) (.sc n) s).onWork n fun w =>
      { w with commanded := some m, holdReached := w.holdReached || (m == .hold && seeksTarget s n) }
  else s

/-- R85, R87: JACK_HOLD by the priority route; the commanded motion becomes JACK_HOLD at once. -/
def holdByPriority (n : Nat) (s : State) : State :=
  (placeHalt (bindingOf s n).jack .jackHold (.sc n) s).onWork n fun w => { w with commanded := some .hold }

/-- R89: an ordinary record that the log did not take becomes the held record, and the channel enters STALLED and
wants JACK_HOLD. -/
def stall (n : Nat) (r : LogRecord) (s : State) : State :=
  wantMotion n .hold (s.onStress n fun c => { c with mode := .stalled, work := { c.work with held := some r } })

/-- R70, R89: an ordinary record of a RUNNING channel is written, or held. -/
def writeOrHold (n : Nat) (r : LogRecord) (s : State) : State :=
  if ordinaryRoom s.log then s.onLog (appendRecord r) else stall n r s

/-- The number of the step that the channel executes. -/
def stepNumber (s : State) (n : Nat) : Nat := (workOf s n).step.getD 0

/-- R85: the record of a halt is of kind HALT for STATION, ESTOP and RING, and of kind FAULT otherwise. -/
def haltKind : HaltCause → RecordKind
  | .station => .halt
  | .estop => .halt
  | .ring => .halt
  | .restart => .halt
  | .overload => .fault
  | .strokeOut => .fault
  | .sensorStale => .fault
  | .loadTimeout => .fault
  | .cellFault => .fault
  | .cellMismatch => .fault
  | .seatIncomplete => .fault
  | .releaseTimeout => .fault
  | .snag => .fault
  | .winchTimeout => .fault
  | .groutExcess => .fault
  | .blockage => .fault
  | .nodeAbsent => .fault

/-- R105: what the record of a window that ran out carries besides: the last seat count or its absence, or the force as it
stands, whose mark the record carries already (log 11). -/
def windowFigures (s : State) (n : Nat) : HaltCause → List Byte
  | .seatIncomplete => optNat 1 (workOf s n).seatCount
  | .releaseTimeout => putForce (valueOf s (bindingOf s n).force)
  | _ => []

/-- R85, R105: the data of the record of a halt (log 11). -/
def haltData (s : State) (n : Nat) (cause : HaltCause) : List Byte :=
  be 2 (designOf s (slotOf s n)).anchorId ++ be 1 (stepNumber s n) ++ be 1 (stepCode (stepOf s n))
    ++ be 4 (workOf s n).elapsed ++ putValue 3 s (bindingOf s n).force ++ putValue 4 s (bindingOf s n).extension
    ++ flag (workOf s n).held.isSome ++ windowFigures s n cause

/-- R85: the reserve record of a halt. -/
def haltRecord (s : State) (n : Nat) (cause : HaltCause) : LogRecord :=
  { tick := now s, kind := haltKind cause, unit := n, slot := slotOf s n, detail := causeDetail cause
    data := haltData s n cause }

/-- R85: the channel leaves its anchor: working data cleared, IDLE, a hand-out pass started. -/
def leaveAnchor (n : Nat) (s : State) : State :=
  (s.onStress n fun c => { c with mode := .idle, work := Work.clear }).startPass

/-- R85: the halt of a channel that holds an anchor, as one change. -/
def haltRun (n : Nat) (cause : HaltCause) (s : State) : State :=
  leaveAnchor n
    (haltAnchor (slotOf s n) cause
      (writeReserve (haltRecord s n cause)
        (withdrawRequest (bindingOf s n).cell n
          (placeHalt (bindingOf s n).jack .jackHold (.sc n) s))))

/-- R84, R85: a class-B event reaches a channel; in IDLE and UNBOUND it changes nothing. -/
def haltStress (n : Nat) (cause : HaltCause) (s : State) : State :=
  if holdsAnchor s n then haltRun n cause s else s

/-- R84: the same class-B event reaches every channel, lowest number first (log 3). -/
def haltAllStress (cause : HaltCause) (s : State) : State :=
  channels4.foldl (fun s n => haltStress n cause s) s

/-- R87, R107: the part becomes frozen. -/
def freezeStress (s : State) (n : Nat) : State :=
  match (stressAt s n).mode with
  | .running => holdByPriority n (s.setMode n .frozen)
  | .stalled => holdByPriority n (s.setMode n .frozen)
  | .locking => s.onWork n fun w => { w with deferredFreeze := true }
  | .frozen => s
  | .idle => s
  | .unbound => s

end Sys2Proof.Machine
end

