-- ==== Sys2Proof/Machine/Stress.lean ====
section
/-! DEFINITION. The step machine of a stressing channel: command choices, step starts and completions, the steps
of chapter 05, samples, ticks, freeze's end and the start of a test (04, 05). -/

namespace Sys2Proof.Machine

open Sys2Proof Sys2Proof.Config

/-! ### Command choices -/

/-- R72: the wanted motion for target `p`, approach band `a`, tolerance `t` and speed `v` at force `f`. -/
def loadChoice (p a t : Int) (v : Nat) (f : Int) : Motion :=
  if f < p - a then .advance v else if f < p - t then .advance 1 else .hold

/-- R74: the mirror of R72 for UNLOAD_TO. -/
def unloadChoice (p a t : Int) (v : Nat) (f : Int) : Motion :=
  if p + a < f then .retract v else if p + t < f then .retract 1 else .hold

/-- R76: load maintenance about target `p` with load tolerance `u`; `none` is the commanded motion as it
stands, and nothing is presented then, even where R179 has made that motion absent (log 30). -/
def settleChoice (d : Direction) (p u f : Int) : Option Motion :=
  match d with
  | .load => if f < p - u then some (.advance 1) else if f < p then none else some .hold
  | .unload => if p + u < f then some (.retract 1) else if p < f then none else some .hold

/-- R91: load maintenance of a creep hold; `none` as in R76 (log 30). -/
def creepChoice (p u f : Int) : Option Motion :=
  if f < p - u then some (.advance 1) else if f < p then none else some .hold

/-- The parameters of a LOAD_TO or UNLOAD_TO step. -/
def moveParams : ProcStep → Option MoveParams
  | .loadTo p => some p
  | .unloadTo p => some p
  | .holdSettle _ => none
  | .holdCreep _ => none
  | .apparent => none
  | .cellCheck => none
  | .lockoff _ => none
  | .finish => none

/-- The target factor of a LOAD_TO step. -/
def loadFactor : ProcStep → Option Nat
  | .loadTo p => some p.target
  | .unloadTo _ => none
  | .holdSettle _ => none
  | .holdCreep _ => none
  | .apparent => none
  | .cellCheck => none
  | .lockoff _ => none
  | .finish => none

/-- The steps before the current one in list order, the nearest first. -/
def stepsBefore (s : State) (n : Nat) : List ProcStep :=
  ((classOf s (slotOf s n)).procedure.take (stepNumber s n - 1)).reverse

/-- R100: the approach parameters of a LOCKOFF, those of the last LOAD_TO or UNLOAD_TO before it. -/
def borrowed (s : State) (n : Nat) : MoveParams := ((stepsBefore s n).findSome? moveParams).getD default

/-- R69, R91, R100: the force of a per-mille factor of the bound anchor's working load. -/
def targetForce (s : State) (n f : Nat) : Int := perMille (designOf s (slotOf s n)).workingLoad f

/-- R91: the creep target. -/
def creepTarget (s : State) (n : Nat) : Int :=
  targetForce s n (((stepsBefore s n).findSome? loadFactor).getD 0)

/-- R100: the lock-off load of the step with these parameters. -/
def lockLoad (s : State) (n : Nat) (p : LockParams) : Int := targetForce s n p.factor

/-- R69: the current target and tolerance. -/
def targetOf (s : State) (n : Nat) : Int := (workOf s n).target.getD 0

/-- R69: the current tolerance. -/
def toleranceOf (s : State) (n : Nat) : Int := (workOf s n).tolerance.getD 0

/-- R72, R74, R76, R91, R98, R100, R103, R104, R108: the motion that the step wants at force `f`, confirmed when
`ok` is set; `none` is the commanded motion as it stands. -/
def wanted (s : State) (n : Nat) (f : Int) (ok : Bool) : Option Motion :=
  match stepOf s n with
  | .loadTo p => some (if ok then loadChoice (targetOf s n) p.approach (toleranceOf s n) p.speed f else .hold)
  | .unloadTo p => some (if ok then unloadChoice (targetOf s n) p.approach (toleranceOf s n) p.speed f else .hold)
  | .holdSettle p =>
    match (workOf s n).target, (workOf s n).direction with
    | some t, some d => if ok then settleChoice d t p.loadTolerance f else some .hold
    | _, _ => some .hold
  | .holdCreep p => if ok then creepChoice (creepTarget s n) p.loadTolerance f else some .hold
  | .apparent => none
  | .cellCheck => some .hold
  | .lockoff p =>
    match (workOf s n).progress with
    | some .approach =>
      if (workOf s n).approachDone || !ok then some .hold
      else
        let b := borrowed s n
        match (workOf s n).approachDirection with
        | some .load => some (loadChoice (lockLoad s n p) b.approach b.tolerance b.speed f)
        | some .unload => some (unloadChoice (lockLoad s n p) b.approach b.tolerance b.speed f)
        | none => some .hold
    | some .releasing => some (.retract 1)
    | some .seating => some .hold
    | some .retained => some .hold
    | none => some .hold
  | .finish => none

/-! ### The lock window (R101 to R107) -/

/-- R109: a STAGE record, dropped when the log does not take it. The step number stands before the figures, although R109
names it after them (log 11). -/
def stageRecord (s : State) (n : Nat) (data : List Byte) : LogRecord :=
  { tick := now s, kind := .stage, unit := n, slot := slotOf s n, detail := 0
    data := be 1 (stepNumber s n) ++ data }

/-- R101, R102, R109: the queue has taken JACK_SEAT: the seat window opens, a STAGE record of the approach's last confirmed
point is written (log 32), and a STALE seat-mask channel halts the test. -/
def openWindow (n : Nat) (p : LockParams) (s : State) : State :=
  let point := (workOf s n).approachPoint.getD (0, 0)
  let s1 := s.onStress n fun c =>
    { c with
      mode := .locking
      work := { c.work with window := p.seatWindow, progress := some .seating, seatCount := none } }
  let s2 := writeOrDrop (stageRecord s1 n (putForce point.1 ++ beInt 4 point.2)) s1
  if isFresh s2 (bindingOf s2 n).seat then s2 else haltRun n .sensorStale s2

/-- R101: the approach is complete and the channel presents JACK_SEAT; the queue's taking opens the window. A JACK_SEAT
that waits is presented at each command choice: at each decision moment, and at a resume too (DESIGN CHOICE, log 34). -/
def presentSeat (n : Nat) (s : State) : State :=
  match stepOf s n with
  | .lockoff p =>
    if (workOf s n).progress == some .approach && (workOf s n).approachDone
        && queueTakes s (bindingOf s n).jack .jackSeat then
      openWindow n p (present (bindingOf s n).jack .jackSeat (.sc n) s)
    else s
  | _ => s

/-- R100: the direction of approach is chosen at the first confirmed force, LOAD when it is at or below L. -/
def chooseDirection (n : Nat) (f : Int) (ok : Bool) (s : State) : State :=
  match stepOf s n with
  | .lockoff p =>
    if ok && (workOf s n).progress == some .approach && (workOf s n).approachDirection.isNone then
      s.onWork n fun w =>
        { w with approachDirection := some (if f ≤ lockLoad s n p then .load else .unload) }
    else s
  | _ => s

/-- R68, R71: the command choice of the step at force `f`: the wanted motion is presented when it differs, and
JACK_SEAT is presented while it waits. -/
def choose (n : Nat) (f : Int) (ok : Bool) (s : State) : State :=
  let s := chooseDirection n f ok s
  let s := match wanted s n f ok with
    | some m => wantMotion n m s
    | none => s
  presentSeat n s

/-- R68, R69, R88: the command choice with the force channel's value as it stands, provided it is FRESH (log 16). A
JACK_SEAT that waits is presented in it (DESIGN CHOICE, log 34). -/
def chooseStanding (n : Nat) (s : State) : State :=
  let m := (bindingOf s n).force
  if isFresh s m then choose n (valueOf s m) (markOf s m == .within) s else s

/-! ### Step ends -/

/-- How a judgment leaves the step: going on, complete (with UNSETTLED or not), or failing a criterion. -/
inductive StepEnd where
  | goesOn
  | completes (unsettled : Bool)
  | fails (cause : RejectCause)
  deriving DecidableEq, Repr, Inhabited

/-- R93, R94: a creep value, saturated at the ends of the signed 32-bit range. -/
def creepValue (later earlier : Int) (logratio : Nat) : Int :=
  saturate (-2147483648) 2147483647 (roundDiv ((later - earlier) * 1000) logratio)

/-- R95: the span and the extension difference, when both points are present. -/
def apparentSpan (w : Work) : Option (Int × Int) :=
  match w.lastLoaded, w.lastUnloaded with
  | some hi, some lo => some (hi.1 - lo.1, hi.2 - lo.2)
  | _, _ => none

/-- R95: the apparent length of a span and an extension difference; `none` is NO_SPAN. -/
def apparentLength (d : Design) (c : ClassDef) (span : Option (Int × Int)) : Option Nat :=
  match span with
  | none => none
  | some (dp, ds) =>
    if dp < c.minSpan then none
    else if ds ≤ 0 then some 0
    else some (min 65535 (roundDiv (d.strands * c.area * c.modulus * ds) (100 * dp.toNat)).toNat)

/-- R96: the low bound of L_app. -/
def apparentMin (d : Design) (c : ClassDef) : Nat := perMille d.freeLength c.lowerFactor

/-- R96: the high bound of L_app, formed exactly. -/
def apparentMax (d : Design) (c : ClassDef) : Nat := d.freeLength + perMille d.bondLength c.bondFactor

/-- R96: the judgment of L_app against its band; LOW is judged first where the bounds cross (log 25). -/
def apparentEnd (d : Design) (c : ClassDef) : Option Nat → StepEnd
  | none => .fails .noSpan
  | some l =>
    if l < apparentMin d c then .fails .apparentLow
    else if apparentMax d c < l then .fails .apparentHigh
    else .completes false

/-- R99: the cross-check tolerance. -/
def crossTolerance (c : ClassDef) (jack : Int) : Nat := max c.crossAbsolute (jack.natAbs * c.crossRelative / 1000)

/-- R108: the low bound of the retained load. -/
def retainedLow (c : ClassDef) (l : Int) : Int := truncDiv (l * (1000 - c.tolLow)) 1000

/-- R108: the high bound of the retained load. -/
def retainedHigh (c : ClassDef) (l : Int) : Int := truncDiv (l * (1000 + c.tolHigh)) 1000

/-! ### STEP records (R70, R112) -/

/-- A point, force and extension. -/
def putPoint (p : Int × Int) : List Byte := putForce p.1 ++ beInt 4 p.2

/-- A creep reading with its step elapsed. -/
def putReading (p : Int × Nat) : List Byte := beInt 4 p.1 ++ be 4 p.2

/-- R104, R105: a direction, LOAD 0 and UNLOAD 1. -/
def directionCode : Direction → Nat
  | .load => 0
  | .unload => 1

/-- R112: the figures that a step of chapter 05 carries. A point and a creep reading are one item with one presence byte,
ΔP and Δs have one each, and OVERSHOOT stands in the details byte alone (log 11). -/
def stepFigures (s : State) (n : Nat) : List Byte :=
  let w := workOf s n
  let d := designOf s (slotOf s n)
  let c := classOf s (slotOf s n)
  match stepOf s n with
  | .loadTo _ => []
  | .unloadTo _ => []
  | .holdSettle _ => []
  | .holdCreep p =>
    let s1 := w.s1.getD (0, 0)
    let s2 := w.s2.getD (0, 0)
    putForce (creepTarget s n) ++ optional 8 (w.s1.map putReading) ++ optional 8 (w.s2.map putReading)
      ++ optional 8 (w.s2b.map putReading) ++ beInt 4 (creepValue s2.1 s1.1 p.logratio)
      ++ optInt 4 (w.s2b.bind fun b => p.extension.map fun e => creepValue b.1 s2.1 e.logratio)
  | .apparent =>
    let span := apparentSpan w
    optional 7 (w.lastLoaded.map putPoint) ++ optional 7 (w.lastUnloaded.map putPoint)
      ++ optInt 4 (span.map (·.1)) ++ optInt 4 (span.map (·.2)) ++ optNat 2 (apparentLength d c span)
      ++ be 3 (apparentMin d c) ++ be 3 (apparentMax d c)
  | .cellCheck =>
    match w.outcome with
    | some o =>
      match o.reading with
      | some r =>
        be 2 r.g ++ putForce r.value ++ putForce o.jackForce ++ beInt 4 (o.jackForce - r.value)
          ++ be 4 (crossTolerance c o.jackForce)
      | none => []
    | none => []
  | .lockoff p =>
    be 1 (directionCode (w.approachDirection.getD .load)) ++ be 1 (w.seatCount.getD 0)
      ++ be 4 (w.seatElapsed.getD 0) ++ putForce (w.releaseForce.getD 0) ++ be 4 (w.releaseElapsed.getD 0)
      ++ putForce (((w.outcome.bind (·.reading)).map (·.value)).getD 0)
      ++ beInt 3 (retainedLow c (lockLoad s n p)) ++ beInt 3 (retainedHigh c (lockLoad s n p))
  | .finish => []

/-- R70: the point that the step recorded at its completion. -/
def reachedPoint (s : State) (n : Nat) : Option (Int × Int) :=
  match stepOf s n with
  | .loadTo _ => (workOf s n).lastLoaded
  | .unloadTo _ => (workOf s n).lastUnloaded
  | .holdSettle _ => none
  | .holdCreep _ => none
  | .apparent => none
  | .cellCheck => none
  | .lockoff _ => none
  | .finish => none

/-- R70: the details byte, bit 0 OVERSHOOT and bit 1 UNSETTLED. -/
def stepDetails (s : State) (n : Nat) : StepEnd → Nat
  | .completes u => (if (workOf s n).overshoot then 1 else 0) + (if u then 2 else 0)
  | .fails _ => if (workOf s n).overshoot then 1 else 0
  | .goesOn => 0

/-- R79, R112: the detail code of a STEP record, the step's own cause. -/
def endDetail : StepEnd → Nat
  | .fails c => rejectDetail c
  | .completes _ => 0
  | .goesOn => 0

/-- R70, R112: the STEP record of the step that has ended; the reached point is one item with one presence byte (log 11). -/
def stepRecord (s : State) (n : Nat) (e : StepEnd) : LogRecord :=
  { tick := now s, kind := .step, unit := n, slot := slotOf s n, detail := endDetail e
    data := be 1 (stepDetails s n e) ++ be 1 (stepNumber s n) ++ be 1 (stepCode (stepOf s n))
      ++ be 4 (workOf s n).elapsed ++ optional 7 ((reachedPoint s n).map putPoint) ++ stepFigures s n }

/-! ### Cell requests in a test (R97 to R99, R108) -/

/-- R98, R108: a READING marked IN, the only outcome that is compared. -/
def goodReading (o : OutcomeRecord) : Option CellReading :=
  match o.outcome, o.reading with
  | .reading, some r => if r.mark = .within then some r else none
  | _, _ => none

/-- R98, R99, R108: the outcome record is judged in RUNNING. -/
def judgeOutcome (n : Nat) (o : OutcomeRecord) (s : State) : State × StepEnd :=
  match stepOf s n with
  | .cellCheck =>
    match goodReading o with
    | none => (haltStress n .cellFault s, .goesOn)
    | some r =>
      let s1 := s.onAnchor (slotOf s n) fun a => { a with crossDifference := some (o.jackForce - r.value) }
      if (o.jackForce - r.value).natAbs ≤ crossTolerance (classOf s (slotOf s n)) o.jackForce then
        (s1, .completes false)
      else (haltStress n .cellMismatch s1, .goesOn)
  | .lockoff p =>
    match goodReading o with
    | none => (haltStress n .cellFault s, .goesOn)
    | some r =>
      let c := classOf s (slotOf s n)
      let s1 := s.onAnchor (slotOf s n) fun a => { a with retainedLoad := some r.value }
      if r.value < retainedLow c (lockLoad s n p) then (s1, .fails .lockoffLow)
      else if retainedHigh c (lockLoad s n p) < r.value then (s1, .fails .lockoffHigh)
      else (s1, .completes false)
  | _ => (s, .goesOn)

/-- R97: the outcome record of an outcome that reaches the channel now. -/
def outcomeRecord (s : State) (n : Nat) (o : CellOutcome) (r : Option CellReading) : OutcomeRecord :=
  { outcome := o, reading := r, jackForce := valueOf s (bindingOf s n).force
    jackMark := markOf s (bindingOf s n).force, tick := now s }

/-- R97: an outcome reaches a channel with a request outstanding: the outcome record is written, and in RUNNING
the step judges it at once. -/
def recordOutcome (n : Nat) (o : CellOutcome) (r : Option CellReading) (s : State) : State × StepEnd :=
  let rec' := outcomeRecord s n o r
  let s1 := s.onWork n fun w => { w with requestOutstanding := false, outcome := some rec' }
  if (stressAt s n).mode = .running then judgeOutcome n rec' s1 else (s1, .goesOn)

/-- R97: the channel requests its cell, with the fresh-reference mark clear; an unconfigured cell answers NO_CELL
at once (R46). -/
def requestCell (n : Nat) (s : State) : State × StepEnd :=
  let c := (bindingOf s n).cell
  if (cellAt s c).config.isNone then recordOutcome n .noCell none s
  else
    (joinRequest c (fun r => { r with waiting := channels4.filter fun w => w == n || r.waiting.contains w })
      (s.onWork n fun w => { w with requestOutstanding := true }), .goesOn)

/-! ### The verdict (R110) -/

/-- R110: the data of the VERDICT record; the verdict is coded ACCEPTED 0, REJECTED 1 (log 11). -/
def verdictData (s : State) (n : Nat) : List Byte :=
  let a := anchorAt s (slotOf s n)
  be 2 (designOf s (slotOf s n)).anchorId ++ be 1 (designOf s (slotOf s n)).klass
    ++ be 1 (if (workOf s n).pendingCause.isSome then 1 else 0)
    ++ optNat 2 a.lApp ++ optInt 4 a.ksPrimary ++ optInt 4 a.ksExtension ++ optInt 4 a.crossDifference
    ++ optInt 3 a.retainedLoad

/-- R110: the VERDICT record. -/
def verdictRecord (s : State) (n : Nat) : LogRecord :=
  { tick := now s, kind := .verdict, unit := n, slot := slotOf s n
    detail := ((workOf s n).pendingCause.map rejectDetail).getD 0, data := verdictData s n }

/-- R110: END. -/
def giveVerdict (n : Nat) (s : State) : State :=
  let s1 := if (workOf s n).commanded = some .hold then s
    else placeHalt (bindingOf s n).jack .jackHold (.sc n) s
  leaveAnchor n
    (verdictAnchor (slotOf s n) (workOf s n).pendingCause (writeReserve (verdictRecord s n) s1))

/-! ### Step starts and completions (R69, R70, R79) -/

/-- R69: the step's target items, set by LOAD_TO and UNLOAD_TO alone. -/
def withTarget (s : State) (n : Nat) (w : Work) : ProcStep → Work
  | .loadTo p =>
    { w with target := some (targetForce s n p.target), tolerance := some p.tolerance, direction := some .load }
  | .unloadTo p =>
    { w with target := some (targetForce s n p.target), tolerance := some p.tolerance, direction := some .unload }
  | .holdSettle _ => w
  | .holdCreep _ => w
  | .apparent => w
  | .cellCheck => w
  | .lockoff _ => { w with progress := some .approach }
  | .finish => w

/-- R69: the working data at the start of step `k`: what belongs to a step is cleared, and what belongs to the
test is kept. -/
def stepWork (k : Nat) (w : Work) : Work :=
  { w with
    step := some k, elapsed := 0, holdReached := false, overshoot := false, settle := none
    s1 := none, s2 := none, s2b := none, progress := none, approachDirection := none, approachDone := false
    approachPoint := none, seatCount := none, seatElapsed := none, releaseForce := none, releaseElapsed := none
    window := 0, requestOutstanding := false, outcome := none, startOwing := false }

/-- R69: step `k` starts, its start judgment apart. -/
def enterStep (n k : Nat) (s : State) : State :=
  let s1 := s.onWork n (stepWork k)
  s1.onWork n fun w => withTarget s1 n w (stepOf s1 n)

/-- R73, R74, R100: the hold condition of the step at force `f`. -/
def holdCondition (s : State) (n : Nat) (f : Int) : Bool :=
  match stepOf s n with
  | .loadTo _ => decide (targetOf s n - toleranceOf s n ≤ f)
  | .unloadTo _ => decide (f ≤ targetOf s n + toleranceOf s n)
  | .lockoff p =>
    match (workOf s n).approachDirection with
    | some .load => decide (lockLoad s n p - (borrowed s n).tolerance ≤ f)
    | some .unload => decide (f ≤ lockLoad s n p + (borrowed s n).tolerance)
    | none => false
  | _ => false

/-- R73, R100: JACK_HOLD already commanded at the start judgment with the hold condition met sets hold reached. The
condition is read on the value as it stands, whatever its range mark (log 15). -/
def holdAtStart (n : Nat) (f : Int) (s : State) : State :=
  if (workOf s n).commanded = some .hold && holdCondition s n f then
    s.onWork n fun w => { w with holdReached := true }
  else s

/-- R69, R91, R100: the start judgment of a step that chooses a command by the force as it stands. -/
def startChoice (n : Nat) (s : State) : State :=
  let m := (bindingOf s n).force
  if isFresh s m then
    let f := valueOf s m
    let ok := markOf s m == .within
    choose n f ok (holdAtStart n f (chooseDirection n f ok s))
  else s

/-- R95, R96: APPARENT computes, reports what it produced, and is judged. -/
def apparentStep (n : Nat) (s : State) : State × StepEnd :=
  let d := designOf s (slotOf s n)
  let c := classOf s (slotOf s n)
  let l := apparentLength d c (apparentSpan (workOf s n))
  let s1 := match l with
    | some v => s.onAnchor (slotOf s n) fun a => { a with lApp := some v }
    | none => s
  (s1, apparentEnd d c l)

/-- R69: the start judgment of the step. -/
def startJudgment (n : Nat) (s : State) : State × StepEnd :=
  match stepOf s n with
  | .loadTo _ => (startChoice n s, .goesOn)
  | .unloadTo _ => (startChoice n s, .goesOn)
  | .holdSettle _ => (startChoice n s, .goesOn)
  | .holdCreep _ => (startChoice n s, .goesOn)
  | .apparent => apparentStep n s
  | .cellCheck => requestCell n (wantMotion n .hold s)
  | .lockoff _ => (startChoice n s, .goesOn)
  | .finish => (giveVerdict n s, .goesOn)

/-- R79: the step that starts next. -/
def nextStep (s : State) (n : Nat) : StepEnd → Nat
  | .fails _ => ((classOf s (slotOf s n)).rejectExit).getD (stepNumber s n + 1)
  | .completes _ => stepNumber s n + 1
  | .goesOn => stepNumber s n

/-- R79: the pending rejection cause after the step's end: the first failure's. -/
def pendingAfter (w : Work) : StepEnd → Option RejectCause
  | .fails c => if w.pendingCause.isNone then some c else w.pendingCause
  | .completes _ => w.pendingCause
  | .goesOn => w.pendingCause

/-- R70, R79, R89: the step has ended: its STEP record is written or held, the pending cause is set, and the next
step starts. -/
def endStep (n : Nat) (e : StepEnd) (s : State) : State :=
  let k := nextStep s n e
  let cause := pendingAfter (workOf s n) e
  enterStep n k ((writeOrHold n (stepRecord s n e) s).onWork n fun w => { w with pendingCause := cause })

/-- R70: the judgment's result is carried out, through every step that ends in the same change. A step that starts
while the channel is held owes its start judgment. The fuel is above the 24 steps of a procedure, whose numbers
rise from one start to the next (R79). -/
def settleStep : Nat → Nat → State × StepEnd → State
  | 0, _, (s, _) => s
  | fuel + 1, n, (s, e) =>
    if e = .goesOn then s
    else
      let s1 := endStep n e s
      if (stressAt s1 n).mode = .running then settleStep fuel n (startJudgment n s1)
      else s1.onWork n fun w => { w with startOwing := true }

/-- More than the steps of any procedure (R18). -/
abbrev stepFuel : Nat := 25

/-! ### Samples (R72 to R82, R91 to R94, R103, R104) -/

/-- R73, R74: the confirmed force lies in the completion band of target `p` and tolerance `t`. -/
def inBand (p t f : Int) : Bool := decide (p - t ≤ f) && decide (f ≤ p + t)

/-- R73: hold reached is set and JACK_HOLD is commanded, so a confirmed sample in the band completes. -/
def holding (s : State) (n : Nat) : Bool := (workOf s n).holdReached && (workOf s n).commanded == some .hold

/-- R73, R74: the overshoot detail. -/
def setOvershoot (n : Nat) (b : Bool) (s : State) : State :=
  if b then s.onWork n fun w => { w with overshoot := true } else s

/-- R72 to R74: a force sample of a LOAD_TO or UNLOAD_TO step. -/
def judgeMove (n : Nat) (load : Bool) (f : Int) (ok : Bool) (s : State) : State × StepEnd :=
  let p := targetOf s n
  let t := toleranceOf s n
  if ok && holding s n && inBand p t f then
    let point := (f, valueOf s (bindingOf s n).extension)
    (s.onWork n fun w =>
      if load then { w with lastLoaded := some point } else { w with lastUnloaded := some point },
     .completes false)
  else
    (choose n f ok (setOvershoot n (ok && (if load then decide (p + t < f) else decide (f < p - t))) s), .goesOn)

/-- R100, R101: a force sample of the approach of a LOCKOFF. The approach's last confirmed point is the force of its last
confirmed sample, with the extension as it stood at that sample; where JACK_SEAT waits on a full queue, the STAGE record
of the opening carries that point and not what stands when the window opens (log 32). -/
def judgeApproach (n : Nat) (p : LockParams) (f : Int) (ok : Bool) (s : State) : State :=
  if (workOf s n).approachDone then choose n f ok s
  else
    let s1 := chooseDirection n f ok s
    let s2 := if ok then s1.onWork n fun w =>
      { w with approachPoint := some (f, valueOf s (bindingOf s n).extension) } else s1
    let l := lockLoad s n p
    let t : Int := (borrowed s n).tolerance
    if ok && holding s2 n && inBand l t f then
      choose n f ok (s2.onWork n fun w => { w with approachDone := true })
    else
      choose n f ok (setOvershoot n (ok && (match (workOf s2 n).approachDirection with
        | some .load => decide (l + t < f)
        | some .unload => decide (f < l - t)
        | none => false)) s2)

/-- R68: a fresh force sample, no overload, is judged in RUNNING. -/
def judgeForce (n : Nat) (f : Int) (ok : Bool) (s : State) : State × StepEnd :=
  match stepOf s n with
  | .loadTo _ => judgeMove n true f ok s
  | .unloadTo _ => judgeMove n false f ok s
  | .lockoff p =>
    if (workOf s n).progress = some .approach then (judgeApproach n p f ok s, .goesOn)
    else (choose n f ok s, .goesOn)
  | .holdSettle _ => (choose n f ok s, .goesOn)
  | .holdCreep _ => (choose n f ok s, .goesOn)
  | .apparent => (choose n f ok s, .goesOn)
  | .cellCheck => (choose n f ok s, .goesOn)
  | .finish => (choose n f ok s, .goesOn)

/-- R106: the close of the lock window: RUNNING in RETAINED, JACK_HOLD presented, the deferred freeze and then
the deferred halt applied, and the RETAINED request made by a channel that is not halted. -/
def closeWindow (n : Nat) (f : Int) (s : State) : State × StepEnd :=
  let w := workOf s n
  let s1 := s.onStress n fun c =>
    { c with
      mode := .running
      work := { c.work with
        window := 0, progress := some .retained, releaseForce := some f, releaseElapsed := some w.elapsed
        deferredFreeze := false, deferredHalt := false } }
  let s2 := writeOrDrop (stageRecord s1 n (putForce f ++ be 4 w.elapsed)) s1
  let s3 := wantMotion n .hold s2
  let s4 := if w.deferredFreeze && s.trip.frozen then freezeStress s3 n else s3
  if w.deferredHalt then (haltStress n .station s4, .goesOn) else requestCell n s4

/-- R103, R104: a fresh force sample, no overload, is judged in LOCKING. -/
def judgeLocking (n : Nat) (f : Int) (k : Mark) (s : State) : State × StepEnd :=
  match stepOf s n with
  | .lockoff p =>
    if (workOf s n).progress = some .releasing && decide (f ≤ p.releaseLevel) && !(k == .over) then
      closeWindow n f s
    else (choose n f (k == .within) s, .goesOn)
  | _ => (s, .goesOn)

/-- R81, R68: a fresh sample of the force channel. -/
def forceSample (n : Nat) (f : Int) (k : Mark) (s : State) : State :=
  if !holdsAnchor s n then s
  else if ((designOf s (slotOf s n)).hardLimit : Int) < f then haltRun n .overload s
  else
    match (stressAt s n).mode with
    | .running => settleStep stepFuel n (judgeForce n f (k == .within) s)
    | .locking => settleStep stepFuel n (judgeLocking n f k s)
    | .stalled => s
    | .frozen => s
    | .idle => s
    | .unbound => s

/-- R77: a fresh extension sample of a HOLD_SETTLE step. -/
def settleSample (p : SettleParams) (v : Int) (w : Work) : Work :=
  match w.settle with
  | none =>
    if p.minimum ≤ w.elapsed then { w with settle := some { reference := v, progress := 0, count := 0 } } else w
  | some d =>
    if (p.band : Int) < (v - d.reference).natAbs then
      { w with settle := some { reference := v, progress := 0, count := 0 } }
    else w

/-- R92 to R94: a fresh extension sample of a HOLD_CREEP step: a reading at or after its observation time, and
the creep value that it decides. -/
def creepSample (n : Nat) (p : CreepParams) (v : Int) (s : State) : State × StepEnd :=
  let w := workOf s n
  let judged (k : Int) (failed : State × StepEnd) (s : State) : State × StepEnd :=
    if k ≤ p.limit then (s, .completes false) else failed
  match w.s1, w.s2 with
  | none, _ =>
    if p.t1 ≤ w.elapsed then (s.onWork n fun w => { w with s1 := some (v, w.elapsed) }, .goesOn) else (s, .goesOn)
  | some a, none =>
    if p.t2 ≤ w.elapsed then
      let k := creepValue v a.1 p.logratio
      let s1 := (s.onWork n fun w => { w with s2 := some (v, w.elapsed) }).onAnchor (slotOf s n) fun a =>
        { a with ksPrimary := some k }
      judged k (s1, if p.extension.isSome then .goesOn else .fails .creep) s1
    else (s, .goesOn)
  | some _, some b =>
    match p.extension with
    | none => (s, .goesOn)
    | some e =>
      if e.t2b ≤ w.elapsed then
        let k := creepValue v b.1 e.logratio
        let s1 := (s.onWork n fun w => { w with s2b := some (v, w.elapsed) }).onAnchor (slotOf s n) fun a =>
          { a with ksExtension := some k }
        judged k (s1, .fails .creep) s1
      else (s, .goesOn)

/-- R68: a fresh extension sample within the stroke limit is judged in RUNNING. -/
def judgeExtension (n : Nat) (v : Int) (s : State) : State × StepEnd :=
  match stepOf s n with
  | .holdSettle p => (s.onWork n (settleSample p v), .goesOn)
  | .holdCreep p => creepSample n p v s
  | .loadTo _ => (s, .goesOn)
  | .unloadTo _ => (s, .goesOn)
  | .apparent => (s, .goesOn)
  | .cellCheck => (s, .goesOn)
  | .lockoff _ => (s, .goesOn)
  | .finish => (s, .goesOn)

/-- R82, R68: a fresh sample of the extension channel. -/
def extensionSample (n : Nat) (v : Int) (s : State) : State :=
  if !holdsAnchor s n then s
  else if ((bindingOf s n).stroke : Int) < v then haltRun n .strokeOut s
  else if (stressAt s n).mode = .running then settleStep stepFuel n (judgeExtension n v s)
  else s

/-- R103: the completion of SEATING. -/
def completeSeating (n : Nat) (p : LockParams) (mask count : Nat) (s : State) : State :=
  let s1 := s.onWork n fun w =>
    { w with
      seatCount := some count, seatElapsed := some w.elapsed, window := p.releaseWindow
      progress := some .releasing }
  wantMotion n (.retract 1)
    (writeOrDrop (stageRecord s1 n (be 2 mask ++ be 1 count ++ be 4 (workOf s1 n).elapsed)) s1)

/-- R103: a fresh sample of the seat-mask channel, taken after the window opened, in SEATING. -/
def seatSample (n : Nat) (v : Int) (s : State) : State :=
  match stepOf s n with
  | .lockoff p =>
    if withinInt 0 65535 v then
      let count := bitCount 16 v.toNat
      if (designOf s (slotOf s n)).strands ≤ count then completeSeating n p v.toNat count s
      else s.onWork n fun w => { w with seatCount := some count }
    else s
  | _ => s

/-- R83, R103: the channel is in the SEATING progress. -/
def isSeating (s : State) (n : Nat) : Bool :=
  (stressAt s n).mode == .locking && (workOf s n).progress == some .seating

/-- R32, R68: a fresh sample of channel `m` reaches stressing channel `n`: as its force, then its extension, then
its seat mask when the window was open before the sample (log 3). -/
def stressSample (m n : Nat) (v : Int) (k : Mark) (s : State) : State :=
  let seating := isSeating s n
  let b := bindingOf s n
  if !holdsAnchor s n then s
  else
    let s1 := if b.force = m then forceSample n v k s else s
    let s2 := if b.extension = m then extensionSample n v s1 else s1
    if b.seat = m && seating && isSeating s2 n then seatSample n v s2 else s2

/-- R83: channel `m` has changed to STALE. -/
def stressStale (m n : Nat) (s : State) : State :=
  if holdsAnchor s n && ((bindingOf s n).force == m || (bindingOf s n).extension == m
      || ((bindingOf s n).seat == m && isSeating s n)) then
    haltRun n .sensorStale s
  else s

/-! ### Tick advances (R69, R75, R77, R78, R80, R102, R105) -/

/-- R60, R69: the largest step elapsed. -/
abbrev elapsedMax : Nat := 4294967295

/-- R75, R100: the step has a timeout, and its elapsed has reached it. -/
def pastTimeout (s : State) (n : Nat) : Bool :=
  match stepOf s n with
  | .loadTo p => decide (p.timeout ≤ (workOf s n).elapsed)
  | .unloadTo p => decide (p.timeout ≤ (workOf s n).elapsed)
  | .lockoff _ =>
    (workOf s n).progress == some .approach && decide ((borrowed s n).timeout ≤ (workOf s n).elapsed)
  | _ => false

/-- R77: the interval progress has reached the settle interval. -/
def intervalFull (s : State) (n : Nat) : Bool :=
  match stepOf s n, (workOf s n).settle with
  | .holdSettle p, some d => decide (p.interval ≤ d.progress)
  | _, _ => false

/-- R78: the step elapsed has reached the maximum of a HOLD_SETTLE. -/
def pastMaximum (s : State) (n : Nat) : Bool :=
  match stepOf s n with
  | .holdSettle p => decide (p.maximum ≤ (workOf s n).elapsed)
  | _ => false

/-- R78: counting the full interval brings the settle count to the limit. -/
def settlesNow (s : State) (n : Nat) : Bool :=
  match stepOf s n, (workOf s n).settle with
  | .holdSettle p, some d => decide (p.interval ≤ d.progress) && decide (p.limit ≤ d.count + 1)
  | _, _ => false

/-- R75, R78: the tick ends the channel's step, so the step makes no command choice at it. -/
def endsAtTick (s : State) (n : Nat) : Bool := pastTimeout s n || settlesNow s n || pastMaximum s n

/-- R80: the point interval of the class. -/
def pointInterval (s : State) (n : Nat) : Nat := (classOf s (slotOf s n)).pointInterval

/-- R69, R80: the counts of a tick advance: the step elapsed in every state that holds an anchor, the point
counter in RUNNING and LOCKING, the interval progress in RUNNING, the lock window in LOCKING. -/
def tickWork (mode : StressMode) (interval : Nat) (w : Work) : Work :=
  let counts := mode == .running || mode == .locking
  { w with
    elapsed := min elapsedMax (w.elapsed + 1)
    pointCounter := if counts && decide (0 < interval) then min 65535 (w.pointCounter + 1) else w.pointCounter
    settle := if mode == .running then w.settle.map fun d => { d with progress := d.progress + 1 } else w.settle
    window := if mode == .locking then w.window - 1 else w.window }

/-- R68, R69, R89: a tick advance reaches stressing channel `n`. -/
def tickStress (s : State) (n : Nat) : State :=
  if !holdsAnchor s n then s
  else
    let mode := (stressAt s n).mode
    let s1 := s.onWork n (tickWork mode (pointInterval s n))
    match mode with
    | .running => if endsAtTick s1 n then s1 else chooseStanding n s1
    | .locking => if (workOf s1 n).window = 0 then s1 else chooseStanding n s1
    | .stalled => wantMotion n .hold s1
    | .frozen => s1
    | .idle => s1
    | .unbound => s1

/-- R77, R78: the interval that the tick has filled is counted, and the step completes at its limit. -/
def countInterval (n : Nat) (s : State) : State :=
  let s1 := s.onWork n fun w =>
    { w with settle := w.settle.map fun d => { d with progress := 0, count := d.count + 1 } }
  if settlesNow s n then settleStep stepFuel n (s1, .completes false) else s1

/-- R78: the step completes UNSETTLED at its maximum. -/
def completeUnsettled (n : Nat) (s : State) : State := settleStep stepFuel n (s, .completes true)

/-- R105: the cause of a window that ran out. -/
def runOutCause (s : State) (n : Nat) : HaltCause :=
  if (workOf s n).progress = some .seating then .seatIncomplete else .releaseTimeout

/-- R80: the POINT record; each value is followed by its mark (log 11). -/
def pointRecord (s : State) (n : Nat) : LogRecord :=
  { tick := now s, kind := .point, unit := n, slot := slotOf s n, detail := 0
    data := be 1 (stepNumber s n) ++ be 4 (workOf s n).elapsed ++ putForceMark s (bindingOf s n).force
      ++ beInt 4 (valueOf s (bindingOf s n).extension)
      ++ be 1 (markCode (markOf s (bindingOf s n).extension)) }

/-- R80: the point counter returns to 0. -/
def zeroPoint (n : Nat) (s : State) : State := s.onWork n fun w => { w with pointCounter := 0 }

/-- R80, R89: a point falls due: written, held in RUNNING, or not written in LOCKING. A channel that the same tick's
step completion has stalled keeps its counter, and its point falls due at the first tick after the resume
(log 24). -/
def stressPoint (n : Nat) (s : State) : State :=
  if ordinaryRoom s.log then zeroPoint n (s.onLog (appendRecord (pointRecord s n)))
  else if (stressAt s n).mode = .running then stall n (pointRecord s n) s
  else zeroPoint n s

/-! ### Resume (R88, R90) and the start of a test (R66) -/

/-- R88: the resume judgment of a channel that has just entered RUNNING. Its command choice presents a JACK_SEAT that
waits on a full queue, and so can open the window (DESIGN CHOICE, log 34). -/
def resume (n : Nat) (s : State) : State :=
  match (workOf s n).outcome with
  | some o => settleStep stepFuel n (judgeOutcome n o s)
  | none =>
    if pastTimeout s n then haltStress n .loadTimeout s
    else if pastMaximum s n then completeUnsettled n s
    else if (workOf s n).startOwing then
      settleStep stepFuel n (startJudgment n (s.onWork n fun w => { w with startOwing := false }))
    else chooseStanding n s

/-- R88: the part becomes unfrozen. -/
def thawStress (s : State) (n : Nat) : State :=
  if (stressAt s n).mode = .frozen then
    if (workOf s n).held.isSome then wantMotion n .hold (s.setMode n .stalled)
    else resume n (s.setMode n .running)
  else s

/-- R90: the log has taken the held record. -/
def heldWritten (n : Nat) (r : LogRecord) (s : State) : State :=
  let s1 := (s.onLog (appendRecord r)).onWork n fun w =>
    { w with held := none, pointCounter := if r.kind = .point then 0 else w.pointCounter }
  if (stressAt s n).mode = .stalled then resume n (s1.setMode n .running) else s1

/-- R66: the START record. -/
def startRecord (s : State) (n : Nat) : LogRecord :=
  { tick := now s, kind := .start, unit := n, slot := slotOf s n, detail := 0
    data := be 2 (designOf s (slotOf s n)).anchorId ++ be 1 (designOf s (slotOf s n)).klass }

/-- R66, R69: the channel takes the anchor of a slot, writes its START record and starts step 1; STALE
measurements halt it at once. -/
def startTest (n slot : Nat) (s : State) : State :=
  let s1 := s.onStress n fun c => { c with mode := .running, work := { Work.clear with slot := some slot } }
  let s2 := enterStep n 1 (writeOrHold n (startRecord s1 n) s1)
  if !isFresh s2 (bindingOf s2 n).force || !isFresh s2 (bindingOf s2 n).extension then haltRun n .sensorStale s2
  else if (stressAt s2 n).mode = .running then settleStep stepFuel n (startJudgment n s2)
  else s2.onWork n fun w => { w with startOwing := true }

/-! ### Outcomes of the converter (R53, R54, R97) -/

/-- R97: an outcome reaches a stressing channel; one without a request outstanding discards it. -/
def cellOutcome (o : CellOutcome) (r : Option CellReading) (s : State) (n : Nat) : State :=
  if holdsAnchor s n && (workOf s n).requestOutstanding then settleStep stepFuel n (recordOutcome n o r s) else s

end Sys2Proof.Machine
end

