-- ==== Sys2Proof/Machine/Trip.lean ====
section
/-! DEFINITION. The trip counters: observations, counting, freeze and thaw (07, R141 to R148). -/

namespace Sys2Proof.Machine

open Sys2Proof Sys2Proof.Config

/-- R143: an observation. -/
inductive Observation where
  | sample (m : Nat) (v : Int)
  | event (x : Nat) (k : EventKind)
  | ringError
  | gaugeFault
  deriving DecidableEq, Repr, Inhabited

/-- R141: the place of an event kind in a class mask. -/
def eventIndex : EventKind → Nat
  | .spike => 0
  | .surge => 1
  | .sustained => 2
  | .overlong => 3

/-- R144: a sample qualifies. -/
def qualifies (t : Int) (invert : Bool) (v : Int) : Bool := if invert then decide (v < t) else decide (t ≤ v)

/-- R143, R144: whether an enabled counter counts the observation, and its previous-qualified afterwards. -/
def judgeCounter (o : Observation) (c : Counter) : Bool × Bool :=
  if !c.enabled then (false, c.previous)
  else
    match c.source, o with
    | some (.channel m t invert edge), .sample m' v =>
      if m = m' then (qualifies t invert v && (!edge || !c.previous), qualifies t invert v)
      else (false, c.previous)
    | some (.events x mask), .event x' k => (x == x' && mask.testBit (eventIndex k), c.previous)
    | some .ringError, .ringError => (true, c.previous)
    | some .gaugeFault, .gaugeFault => (true, c.previous)
    | _, _ => (false, c.previous)

/-- R145: a counter raises its value by 1; past 65,535 the value is 0 and the overflow mark is set. -/
def raise (c : Counter) : Counter :=
  if c.value = 65535 then { c with value := 0, overflow := true } else { c with value := c.value + 1 }

/-- R143 to R145: one counter takes an observation, with the frozen condition as it stood before the change. -/
def observeCounter (frozen : Bool) (o : Observation) (c : Counter) : Counter :=
  let j := judgeCounter o c
  let c' := { c with previous := j.2 }
  if j.1 && !frozen then raise c' else c'

/-- R145, R146: the counter overflows with this observation and freezes the part. -/
def trips (frozen : Bool) (o : Observation) (c : Counter) : Bool :=
  !frozen && c.freezeEnable && (judgeCounter o c).1 && decide (c.value = 65535)

/-- The counter numbers 0 … 7. -/
def counters8 : List Nat := List.range 8

/-- R146, R148: the counters' values and overflow marks. -/
def counterFigures (s : State) : List Byte :=
  s.trip.counters.toList.flatMap fun c => be 2 c.value ++ flag c.overflow

/-- R146, R148: a FREEZE record; the direction is FROZEN 0 or UNFROZEN 1. -/
def freezeRecord (s : State) (direction detail : Nat) : LogRecord :=
  { tick := now s, kind := .freeze, unit := unitTrip, slot := noSlot, detail := detail
    data := be 1 direction ++ counterFigures s }

/-- R87, R146: the part becomes frozen, as one change; `detail` names the cause, a counter or STATION. The freeze
reaches the stressing channels lowest number first, and then the placement unit (log 3). -/
def becomeFrozen (detail : Nat) (s : State) : State :=
  let s1 := s.onTrip fun t => { t with frozen := true }
  let s2 := pausePlacement (channels4.foldl freezeStress s1)
  writeReserve (freezeRecord s2 0 detail) s2

/-- Section 8.8: the detail code of counter `q` as the cause of a freeze. -/
def tripDetail (q : Nat) : Nat := 48 + q

/-- R143, R146: an observation is taken by the trip counters, as one change. -/
def observe (o : Observation) (s : State) : State :=
  let frozen := s.trip.frozen
  let s1 := s.onTrip fun t => { t with counters := t.counters.map (observeCounter frozen o) }
  match counters8.find? fun q => trips frozen o (counterAt s q) with
  | some q => becomeFrozen (tripDetail q) s1
  | none => s1

/-- R144: previous-qualified of a counter whose channel has changed to STALE. -/
def staleCounter (m : Nat) (c : Counter) : Counter :=
  match c.source with
  | some (.channel m' _ _ _) => if m = m' then { c with previous := false } else c
  | _ => c

/-- R144: channel `m` has changed to STALE. -/
def tripStale (m : Nat) (s : State) : State :=
  s.onTrip fun t => { t with counters := t.counters.map (staleCounter m) }

/-- R148: a freeze-enabled counter has its overflow mark set. -/
def holdsFreeze (c : Counter) : Bool := c.freezeEnable && c.overflow

/-- R148, R150: some counter holds the part frozen. -/
def tripsHold (s : State) : Bool := counters8.any fun q => holdsFreeze (counterAt s q)

/-- R88, R148: the part becomes unfrozen: the item is cleared and the thaw presented to the stressing channels, lowest
number first, and then to the placement unit (log 3). -/
def becomeUnfrozen (s : State) : State :=
  let s1 := s.onTrip fun t => { t with frozen := false, stationFreeze := false }
  (thawPlacement (channels4.foldl thawStress s1)).startPass

end Sys2Proof.Machine
end

