-- ==== Sys2Proof/Machine/Classify.lean ====
section
/-! DEFINITION. The excursion classifiers: starts, durations, ends and abandonment of excursions (07, R134 to
R140). -/

namespace Sys2Proof.Machine

open Sys2Proof Sys2Proof.Config

/-- R140: an event is delivered to the placement unit and to the trip counters (log 3). -/
def deliverEvent (x : Nat) (k : EventKind) (s : State) : State := observe (.event x k) (placementEvent x k s)

/-- R136: the value is at or beyond the level. -/
def beyondLevel (c : ClassifierConfig) (v : Int) : Bool :=
  match c.side with
  | .above => decide (c.level ≤ v)
  | .below => decide (v ≤ c.level)

/-- R138: the value has come back past the level by more than the hysteresis. -/
def cameBack (c : ClassifierConfig) (v : Int) : Bool :=
  match c.side with
  | .above => decide (v < c.level - c.hysteresis)
  | .below => decide (c.level + c.hysteresis < v)

/-- R134: the duration of the excursion. -/
def duration (s : State) (x : Nat) : Nat := age (now s) ((classifierAt s x).start.getD 0)

/-- R138: the event that the end of an excursion delivers. -/
def endEvent (c : ClassifierConfig) (mode : ClassifierMode) (d : Nat) : Option EventKind :=
  match mode with
  | .excursion => if d < c.tSpike then (if c.spikeReject then none else some .spike) else some .surge
  | .declared => none
  | .stalled => none
  | .quiet => none

/-- R138, R139: the classifier QUIET with its start tick absent. -/
def quietClassifier (x : Nat) (s : State) : State :=
  s.onClassifier x fun c => { c with mode := .quiet, start := none }

/-- R136, R138: a fresh sample of the watched channel with value `v`. -/
def judgeSample (x : Nat) (c : ClassifierConfig) (v : Int) (s : State) : State :=
  if (classifierAt s x).mode = .quiet then
    if beyondLevel c v then s.onClassifier x fun k => { k with mode := .excursion, start := some (now s) } else s
  else if cameBack c v then
    match endEvent c (classifierAt s x).mode (duration s x) with
    | some k => deliverEvent x k (quietClassifier x s)
    | none => quietClassifier x s
  else s

/-- R136: a fresh sample of channel `m` reaches classifier `x`. -/
def classifierSample (m : Nat) (v : Int) (s : State) (x : Nat) : State :=
  match (classifierAt s x).config with
  | some c => if c.watched = m then judgeSample x c v s else s
  | none => s

/-- R139: a change of channel `m` to STALE reaches classifier `x`. -/
def classifierStale (m : Nat) (s : State) (x : Nat) : State :=
  match (classifierAt s x).config with
  | some c => if c.watched = m then quietClassifier x s else s
  | none => s

/-- R137: the duration of an EXCURSION has reached t_hold. -/
def sustainedDue (s : State) (x : Nat) : Bool :=
  match (classifierAt s x).config with
  | some c => (classifierAt s x).mode == .excursion && decide (c.tHold ≤ duration s x)
  | none => false

/-- R137: the duration in DECLARED has reached t_long. -/
def overlongDue (s : State) (x : Nat) : Bool :=
  match (classifierAt s x).config with
  | some c => (classifierAt s x).mode == .declared && decide (c.tLong ≤ duration s x)
  | none => false

/-- R137: SUSTAINED is delivered and the classifier enters DECLARED. -/
def declare (x : Nat) (s : State) : State :=
  deliverEvent x .sustained (s.onClassifier x fun c => { c with mode := .declared })

/-- R137: OVERLONG is delivered and the classifier enters STALLED. -/
def overlongEvent (x : Nat) (s : State) : State :=
  deliverEvent x .overlong (s.onClassifier x fun c => { c with mode := .stalled })

/-- R139: the excursion is abandoned at RESTART and CONFIG_CLASSIFIER. -/
def abandonAll (s : State) : State := channels4.foldl (fun s x => quietClassifier x s) s

end Sys2Proof.Machine
end

