-- ==== Sys2Proof/Machine/Measure.lean ====
section
/-! DEFINITION. The measurement channels: conversion of raw values, deliveries, freshness and their presentation
to the readers (02, R30 to R42). -/

namespace Sys2Proof.Machine

open Sys2Proof Sys2Proof.Config

/-! ### Conversion (R33 to R35, R37) -/

/-- R33: conversion beyond the breakpoint before, `(x0, v0)`: the value on the segment that the search finds. -/
def convertFrom (x : Nat) : Nat × Int → List (Nat × Int) → Int × Mark
  | (_, v0), [] => (v0, .over)
  | (x0, v0), (x1, v1) :: rest =>
    if x = x1 then (v1, .within)
    else if x < x1 then (v0 + roundDiv ((v1 - v0) * ((x : Int) - x0)) (x1 - x0), .within)
    else convertFrom x (x1, v1) rest

/-- R33: a raw value converted through a table; only a loaded table is converted through (R40). -/
def convert (bps : List (Nat × Int)) (x : Nat) : Int × Mark :=
  match bps with
  | [] => (0, .within)
  | (x0, v0) :: rest =>
    if x < x0 then (v0, .under) else if x = x0 then (v0, .within) else convertFrom x (x0, v0) rest

/-- R34: a SCALED channel's conversion. -/
def convertScaled (mult : Int) (div : Nat) (offset : Int) (x : Nat) : Int × Mark :=
  let v := roundDiv ((x : Int) * mult) div + offset
  if forceMax < v then (forceMax, .over) else if v < forceMin then (forceMin, .under) else (v, .within)

/-- R35: the total after a sample, with the last raw value before it. -/
def accumulate (mult div : Nat) (last : Option Word32) (total : Nat) (x : Word32) : Nat :=
  match last with
  | none => total
  | some r => if (x - r).toNat < 2147483648 then min totalMax (total + (x - r).toNat * mult / div) else total

/-- R35: the mark of a total. -/
def totalMark (total : Nat) : Mark := if total = totalMax then .over else .within

/-- R37: the mark of a GAUGE value. -/
def gaugeMark (saturated : Bool) (m : Mark) : Mark := if saturated then .over else m

/-- R30, R31: a channel after a fresh sample that converts to a value with its mark. -/
def sampled (tick : Word32) (raw : Word32) (r : Int × Mark) (c : Channel) : Channel :=
  { c with lastRaw := some raw, value := some r.1, mark := some r.2, stamp := some tick, fresh := true }

/-- R30: a channel after a delivered raw value; `none` where the kind discards it. -/
def deliverRaw (s : State) (raw : Word32) (c : Channel) : Option Channel :=
  match c.config with
  | .calibrated t _ => some (sampled (now s) raw (convert (tableAt s t) raw.toNat) c)
  | .scaled m d o _ => some (sampled (now s) raw (convertScaled m d o raw.toNat) c)
  | .counter m d _ =>
    let total := accumulate m d c.lastRaw (c.total.getD 0) raw
    some { sampled (now s) raw (total, totalMark total) c with total := some total }
  | .gauge _ _ => none
  | .none => none

/-- R31, R37: a channel after a delivered reading; `none` where the kind discards it. -/
def deliverReading (s : State) (g : Nat) (saturated : Bool) (c : Channel) : Option Channel :=
  match c.config with
  | .gauge t _ =>
    let r := convert (tableAt s t) g
    some { sampled (now s) (BitVec.ofNat 32 g) (r.1, gaugeMark saturated r.2) c with saturated := some saturated }
  | .calibrated _ _ => none
  | .scaled _ _ _ _ => none
  | .counter _ _ _ => none
  | .none => none

/-! ### Presentation to the readers (R32) -/

/-- R32, R143: a fresh sample of channel `m` is presented to every reader (log 3). -/
def presentSample (m : Nat) (s : State) : State :=
  let v := valueOf s m
  let k := markOf s m
  let s1 := channels4.foldl (fun s n => stressSample m n v k s) s
  let s2 := placementSample m s1
  let s3 := channels4.foldl (classifierSample m v) s2
  observe (.sample m v) s3

/-- R32, R39: a change of channel `m` to STALE is presented to every reader (log 3). -/
def presentStale (m : Nat) (s : State) : State :=
  let s1 := channels4.foldl (fun s n => stressStale m n s) s
  tripStale m (channels4.foldl (classifierStale m) (placementStale m s1))

/-- R30: a raw value is delivered to channel `m`. -/
def deliver (m : Nat) (raw : Word32) (s : State) : State :=
  match deliverRaw s raw (channelAt s m) with
  | some c => presentSample m (s.onChannel m fun _ => c)
  | none => s

/-- R31: a reading is delivered to channel `m`; a discarded one changes nothing. -/
def deliverGauge (m g : Nat) (saturated : Bool) (s : State) : State :=
  match deliverReading s g saturated (channelAt s m) with
  | some c => presentSample m (s.onChannel m fun _ => c)
  | none => s

/-! ### Freshness (R38) -/

/-- R26: the stale limit of a kind. -/
def staleLimit : ChanConfig → Nat
  | .none => 0
  | .calibrated _ l => l
  | .scaled _ _ _ l => l
  | .counter _ _ l => l
  | .gauge _ l => l

/-- R38: a FRESH channel whose age exceeds its stale limit. -/
def staleDue (s : State) (m : Nat) : Bool :=
  (channelAt s m).fresh
    && decide (staleLimit (channelAt s m).config < age (now s) ((channelAt s m).stamp.getD 0))

/-- R38: the channel becomes STALE, and the change is presented. -/
def makeStale (m : Nat) (s : State) : State := presentStale m (s.onChannel m fun c => { c with fresh := false })

/-! ### Configuration and tables (R27, R42) -/

/-- R27: the initial state of a configured channel. -/
def configured (s : State) (cfg : ChanConfig) : Channel :=
  let blank : Channel := { Channel.unconfigured with config := cfg }
  match cfg with
  | .none => blank
  | .calibrated t _ =>
    let r := convert (tableAt s t) 0
    { blank with lastRaw := some 0, value := some r.1, mark := some r.2 }
  | .gauge t _ =>
    let r := convert (tableAt s t) 0
    { blank with lastRaw := some 0, value := some r.1, mark := some r.2, saturated := some false }
  | .scaled _ _ o _ => { blank with lastRaw := some 0, value := some o, mark := some .within }
  | .counter _ _ _ => { blank with total := some 0, value := some 0, mark := some .within }

/-- R42: a channel that names the reloaded table converts its last raw value again. -/
def reconvert (t : Nat) (bps : List (Nat × Int)) (c : Channel) : Channel :=
  let raw := (c.lastRaw.getD 0).toNat
  match c.config with
  | .calibrated u _ =>
    if u = t then { c with value := some (convert bps raw).1, mark := some (convert bps raw).2 } else c
  | .gauge u _ =>
    if u = t then
      { c with
        value := some (convert bps raw).1
        mark := some (gaugeMark (c.saturated.getD false) (convert bps raw).2) }
    else c
  | .scaled _ _ _ _ => c
  | .counter _ _ _ => c
  | .none => c

/-- R41, R42: a table is replaced and its channels converted again. -/
def replaceTable (t : Nat) (bps : List (Nat × Int)) (s : State) : State :=
  s.onMeasure fun b => { tables := put b.tables t bps, channels := b.channels.map (reconvert t bps) }

end Sys2Proof.Machine
end

