-- ==== Sys2Proof/Machine/Gauge.lean ====
section
/-! DEFINITION. The gauge converter: the ends of its phases, outcomes and surveys (03, R47 to R56). -/

namespace Sys2Proof.Machine

open Sys2Proof Sys2Proof.Config

/-! ### Ends (R52 to R54) -/

/-- R50: the reading, exact. -/
def readingExact (m nRef : Nat) : Nat := m * m * 10000 / (nRef * nRef)

/-- R52: how a measurement ended, with the figures of its end. -/
structure EndFigures where
  outcome : MeasureEnd
  m : Option Nat
  g : Option Nat
  saturated : Option Bool
  deriving DecidableEq, Repr, Inhabited

/-- R52, R59: the last result written at an end. Its T is the one in use, so an abort in SENSING keeps a reused T, whose
reference phase was skipped (log 27). -/
def lastResult (s : State) (e : EndFigures) : LastResult :=
  { outcome := e.outcome, endTick := now s, reused := s.gauge.reused, t := s.gauge.timeT, m := e.m, g := e.g
    saturated := e.saturated, served := s.gauge.inService.getD (newRequest 0) }

/-- R52: the converter IDLE, with no cell and no requesters. The MC and TC counts stay where the end or the abort
left them, since no rule gives them a value in IDLE (log 7). -/
def idleConverter (s : State) : State :=
  s.onGauge fun g => { g with phase := .idle, cell := none, inService := none, timeT := none, reused := false }

/-- R52: the last result is written. -/
def writeResult (c : Nat) (e : EndFigures) (s : State) : State :=
  let r := lastResult s e
  s.onCell c fun cell => { cell with last := some r }

/-- R47, R52: the last acts of an end: the converter becomes IDLE and makes the search. -/
def closeMeasurement (s : State) : State := searchCells (idleConverter s)

/-- The waiting channels in service, lowest number first (log 3). -/
def waitingInService (s : State) : List Nat :=
  channels4.filter fun n => (s.gauge.inService.map (·.waiting.contains n)).getD false

/-- R52, R54: a measurement ends abnormally: the waiting channels receive the outcome, and then one GAUGE_FAULT is
presented, which can freeze the part; the order is log 3. What they request meanwhile waits for the search of the
end. -/
def endAbnormal (c : Nat) (e : EndFigures) (o : CellOutcome) (s : State) : State :=
  let waiting := waitingInService s
  closeMeasurement (observe .gaugeFault (waiting.foldl (cellOutcome o none) (writeResult c e s)))

/-- R53: what the waiting channels receive at a reading, after its delivery. -/
def readingOutcome (s : State) (m g : Nat) : CellOutcome × Option CellReading :=
  match (channelAt s m).config with
  | .gauge _ _ =>
    (.reading, some
      { g := g, value := valueOf s m, mark := markOf s m, stamp := (channelAt s m).stamp.getD 0 })
  | _ => (.noChannel, none)

/-- R50, R52, R53: a measurement ends with a reading. -/
def endReading (c m : Nat) (s : State) : State :=
  let cfg := cellConfig s c
  let exact := readingExact m cfg.nRef
  let g := min 65535 exact
  let saturated := decide (65535 < exact)
  let waiting := waitingInService s
  let s1 := writeResult c
    { outcome := .reading, m := some m, g := some g, saturated := some saturated } s
  let s2 := deliverGauge cfg.output g saturated s1
  let o := readingOutcome s2 cfg.output g
  closeMeasurement (waiting.foldl (cellOutcome o.1 o.2) s2)

/-- R49: the sensing phase ends normally with the count `m`. -/
def endSensing (c m : Nat) (s : State) : State :=
  let s1 := s.onGauge fun g => { g with tcCount := 0, mcCount := m }
  if m < (cellConfig s c).mMin then
    endAbnormal c { outcome := .senseLow, m := some m, g := none, saturated := none } .senseLow s1
  else endReading c m s1

/-- R48: the reference phase ends normally with the time T. -/
def endReference (c t : Nat) (s : State) : State :=
  enterSensing t false (s.onCell c fun cell => { cell with storedT := some (t, now s) })

/-- R48: the TC count has reached 2^20 before the MC count's pass. -/
def loseReference (c mc : Nat) (s : State) : State :=
  endAbnormal c { outcome := .refLost, m := none, g := none, saturated := none } .refLost
    ((s.onCell c fun cell => { cell with storedT := none }).onGauge fun g =>
      { g with tcCount := tcLimit, mcCount := mc })

/-- R49: the MC count has passed 65,535 before the TC count's reaching 0. -/
def endHigh (c tc : Nat) (s : State) : State :=
  endAbnormal c { outcome := .senseHigh, m := none, g := none, saturated := none } .senseHigh
    (s.onGauge fun g => { g with mcCount := 0, tcCount := tc })

/-! ### A T of 0 (R49) -/

/-- R49: the cell in a sensing phase that has a T of 0, which ends at once with m = 0. -/
def emptySensing (s : State) : Option Nat :=
  if s.gauge.phase = .sensing ∧ s.gauge.timeT = some 0 then s.gauge.cell else none

/-- R49, R47: the sensing phases with a T of 0 end one after the other, as far as the search of each end starts
another. -/
def endEmptyFor : Nat → State → State
  | 0, s => s
  | fuel + 1, s =>
    match emptySensing s with
    | some c => endEmptyFor fuel (endSensing c 0 s)
    | none => s

/-- The measurement in service and one of each cell: SENSE_LOW makes no channel request anew (R98). -/
abbrev emptyFuel : Nat := 5

/-- R49: a sensing phase with a T of 0 ends at once. -/
def endEmpty (s : State) : State := endEmptyFor emptyFuel s

/-! ### Abort (R59) -/

/-- R59: the measurement in service ends ABORTED, serving no requester, and the converter is IDLE; the search, which
CONFIG_CELL alone makes, is apart. -/
def abortMeasurement (s : State) : State :=
  match s.gauge.cell with
  | some c => idleConverter (writeResult c { outcome := .aborted, m := none, g := none, saturated := none } s)
  | none => s

/-! ### Surveys (R56) -/

/-- R56: the cell's survey falls due at this tick. -/
def surveyDue (s : State) (c : Nat) : Bool :=
  (cellAt s c).config.isSome && (cellAt s c).nextSurvey == some (now s)

/-- R56: the survey request, whose arrival lets an IDLE converter search (R47). -/
def surveyRequest (c : Nat) (s : State) : State :=
  joinRequest c (fun r => { r with survey := true })
    (s.onCell c fun cell =>
      { cell with nextSurvey := some (now s + BitVec.ofNat 32 (cell.config.getD default).surveyPeriod) })

end Sys2Proof.Machine
end

