-- ==== Sys2Proof/Machine/HandOut.lean ====
section
/-! DEFINITION. The hand-out pass and the admission of an anchor (01, R11, R24; log 20). -/

namespace Sys2Proof.Machine

open Sys2Proof Sys2Proof.Config

/-- R11, R66: an anchor is admitted to a channel, which starts its test. -/
def admitTo (n slot : Nat) (s : State) : State := startTest n slot (admitAnchor slot s)

/-- R24: the first eligible entry and the lowest-numbered channel that can receive. -/
def nextHandOut (s : State) : Option (Nat × Nat) :=
  match s.anchorTable.order.find? (eligible s), channels4.find? (canReceive s) with
  | some slot, some n => some (n, slot)
  | _, _ => none

/-- R24: a pass under its conditions, repeated on the list and the channels as they then stand. Each hand-out
takes its entry from the list, so the list's length bounds the repetitions. -/
def passLoop : Nat → State → State
  | 0, s => s
  | fuel + 1, s =>
    match nextHandOut s with
    | some (n, slot) => passLoop fuel (admitTo n slot s)
    | none => s

/-- R24: the pass; under any other condition it ends at once without handing out. -/
def handOut (s : State) : State := if passOpen s then passLoop (s.anchorTable.order.length + 1) s else s

/-- R24: a pass that has been started in this change is made; what starts during it starts none of its own. -/
def runPass (s : State) : State :=
  if s.passDue then
    let s1 := handOut s
    { s1 with passDue := false }
  else s

end Sys2Proof.Machine
end

