-- ==== Sys2Proof/Machine/Schedule.lean ====
section
/-! DEFINITION. The ring scheduler: polls that are due, modes, reports of commands and re-entry (09, R169, R172,
R178, R179). -/

namespace Sys2Proof.Machine

open Sys2Proof Sys2Proof.Config

/-! ### Polls (R168, R169) -/

/-- Poll entry `e`. -/
def pollAt (s : State) (e : Nat) : Option Poll := look s.sched.polls e

/-- The state with a poll entry updated. -/
def State.onPoll (s : State) (e : Nat) (f : Poll → Poll) : State :=
  s.onSched fun d => { d with polls := put d.polls e ((look d.polls e).map f) }

/-- R169: the lateness of a due entry; `none` when it is not due. -/
def lateness (tick : Word32) (p : Poll) : Option Nat :=
  if !p.inFlight && decide (age tick p.nextDue < 2147483648) then some (age tick p.nextDue) else none

/-- The entry numbers 0 … 31. -/
def entries32 : List Nat := List.range 32

/-- R170: the later of two due entries, the lower entry number where two are equal; `best` has the lower number. -/
def laterEntry (best : Option (Nat × Nat)) (e : Nat) (late : Option Nat) : Option (Nat × Nat) :=
  match late, best with
  | none, _ => best
  | some l, none => some (e, l)
  | some l, some (b, k) => if k < l then some (e, l) else some (b, k)

/-- R170: the due entry with the greatest lateness, and that lateness. -/
def latestPoll (s : State) : Option (Nat × Nat) :=
  entries32.foldl (fun best e => laterEntry best e ((pollAt s e).bind (lateness (now s)))) none

/-- R168, R169: the in-flight mark of an entry is cleared. -/
def clearPoll (e : Nat) (s : State) : State := s.onPoll e fun p => { p with inFlight := false }

/-! ### Modes (R172) -/

/-- R172: the age of the front entry of the queue. -/
def frontAge (s : State) : Option Nat := s.sched.queue.head?.map fun e => age (now s) e.enqueued

/-- R172: SAMPLING is left. -/
def entersIssuing (s : State) : Bool :=
  decide (s.sched.params.high ≤ s.sched.queue.length)
    || (match frontAge s with
        | some a => decide (s.sched.params.commandStarve ≤ a)
        | none => false)

/-- R172: ISSUING is left. -/
def entersSampling (s : State) : Bool :=
  decide (s.sched.queue.length ≤ s.sched.params.low)
    || (match latestPoll s with
        | some (_, l) => decide (s.sched.params.pollStarve ≤ l)
        | none => false)

/-- R172: the mode judgment of an insertion opportunity. -/
def judgeMode (s : State) : State :=
  match s.sched.mode with
  | .sampling =>
    if entersIssuing s then s.onSched fun d =>
      { d with mode := .issuing, toIssuing := d.toIssuing + 1 } else s
  | .issuing =>
    if entersSampling s then s.onSched fun d => { d with mode := .sampling, toSampling := d.toSampling + 1 } else s

/-! ### Last-sent records and failure counts (R167, R178) -/

/-- R167: the last-sent record of a node's class. -/
def lastSentAt (s : State) (node : Nat) (k : CommandClass) : Option Sent :=
  look (look s.sched.lastSent (node - 1)) (classIndex k)

/-- R170: the last-sent record of a command's class is written. -/
def recordSent (node : Nat) (c : Command) (origin : Owner) (tag : Nat) (s : State) : State :=
  s.onSched fun d =>
    { d with
      lastSent := put d.lastSent (node - 1)
        (put (look d.lastSent (node - 1)) (classIndex (commandClass c))
          (some { command := c, origin := origin, tag := tag, tick := now s })) }

/-- R178: the failure count of a node. -/
def failuresOf (s : State) (node : Nat) : Nat := look s.sched.failures (node - 1)

/-- R178: the failure count of a node set. -/
def setFailures (node k : Nat) (s : State) : State :=
  s.onSched fun d => { d with failures := put d.failures (node - 1) k }

/-! ### Reports (R178, R179) -/

/-- R179: the failed command is superseded. -/
def superseded (s : State) (node : Nat) (c : Command) (tag : Nat) : Bool :=
  s.sched.queue.any (sameKey node (commandClass c)) || s.sched.priority.any (·.node == node)
    || !((lastSentAt s node (commandClass c)).map (·.tag) == some tag)

/-- R179: the originator's record of a dropped command's class for the node becomes absent. -/
def clearRecord (node : Nat) (c : Command) (origin : Owner) (s : State) : State :=
  match origin, commandClass c with
  | .sc n, .motion =>
    if (bindingOf s n).jack = node then s.onWork n fun w => { w with commanded := none } else s
  | .pu, .winch =>
    if (placementConfig s).winchNode = node then s.onPlacement fun p => { p with winchCommand := none } else s
  | .pu, .pump =>
    if (placementConfig s).pumpNode = node then s.onPlacement fun p => { p with pumpCommand := none } else s
  | _, _ => s

/-- R179: a failed command that is not superseded is re-entered. -/
def reenter (node : Nat) (c : Command) (origin : Owner) (priority : Bool) (s : State) : State :=
  if priority then placeHalt node c origin s
  else if s.sched.queue.length < queueMax then
    s.onSched fun d =>
      { d with queue := d.queue ++ [{ node := node, command := c, origin := origin, enqueued := now s }] }
  else clearRecord node c origin s

/-- R84, R132, R178: NODE_ABSENT is presented to the unit that owns the node. -/
def nodeAbsent (node : Nat) (s : State) : State :=
  match ownerOf s node with
  | some (.sc n) => haltStress n .nodeAbsent s
  | some .pu => haltPlacement .nodeAbsent s
  | none => s

/-- R178: a command has been taken. -/
def reportTaken (node : Nat) (s : State) : State := setFailures node 0 s

/-- R178, R179: a command has failed. -/
def reportFailed (node tag : Nat) (c : Command) (origin : Owner) (priority : Bool) (s : State) : State :=
  if failuresOf s node < 2 then
    let s1 := setFailures node (failuresOf s node + 1) s
    if superseded s1 node c tag then s1 else reenter node c origin priority s1
  else nodeAbsent node (setFailures node 0 s)

/-- R180: the scheduler's part of a break. -/
def schedulerBreak (s : State) : State :=
  s.onSched fun d => { d with queue := [], failures := Vector.replicate 62 0, passedOver := 0 }

end Sys2Proof.Machine
end

