-- ==== Sys2Proof/Machine/Reads.lean ====
section
/-! DEFINITION. The bodies of the READ_ responses: the items that each rule lists, in its order, in the encoding of
08, section 8.8 (log 10). -/

namespace Sys2Proof.Machine

open Sys2Proof Sys2Proof.Config

/-! ### Anchor table (R4, R19, R22) -/

/-- R2: halted-from coded from 0 in the order of the table. -/
def haltedFromCode : HaltedFrom → Nat
  | .winching => 0
  | .grouting => 1
  | .stressing => 2

/-- R4: the results of a record in the order of R2. -/
def putResults (a : Anchor) : List Byte :=
  optNat 2 a.insertionLength ++ optNat 3 a.groutTake ++ optWord a.completionMinute ++ optNat 2 a.lApp
    ++ optInt 4 a.ksPrimary ++ optInt 4 a.ksExtension ++ optInt 3 a.retainedLoad ++ optInt 4 a.crossDifference
    ++ optNat 1 (a.verdictCause.map rejectCode)

/-- R4: halted-from and halt cause, in HALTED alone: two bytes there and none in any other phase, without presence
bytes (log 10). -/
def putHalt (a : Anchor) : List Byte :=
  if a.phase = .halted then
    be 1 (haltedFromCode (a.haltedFrom.getD .winching)) ++ be 1 (causeCode (a.haltCause.getD .restart))
  else []

/-- R4: the place of a slot in the order list, counted from 0 at the front. -/
def orderPlace (s : State) (slot : Nat) : Option Nat := s.anchorTable.order.findIdx? (· == slot)

/-- R4: READ_ANCHOR; the place in the order list follows in every phase, absent in FREE (log 10). -/
def readAnchorBody (s : State) (slot : Nat) : List Byte :=
  let a := anchorAt s slot
  be 1 (phaseCode a.phase)
    ++ (match a.design with
        | some d => putDesign d ++ putResults a ++ putHalt a
        | none => [])
    ++ optNat 1 (orderPlace s slot)

/-- R19: READ_CLASS; an empty class is an absent one. -/
def readClassBody (s : State) (k : Nat) : List Byte :=
  optional 26 ((look s.anchorTable.classes k).map putClass)

/-- R22: the holds coded from 0 in the order of the table. -/
def holdCode : Hold → Nat
  | .clear => 0
  | .curing => 1
  | .excluded => 2
  | .limit => 3

/-- R22: READ_ORDER. -/
def readOrderBody (s : State) : List Byte :=
  counted (fun slot => be 1 slot ++ be 1 (holdCode (holdReason s slot))) s.anchorTable.order

/-! ### Measurement channels and tables (R29, R43) -/

/-- R26: the configuration items of a channel, each absent where its kind has none. -/
def putChanItems (table : Option Nat) (mult : Option Int) (div : Option Nat) (offset : Option Int)
    (limit : Option Nat) : List Byte :=
  optNat 1 table ++ optInt 2 mult ++ optNat 2 div ++ optInt 3 offset ++ optNat 2 limit

/-- R26, R29: the configuration of a channel as it is read, in the order of R26's table. -/
def readChanConfig : ChanConfig → List Byte
  | .none => putChanItems none none none none none
  | .calibrated t l => putChanItems (some t) none none none (some l)
  | .scaled m d o l => putChanItems none (some m) (some d) (some o) (some l)
  | .counter m d l => putChanItems none (some m) (some d) none (some l)
  | .gauge t l => putChanItems (some t) none none none (some l)

/-- R29: READ_CHANNEL: the kind, then each item of R26 that the kind may leave absent with its own presence byte
(section 8.8, log 10). -/
def readChannelBody (s : State) (m : Nat) : List Byte :=
  let c := channelAt s m
  be 1 (kindCode c.config) ++ readChanConfig c.config ++ optWord c.lastRaw ++ optional 1 (c.saturated.map flag)
    ++ optInt 4 c.value ++ optNat 1 (c.mark.map markCode) ++ optWord c.stamp ++ be 1 (freshCode c.fresh)
    ++ optNat 3 c.total ++ flag (channelInUse s m)

/-- R43: READ_TABLE; an empty table is an absent one. -/
def readTableBody (s : State) (t : Nat) : List Byte :=
  optional 1 (if (tableAt s t).isEmpty then none else some (counted putBreakpoint (tableAt s t)))
    ++ flag (tableInUse s t)

/-! ### Cells (R58) -/

/-- R44: the converter's states coded from 0. -/
def gaugePhaseCode : GaugePhase → Nat
  | .idle => 0
  | .reference => 1
  | .sensing => 2

/-- R52: the outcomes coded from 0 in the order of the table. -/
def measureEndCode : MeasureEnd → Nat
  | .reading => 0
  | .refLost => 1
  | .senseHigh => 2
  | .senseLow => 3
  | .aborted => 4

/-- R46: a pending request. -/
def putRequest (r : CellRequest) : List Byte :=
  subset r.waiting ++ flag r.station ++ flag r.survey ++ flag r.freshReference ++ word r.firstTick

/-- R52: a last result. Outcome NONE is no outcome of R52's list; it is the last result sent as absent. T, m, G and
saturated have a presence byte each (log 10). -/
def putLast (r : LastResult) : List Byte :=
  be 1 (measureEndCode r.outcome) ++ word r.endTick ++ flag r.reused ++ optNat 3 r.t ++ optNat 2 r.m
    ++ optNat 2 r.g ++ optional 1 (r.saturated.map flag) ++ flag r.served.station ++ flag r.served.survey
    ++ subset r.served.waiting

/-- R58: READ_CELL; a last result of outcome NONE is the presence byte 0 and 21 zeros. The stored T, its stamp and its age
are one item with one presence byte, and so is the pending request. Whether the converter is working on the cell and in
which phase is one item, a presence byte and the code of the converter's state (log 10). -/
def readCellBody (s : State) (c : Nat) : List Byte :=
  let cell := cellAt s c
  optional 9 (cell.config.map putCellConfig)
    ++ optional 11 (cell.storedT.map fun p => be 3 p.1 ++ word p.2 ++ be 4 (age (now s) p.2))
    ++ optWord cell.nextSurvey ++ optional 8 (cell.pending.map putRequest)
    ++ optNat 1 (if s.gauge.cell = some c then some (gaugePhaseCode s.gauge.phase) else none)
    ++ optional 21 (cell.last.map putLast)
    ++ be 1 (gaugePhaseCode s.gauge.phase) ++ be 1 s.gauge.pointer

/-! ### Stressing channels (R65, R113) -/

/-- R60: the states coded from 0. -/
def stressModeCode : StressMode → Nat
  | .unbound => 0
  | .idle => 1
  | .running => 2
  | .stalled => 3
  | .frozen => 4
  | .locking => 5

/-- R60, R65: a commanded motion as two bytes: the command coded from 0, then its speed, 0 for JACK_HOLD (log 10). -/
def putMotion : Motion → List Byte
  | .advance v => be 1 0 ++ be 1 v
  | .retract v => be 1 1 ++ be 1 v
  | .hold => be 1 2 ++ be 1 0

/-- Section 5.4: the progress coded from 0. -/
def progressCode : LockProgress → Nat
  | .approach => 0
  | .seating => 1
  | .releasing => 2
  | .retained => 3

/-- R97: the outcomes coded from 0. -/
def cellOutcomeCode : CellOutcome → Nat
  | .reading => 0
  | .refLost => 1
  | .senseHigh => 2
  | .senseLow => 3
  | .noCell => 4
  | .noChannel => 5

/-- R97: an outcome record. R97's table lists no G: the record keeps the one that the outcome carries (R53), which the
STEP record needs (R112), and sends its two bytes before the cell force; G and the cell force with its mark and stamp
are one item with one presence byte (log 10). -/
def putOutcome (o : OutcomeRecord) : List Byte :=
  be 1 (cellOutcomeCode o.outcome)
    ++ optional 10 (o.reading.map fun r => be 2 r.g ++ putForce r.value ++ be 1 (markCode r.mark) ++ word r.stamp)
    ++ putForce o.jackForce ++ be 1 (markCode o.jackMark) ++ word o.tick

/-- R60: the binding items in the order of the table, each absent in UNBOUND. -/
def readBinding (b : Option Binding) : List Byte :=
  optNat 1 (b.map (·.jack)) ++ optNat 1 (b.map (·.force)) ++ optNat 1 (b.map (·.extension))
    ++ optNat 1 (b.map (·.seat)) ++ optNat 1 (b.map (·.cell)) ++ optNat 4 (b.map (·.stroke))

/-- R60, R113: the working data. Hold reached, overshoot and the point counter, to which R60's table gives no
absence, are sent as they stand, clear and 0 while no anchor is held, and the held record by the kind byte of its log entry
(log 10). -/
def putWork (w : Work) : List Byte :=
  optNat 1 w.slot ++ optNat 1 w.step ++ optNat 4 (w.step.map fun _ => w.elapsed)
    ++ optional 2 (w.commanded.map putMotion) ++ flag w.holdReached ++ optInt 3 w.target ++ optInt 3 w.tolerance
    ++ optNat 1 (w.direction.map directionCode) ++ optional 7 (w.lastLoaded.map putPoint)
    ++ optional 7 (w.lastUnloaded.map putPoint) ++ flag w.overshoot
    ++ optional 7 (w.settle.map fun d => beInt 4 d.reference ++ be 2 d.progress ++ be 1 d.count)
    ++ optional 8 (w.s1.map putReading) ++ optional 8 (w.s2.map putReading) ++ optional 8 (w.s2b.map putReading)
    ++ flag w.requestOutstanding ++ optional 20 (w.outcome.map putOutcome)
    ++ optNat 1 (w.progress.map progressCode) ++ optNat 1 w.seatCount ++ be 1 w.window
    ++ optNat 1 (w.pendingCause.map rejectCode) ++ be 2 w.pointCounter ++ flag w.deferredFreeze
    ++ flag w.deferredHalt ++ optNat 1 (w.held.map fun r => recordKindCode r.kind)

/-- R65: READ_STRESS; the step and the two values follow while an anchor is held, and only then (log 10). -/
def readStressBody (s : State) (n : Nat) : List Byte :=
  let c := stressAt s n
  be 1 (stressModeCode c.mode) ++ readBinding c.binding ++ flag c.autoTake ++ putWork c.work
    ++ (if holdsAnchor s n then
          putStep (stepOf s n) ++ putValue 3 s (bindingOf s n).force ++ putValue 4 s (bindingOf s n).extension
        else [])

/-! ### Placement (R116) -/

/-- R114: the states coded from 0. -/
def placementModeCode : PlacementMode → Nat
  | .idle => 0
  | .winching => 1
  | .grouting => 2
  | .paused => 3

/-- R114: paused-from coded from 0. -/
def pausedFromCode : RunPhase → Nat
  | .winching => 0
  | .grouting => 1

/-- R114: a recorded command with its speed: the command, run 0 or stop 1, and the speed, 0 for a stop (log 10). -/
def putDrive : Drive → List Byte
  | .run v => be 1 0 ++ be 1 v
  | .stop => be 1 1 ++ be 1 0

/-- R116: what READ_PLACEMENT carries while the unit holds an anchor, and only then; the five channels in the order
payout, tension, flow, pressure, return (log 10). -/
def putPlacing (s : State) (r : Run) : List Byte :=
  let d := designOf s r.slot
  let c := placementConfig s
  be 1 (phaseCode (anchorAt s r.slot).phase) ++ be 2 d.insertionTarget ++ be 3 d.groutTarget ++ be 3 d.groutMax
    ++ putValue 3 s c.payout ++ putValue 3 s c.tension ++ putValue 3 s c.flow ++ putValue 3 s c.pressure
    ++ putValue 3 s c.ret

/-- R114: the configuration items in the order of the table, each absent in an unconfigured unit; a classifier that is
NONE is absent too, so the two read alike (log 10). -/
def readPlacementConfig (c : Option PlacementConfig) : List Byte :=
  optNat 1 (c.map (·.winchNode)) ++ optNat 1 (c.map (·.pumpNode)) ++ optNat 1 (c.map (·.payout))
    ++ optNat 1 (c.map (·.flow)) ++ optNat 1 (c.map (·.tension)) ++ optNat 1 (c.map (·.pressure))
    ++ optNat 1 (c.map (·.ret)) ++ optNat 1 (c.bind (·.tensionX)) ++ optNat 1 (c.bind (·.pressureX))
    ++ optNat 1 (c.map (·.winchSpeed)) ++ optNat 1 (c.map (·.pumpSpeed)) ++ optNat 2 (c.map (·.winchTimeout))

/-- R116: READ_PLACEMENT; each item that may be absent has its own presence byte (section 8.8), the two failure counts
among them, which are absent in an unconfigured unit (log 10). -/
def readPlacementBody (s : State) : List Byte :=
  let p := s.placement
  be 1 (placementModeCode p.mode) ++ readPlacementConfig p.config
    ++ optNat 1 (p.run.map (·.slot)) ++ optNat 1 ((p.run.bind (·.pausedFrom)).map pausedFromCode)
    ++ optNat 2 (p.run.map (·.elapsed)) ++ optNat 1 (p.run.map (·.speed))
    ++ optional 1 (p.run.map fun r => flag r.starved) ++ optional 2 (p.winchCommand.map putDrive)
    ++ optional 2 (p.pumpCommand.map putDrive) ++ optNat 2 (p.run.map (·.pointCounter))
    ++ (match p.run with
        | some r => putPlacing s r
        | none => [])
    ++ optNat 1 (p.config.map fun c => failuresOf s c.winchNode)
    ++ optNat 1 (p.config.map fun c => failuresOf s c.pumpNode)

/-! ### Classifiers and trip counters (R135, R150) -/

/-- R134: the states coded from 0. -/
def classifierModeCode : ClassifierMode → Nat
  | .quiet => 0
  | .excursion => 1
  | .declared => 2
  | .stalled => 3

/-- R134: the configuration items in the order of the table, each absent in a disabled classifier. -/
def readClassifierConfig (c : Option ClassifierConfig) : List Byte :=
  flag c.isSome ++ optNat 1 (c.map (·.watched)) ++ optNat 1 (c.map fun c => sideCode c.side)
    ++ optInt 4 (c.map (·.level)) ++ optNat 3 (c.map (·.hysteresis)) ++ optNat 2 (c.map (·.tSpike))
    ++ optNat 2 (c.map (·.tHold)) ++ optNat 2 (c.map (·.tLong)) ++ optional 1 (c.map fun c => flag c.spikeReject)

/-- R135: READ_CLASSIFIER; the duration, which the rule carries when an excursion is in progress, has a presence byte
and stands in every state, absent in QUIET (log 10). -/
def readClassifierBody (s : State) (x : Nat) : List Byte :=
  let c := classifierAt s x
  readClassifierConfig c.config ++ be 1 (classifierModeCode c.mode) ++ optWord c.start
    ++ optNat 4 (c.start.map fun _ => duration s x)

/-- R141: the items of a counter from its source to edge, each absent where its source has none. -/
def putTripItems (source : Option (List Byte)) (mask : Option Nat) (threshold : Option Int)
    (invert edge : Option Bool) : List Byte :=
  optional 1 source ++ optNat 1 mask ++ optInt 4 threshold ++ optional 1 (invert.map flag)
    ++ optional 1 (edge.map flag)

/-- R141, R150: the source of a counter as it is read, in the order of R141's table: the code of what it observes with
its channel or classifier, then the class mask of a CLASS source and the threshold, invert and edge of a CHANNEL
source (log 10). -/
def readTripSource : Option TripSource → List Byte
  | none => putTripItems none none none none none
  | some (.channel m t i e) => putTripItems (some (be 1 0 ++ be 1 m)) none (some t) (some i) (some e)
  | some (.events x k) => putTripItems (some (be 1 1 ++ be 1 x)) (some k) none none none
  | some .ringError => putTripItems (some (be 1 2)) none none none none
  | some .gaugeFault => putTripItems (some (be 1 3)) none none none none

/-- R150: one counter, every item of R141 in the order of its table. Previous-qualified has no presence byte, since
R141 calls it clear in a counter without a source (log 10). -/
def putCounter (c : Counter) : List Byte :=
  flag c.enabled ++ readTripSource c.source ++ flag c.freezeEnable ++ be 2 c.value ++ flag c.overflow
    ++ flag c.previous

/-- R150: READ_TRIP. -/
def readTripBody (s : State) : List Byte :=
  s.trip.counters.toList.flatMap putCounter ++ flag s.trip.frozen ++ flag s.trip.stationFreeze
    ++ subset (counters8.filter fun q => holdsFreeze (counterAt s q))

/-! ### Ring and scheduler (R166, R168, R173, R181) -/

/-- R162: the ring states coded from 0. -/
def ringStateCode : RingState → Nat
  | .down => 0
  | .up => 1
  | .broken => 2

/-- Section 8.8: the kind byte of a frame. -/
def frameKindCode : FrameKind → Nat
  | .poll => 1
  | .command => 2
  | .mgmtResp => 4
  | .probe => 5

/-- R166: the originator of an entry: the poll entry, the unit of a command, or none. -/
def originatorCode : Particulars → Option Nat
  | .poll e _ _ => some e
  | .command o _ _ => some (ownerCode o)
  | .none => none

/-- R166: an in-flight entry; the time since sending is sent in four bytes, and the originator is one byte, absent for a
frame that has none (log 10). -/
def putInFlight (clock : Word32) (e : InFlight) : List Byte :=
  be 1 e.tag ++ be 1 (frameKindCode e.kind) ++ be 1 e.dest ++ be 4 (age clock e.sent)
    ++ optNat 1 (originatorCode e.about)

/-- R166: READ_RING; the in-flight entries in the order in which their transmissions ended, and each address's owner or
none as an item that may be absent, two bytes (log 10). -/
def readRingBody (s : State) : List Byte :=
  let r := s.ring
  be 1 (ringStateCode r.state) ++ be 1 r.timeout ++ be 1 r.lossCount ++ counted (putInFlight r.clock) r.inFlight
    ++ be 1 r.responses.length ++ nodes62.flatMap (fun a => optNat 1 ((ownerOf s a).map ownerCode))
    ++ be 1 s.station.address

/-- R181: the command classes in the order of R167. -/
def classes4 : List CommandClass := [.motion, .seat, .winch, .pump]

/-- R181: a last-sent record. -/
def putSent (r : Sent) : List Byte :=
  commandBytes r.command ++ be 1 (ownerCode r.origin) ++ be 1 r.tag ++ word r.tick

/-- R181: the queue entries of a node with their places counted from 0 at the front. -/
def queuePlaces (s : State) (node : Nat) : List (QueueEntry × Nat) :=
  s.sched.queue.zipIdx.filter fun p => p.1.node == node

/-- R173: a queue entry without its node and place. -/
def putQueued (e : QueueEntry) : List Byte :=
  commandBytes e.command ++ be 1 (ownerCode e.origin) ++ word e.enqueued

/-- R181: READ_PENDING; the owner or none of the node is an item that may be absent, and the priority entry with its
command and originator is one (log 10). -/
def readPendingBody (s : State) (node : Nat) : List Byte :=
  be 1 node ++ optNat 1 ((ownerOf s node).map ownerCode) ++ be 1 (failuresOf s node)
    ++ optional 4 ((s.sched.priority.find? (·.node == node)).map fun e =>
        commandBytes e.command ++ be 1 (ownerCode e.origin))
    ++ (if (queuePlaces s node).isEmpty then
          be 1 1 ++ counted putSent (classes4.filterMap (lastSentAt s node))
        else be 1 0 ++ counted (fun p => be 1 p.2 ++ putQueued p.1) (queuePlaces s node))

/-- R168: a poll entry with its due items; the lateness, which the rule carries for a due entry, has a presence byte and
stands in every loaded entry (log 10). -/
def putPoll (tick : Word32) (p : Poll) : List Byte :=
  putPollConfig p.config ++ word p.nextDue ++ flag p.inFlight ++ optNat 4 (lateness tick p)

/-- R168: READ_POLLS. -/
def readPollsBody (s : State) : List Byte :=
  entries32.flatMap fun e => optional 15 ((pollAt s e).map (putPoll (now s)))

/-- R167: the modes coded from 0. -/
def scheduleModeCode : ScheduleMode → Nat
  | .sampling => 0
  | .issuing => 1

/-- R173: READ_SCHEDULE; the age of the front entry and the greatest lateness are items that may be absent, of an empty
queue and where no poll is due, and the passed-over count has no presence byte and is 0 where no response waits
(log 10). -/
def readScheduleBody (s : State) : List Byte :=
  let d := s.sched
  be 1 (scheduleModeCode d.mode) ++ word d.toIssuing ++ word d.toSampling ++ putSchedule d.params
    ++ be 1 d.queue.length ++ optNat 4 (frontAge s) ++ counted (fun e => be 1 e.node ++ putQueued e) d.queue
    ++ counted (fun e => be 1 e.node ++ commandBytes e.command ++ be 1 (ownerCode e.origin)) d.priority
    ++ optNat 4 ((latestPoll s).map (·.2)) ++ be 1 d.passedOver

/-! ### Log and status (R187, R189, R193) -/

/-- Section 8.8: the 20 bytes of a log entry. -/
def entryBytes (e : LogEntry) : List Byte :=
  word e.seq ++ word e.tick ++ be 1 e.kind ++ be 1 e.unit ++ be 1 e.slot ++ be 1 e.detail ++ e.data

/-- R187: the entries that READ_LOG returns, without a count byte. -/
def readLogBody (s : State) (start : Word32) (count : Nat) : List Byte :=
  ((s.log.entries.drop (start - s.log.oldest).toNat).take count).flatMap entryBytes

/-- R189: READ_LOG_STATE. -/
def readLogStateBody (s : State) : List Byte :=
  word s.log.oldest ++ word s.log.next ++ be 2 (occupancy s.log) ++ be 2 s.log.watermark ++ flag s.log.attention
    ++ flag s.log.overrun

/-- R193: one stressing channel of the status summary. -/
def statusStress (s : State) (n : Nat) : List Byte :=
  let w := workOf s n
  be 1 (stressModeCode (stressAt s n).mode) ++ optNat 1 w.slot ++ be 1 w.window ++ flag w.deferredFreeze
    ++ flag w.deferredHalt ++ flag w.held.isSome

/-- R193: the number of anchors in a phase. -/
def countPhase (s : State) (p : Phase) : Nat := slots96.countP fun i => (anchorAt s i).phase == p

/-- R193: READ_STATUS, in the order of the table. The starved mark has a presence byte, since R114 makes it absent without
an anchor (log 10). -/
def readStatusBody (s : State) : List Byte :=
  word (now s) ++ flag s.station.site.isSome ++ optWord (s.station.site.map (·.1))
    ++ flag s.station.estop ++ flag s.station.line
    ++ be 1 (ringStateCode s.ring.state) ++ be 1 s.ring.inFlight.length ++ be 1 s.ring.responses.length
    ++ flag s.trip.frozen ++ flag s.trip.stationFreeze ++ s.trip.counters.toList.flatMap (fun c => flag c.overflow)
    ++ channels4.flatMap (statusStress s)
    ++ be 1 (placementModeCode s.placement.mode) ++ optNat 1 (s.placement.run.map (·.slot))
    ++ optNat 1 ((s.placement.run.bind (·.pausedFrom)).map pausedFromCode)
    ++ optional 1 (s.placement.run.map fun r => flag r.starved)
    ++ channels4.flatMap (fun x => be 1 (classifierModeCode (classifierAt s x).mode))
    ++ be 1 s.anchorTable.order.length ++ be 1 (countPhase s .ready) ++ be 1 (countPhase s .stressing)
    ++ be 1 (countPhase s .halted)
    ++ be 1 (scheduleModeCode s.sched.mode) ++ be 1 s.sched.queue.length ++ be 1 s.sched.priority.length
    ++ be 2 (occupancy s.log) ++ flag s.log.attention ++ flag s.log.overrun

end Sys2Proof.Machine
end

