-- ==== Sys2Proof/Machine/AnchorRequests.lean ====
section
/-! DEFINITION. What a request answers, and the requests of the anchor table (01, R3 to R5, R15, R17, R20 to
R23). -/

namespace Sys2Proof.Machine

open Sys2Proof Sys2Proof.Config

/-- R190: the result of a request, DONE as an absent reason, with its response body. -/
structure Reply where
  reason : Option Reason
  body : List Byte
  deriving DecidableEq, Repr, Inhabited

/-- R190: DONE with a body. -/
def done (body : List Byte) (s : State) : State × Reply := (s, { reason := none, body := body })

/-- R190: a refusal changes no state, and its body is empty. -/
def refuse (r : Reason) (s : State) : State × Reply := (s, { reason := some r, body := [] })

/-- R190: READ_ requests are answered DONE with what they read and change no state. -/
def answer (body : State → List Byte) (s : State) : State × Reply := done (body s) s

/-- A request whose number must lie in 0 … `hi`, otherwise BAD_VALUE. -/
def numbered (hi v : Nat) (act : State → State × Reply) (s : State) : State × Reply :=
  if v ≤ hi then act s else refuse .badValue s

/-- R3, check 4: another slot, not FREE, holds the anchor id, or the row and position. -/
def duplicateAnchor (s : State) (slot : Nat) (d : Design) : Bool :=
  slots96.any fun i =>
    !(i == slot) && !((anchorAt s i).phase == .free)
      && ((designOf s i).anchorId == d.anchorId
        || ((designOf s i).row == d.row && (designOf s i).position == d.position))

/-- R3: LOAD_ANCHOR. -/
def actLoadAnchor (slot : Nat) (d : Design) : State → State × Reply :=
  numbered 95 slot fun s =>
    if !((anchorAt s slot).phase == .free || (anchorAt s slot).phase == .defined) then refuse .badPhase s
    else if !designInRange d then refuse .badValue s
    else if (look s.anchorTable.classes d.klass).isNone then refuse .badValue s
    else if duplicateAnchor s slot d then refuse .duplicate s
    else done [] (s.onAnchor slot fun a => { a with phase := .defined, design := some d })

/-- R4: READ_ANCHOR. -/
def actReadAnchor (slot : Nat) : State → State × Reply := numbered 95 slot (answer fun s => readAnchorBody s slot)

/-- R5: WITHDRAW_ANCHOR. -/
def actWithdrawAnchor (slot : Nat) : State → State × Reply :=
  numbered 95 slot fun s =>
    let freed := done [] (s.onAnchor slot fun _ => Anchor.free)
    match (anchorAt s slot).phase with
    | .defined => freed
    | .accepted => freed
    | .rejected => freed
    | .halted => freed
    | .curing => if s.anchorTable.order.contains slot then refuse .badPhase s else freed
    | .ready => if s.anchorTable.order.contains slot then refuse .badPhase s else freed
    | .free => refuse .notFound s
    | .winching => refuse .badPhase s
    | .placed => refuse .badPhase s
    | .grouting => refuse .badPhase s
    | .stressing => refuse .badPhase s

/-- R15: an anchor halted in WINCHING becomes DEFINED again, with every result absent. -/
def retriedPlacement (a : Anchor) : Anchor := { Anchor.free with phase := .defined, design := a.design }

/-- R15: an anchor halted in STRESSING becomes READY again, with its stressing results absent. -/
def retriedStressing (a : Anchor) : Anchor :=
  { clearStressing a with phase := .ready, haltedFrom := none, haltCause := none }

/-- R15: RETRY_ANCHOR. -/
def actRetryAnchor (slot : Nat) : State → State × Reply :=
  numbered 95 slot fun s =>
    if !((anchorAt s slot).phase == .halted) then refuse .badPhase s
    else
      match (anchorAt s slot).haltedFrom with
      | some .winching => done [] (s.onAnchor slot retriedPlacement)
      | some .stressing => done [] (s.onAnchor slot retriedStressing).startPass
      | some .grouting => refuse .badPhase s
      | none => refuse .badPhase s

/-- R17: LOAD_CLASS. -/
def actLoadClass (k : Nat) (c : ClassDef) : State → State × Reply :=
  numbered 7 k fun s =>
    if classStressing s k then refuse .inUse s
    else if classAccepted (classFilled c) then
      done [] (s.onAnchorTable fun t => { t with classes := put t.classes k (some (classFilled c)) }).startPass
    else refuse .badValue s

/-- R19: READ_CLASS. -/
def actReadClass (k : Nat) : State → State × Reply := numbered 7 k (answer fun s => readClassBody s k)

/-- R20: the order list with a slot added at its place. -/
def orderWith (p : Place) (slot : Nat) (order : List Nat) : List Nat :=
  match p with
  | .front => slot :: order
  | .back => order ++ [slot]

/-- R20: ENQUEUE_STRESS. -/
def actEnqueueStress (slot : Nat) (p : Place) : State → State × Reply :=
  numbered 95 slot fun s =>
    if !((anchorAt s slot).phase == .curing || (anchorAt s slot).phase == .ready) then refuse .badPhase s
    else if s.anchorTable.order.contains slot then refuse .duplicate s
    else done [] (s.onAnchorTable fun t => { t with order := orderWith p slot t.order }).startPass

/-- R21: DEQUEUE_STRESS. -/
def actDequeueStress (slot : Nat) : State → State × Reply :=
  numbered 95 slot fun s =>
    if s.anchorTable.order.contains slot then
      done [] (s.onAnchorTable fun t => { t with order := t.order.filter fun e => !(e == slot) })
    else refuse .notFound s

/-- R22: READ_ORDER. -/
def actReadOrder : State → State × Reply := answer readOrderBody

/-- R23: SET_EXCLUSION. -/
def actSetExclusion (d : Nat) : State → State × Reply :=
  numbered 3 d fun s =>
    if anyStressing s then refuse .inUse s
    else done [] (s.onAnchorTable fun t => { t with exclusion := d }).startPass

end Sys2Proof.Machine
end

