-- ==== Sys2Proof/Machine/ChannelRequests.lean ====
section
/-! DEFINITION. The requests of the measurement channels, the calibration tables and the lift-off cells (02, R27,
R29, R41, R43; 03, R45, R57, R58). -/

namespace Sys2Proof.Machine

open Sys2Proof Sys2Proof.Config

/-- R27, check 3: the table that a kind names is loaded. -/
def tableLoaded (s : State) : ChanConfig → Bool
  | .calibrated t _ => !(tableAt s t).isEmpty
  | .gauge t _ => !(tableAt s t).isEmpty
  | .none => true
  | .scaled _ _ _ _ => true
  | .counter _ _ _ => true

/-- R27: CONFIG_CHANNEL. -/
def actConfigChannel (m : Nat) (cfg : ChanConfig) : State → State × Reply :=
  numbered 23 m fun s =>
    if channelInUse s m then refuse .inUse s
    else if chanConfigInRange cfg && tableLoaded s cfg then
      let s1 := s.onChannel m fun _ => configured s cfg
      done [] (if isFresh s m then presentStale m s1 else s1)
    else refuse .badValue s

/-- R29: READ_CHANNEL. -/
def actReadChannel (m : Nat) : State → State × Reply := numbered 23 m (answer fun s => readChannelBody s m)

/-- R41: LOAD_TABLE. -/
def actLoadTable (t : Nat) (bps : List (Nat × Int)) : State → State × Reply :=
  numbered 15 t fun s =>
    if tableInUse s t then refuse .inUse s
    else if tableInRange bps then done [] (replaceTable t bps s)
    else refuse .badValue s

/-- R43: READ_TABLE. -/
def actReadTable (t : Nat) : State → State × Reply := numbered 15 t (answer fun s => readTableBody s t)

/-- R45, R56: the next survey tick under a configuration. -/
def surveyFrom (tick : Word32) (cfg : Option CellConfig) : Option Word32 :=
  match cfg with
  | some c => if 0 < c.surveyPeriod then some (tick + BitVec.ofNat 32 c.surveyPeriod) else none
  | none => none

/-- R45: a cell under its new configuration. -/
def reconfigured (tick : Word32) (cfg : Option CellConfig) (c : Cell) : Cell :=
  { c with
    config := cfg, storedT := none, nextSurvey := surveyFrom tick cfg
    pending := if cfg.isSome then c.pending else none }

/-- R44, R45: the items of a configuration lie in their ranges. -/
def cellItemsInRange : Option CellConfig → Bool
  | some c => cellConfigInRange c
  | none => true

/-- R45, R59: a cell takes its new configuration. A measurement in service on it is aborted, and the search comes last, so
that a kept request is served under the new configuration. -/
def reconfigureCell (c : Nat) (cfg : Option CellConfig) (s : State) : State :=
  if s.gauge.cell = some c then searchCells ((abortMeasurement s).onCell c (reconfigured (now s) cfg))
  else s.onCell c (reconfigured (now s) cfg)

/-- R45: CONFIG_CELL. -/
def actConfigCell (c : Nat) (cfg : Option CellConfig) : State → State × Reply :=
  numbered 3 c fun s =>
    if cellInUse s c then refuse .inUse s
    else if cellItemsInRange cfg then done [] (reconfigureCell c cfg s)
    else refuse .badValue s

/-- R57: what MEASURE_CELL joins to the pending request. -/
def stationJoins (r : ReferenceChoice) (q : CellRequest) : CellRequest :=
  { q with station := true, freshReference := q.freshReference || (r == .fresh) }

/-- R57: MEASURE_CELL. -/
def actMeasureCell (c : Nat) (r : ReferenceChoice) : State → State × Reply :=
  numbered 3 c fun s =>
    if (cellAt s c).config.isNone then refuse .badValue s else done [] (joinRequest c (stationJoins r) s)

/-- R58: READ_CELL. -/
def actReadCell (c : Nat) : State → State × Reply := numbered 3 c (answer fun s => readCellBody s c)

end Sys2Proof.Machine
end

