-- ==== Sys2Proof/Machine/RunRequests.lean ====
section
/-! DEFINITION. The requests of the stressing channels, the placement unit, the classifiers and the trip counters
(04, R62 to R67, R86; 06, R115, R116, R120; 07, R135, R142, R147 to R150). -/

namespace Sys2Proof.Machine

open Sys2Proof Sys2Proof.Config

/-! ### Stressing channels -/

/-- R62, R115: the channel is of kind CALIBRATED or SCALED. -/
def polledForce (s : State) (m : Nat) : Bool :=
  match (channelAt s m).config with
  | .calibrated _ _ => true
  | .scaled _ _ _ _ => true
  | .none => false
  | .counter _ _ _ => false
  | .gauge _ _ => false

/-- R115: the channel is of kind COUNTER. -/
def polledCount (s : State) (m : Nat) : Bool :=
  match (channelAt s m).config with
  | .counter _ _ _ => true
  | .none => false
  | .calibrated _ _ => false
  | .scaled _ _ _ _ => false
  | .gauge _ _ => false

/-- R62, R115: the node is unowned, or owned by the unit. -/
def freeFor (s : State) (node : Nat) (o : Owner) : Bool := (ownerOf s node).isNone || ownerOf s node == some o

/-- R62: the binding is taken, with the nodes' owners; a new channel or a newly set auto-take starts a pass. -/
def bindTo (n : Nat) (b : Binding) (auto : Bool) (s : State) : State :=
  let c := stressAt s n
  let s1 := match c.binding with
    | some old => if old.jack = b.jack then s else s.setOwner old.jack none
    | none => s
  let s2 := (s1.setOwner b.jack (some (.sc n))).onStress n fun c =>
    { c with mode := .idle, binding := some b, autoTake := auto }
  if c.mode = .unbound ∨ (auto = true ∧ c.autoTake = false) then s2.startPass else s2

/-- R62: BIND_CHANNEL. -/
def actBindChannel (n : Nat) (b : Binding) (auto : Bool) : State → State × Reply :=
  numbered 3 n fun s =>
    if holdsAnchor s n then refuse .busy s
    else if !bindingInRange b then refuse .badValue s
    else if !(polledForce s b.force && polledForce s b.extension && polledForce s b.seat) then refuse .badValue s
    else if freeFor s b.jack (.sc n) then done [] (bindTo n b auto s)
    else refuse .inUse s

/-- R63: the channel without its binding. -/
def unbind (n : Nat) (s : State) : State :=
  (s.setOwner (bindingOf s n).jack none).onStress n fun c =>
    { c with mode := .unbound, binding := none, autoTake := false }

/-- R63: UNBIND_CHANNEL. -/
def actUnbindChannel (n : Nat) : State → State × Reply :=
  numbered 3 n fun s =>
    if (stressAt s n).mode = .unbound then refuse .notFound s
    else if holdsAnchor s n then refuse .busy s
    else done [] (unbind n s)

/-- R64: SET_AUTO_TAKE. -/
def actSetAutoTake (n : Nat) (auto : Bool) : State → State × Reply :=
  numbered 3 n fun s =>
    if (stressAt s n).mode = .unbound then refuse .notFound s
    else
      let s1 := s.onStress n fun c => { c with autoTake := auto }
      done [] (if auto && (stressAt s n).mode == .idle then s1.startPass else s1)

/-- R65: READ_STRESS. -/
def actReadStress (n : Nat) : State → State × Reply := numbered 3 n (answer fun s => readStressBody s n)

/-- R67, R25: START_STRESS. -/
def actStartStress (n slot : Nat) (s : State) : State × Reply :=
  if !(decide (n ≤ 3) && decide (slot ≤ 95)) then refuse .badValue s
  else if s.station.estop then refuse .estop s
  else if s.trip.frozen then refuse .frozen s
  else if !ringUp s then refuse .busy s
  else if (stressAt s n).mode = .unbound then refuse .notFound s
  else if !((stressAt s n).mode == .idle) then refuse .busy s
  else if !((anchorAt s slot).phase == .ready) then refuse .badPhase s
  else if excluded s slot then refuse .inUse s
  else if !targetsBelow s slot then refuse .badValue s
  else done [] (admitTo n slot s)

/-- R86: HALT_CHANNEL. -/
def actHaltChannel (n : Nat) : State → State × Reply :=
  numbered 3 n fun s =>
    match (stressAt s n).mode with
    | .unbound => refuse .notFound s
    | .idle => refuse .badPhase s
    | .running => done [] (haltStress n .station s)
    | .stalled => done [] (haltStress n .station s)
    | .frozen => done [] (haltStress n .station s)
    | .locking => done [] (s.onWork n fun w => { w with deferredHalt := true })

/-! ### Placement unit -/

/-- R115, check 3: the kinds of the five channels. -/
def placementKinds (s : State) (c : PlacementConfig) : Bool :=
  polledCount s c.payout && polledCount s c.flow && polledForce s c.tension && polledForce s c.pressure
    && polledForce s c.ret

/-- R115: the owners of the nodes that the unit named before are released. -/
def releaseNodes (s : State) : State :=
  match s.placement.config with
  | some c => (s.setOwner c.winchNode none).setOwner c.pumpNode none
  | none => s

/-- R114, R115: a recorded command is kept while its node stays. -/
def keptDrive (same : Bool) (d : Option Drive) : Option Drive := if same then d else none

/-- R115: the unit takes a configuration. -/
def configurePlacement (c : PlacementConfig) (s : State) : State :=
  let old := s.placement.config
  (((releaseNodes s).setOwner c.winchNode (some .pu)).setOwner c.pumpNode (some .pu)).onPlacement fun p =>
    { p with
      config := some c
      winchCommand := keptDrive (old.map (·.winchNode) == some c.winchNode) p.winchCommand
      pumpCommand := keptDrive (old.map (·.pumpNode) == some c.pumpNode) p.pumpCommand }

/-- R115: the unit becomes unconfigured. -/
def unconfigurePlacement (s : State) : State :=
  (releaseNodes s).onPlacement fun p => { p with config := none, winchCommand := none, pumpCommand := none }

/-- R115: CONFIG_PLACEMENT. -/
def actConfigPlacement (cfg : Option PlacementConfig) (s : State) : State × Reply :=
  if placementBusy s then refuse .busy s
  else
    match cfg with
    | none => done [] (unconfigurePlacement s)
    | some c =>
      if !placementConfigInRange c then refuse .badValue s
      else if !placementKinds s c then refuse .badValue s
      else if freeFor s c.winchNode .pu && freeFor s c.pumpNode .pu then done [] (configurePlacement c s)
      else refuse .inUse s

/-- R116: READ_PLACEMENT. -/
def actReadPlacement : State → State × Reply := answer readPlacementBody

/-- R120: START_PLACE. -/
def actStartPlace (slot : Nat) : State → State × Reply :=
  numbered 95 slot fun s =>
    if s.station.estop then refuse .estop s
    else if s.trip.frozen then refuse .frozen s
    else if !ringUp s then refuse .busy s
    else if s.station.site.isNone then refuse .timeUnset s
    else if s.placement.config.isNone then refuse .notFound s
    else if placementBusy s then refuse .busy s
    else if (anchorAt s slot).phase = .defined then done [] (beginRun .winching slot s)
    else if (anchorAt s slot).phase = .placed then done [] (beginRun .grouting slot s)
    else refuse .badPhase s

/-! ### Classifiers and trip counters -/

/-- R134, R135: the items of a configuration lie in their ranges. -/
def classifierItemsInRange : Option ClassifierConfig → Bool
  | some c => classifierConfigInRange c
  | none => true

/-- R135: CONFIG_CLASSIFIER. -/
def actConfigClassifier (x : Nat) (cfg : Option ClassifierConfig) : State → State × Reply :=
  numbered 3 x fun s =>
    if classifierInUse s x then refuse .inUse s
    else if classifierItemsInRange cfg then
      done [] (s.onClassifier x fun _ => { config := cfg, mode := .quiet, start := none })
    else refuse .badValue s

/-- R135: READ_CLASSIFIER. -/
def actReadClassifier (x : Nat) : State → State × Reply := numbered 3 x (answer fun s => readClassifierBody s x)

/-- R142: a counter under its new configuration. -/
def loadCounter (cfg : TripConfig) (c : Counter) : Counter :=
  { enabled := cfg.enabled, source := some cfg.source, freezeEnable := cfg.freezeEnable, value := cfg.preload
    overflow := c.overflow, previous := false }

/-- R142: LOAD_TRIP. -/
def actLoadTrip (q : Nat) (cfg : TripConfig) : State → State × Reply :=
  numbered 7 q fun s =>
    if tripConfigInRange cfg then
      let s1 := s.onTrip fun t => { t with counters := put t.counters q (loadCounter cfg (look t.counters q)) }
      done [] (if holdsFreeze (counterAt s1 q) && !s.trip.frozen then becomeFrozen (tripDetail q) s1 else s1)
    else refuse .badValue s

/-- R149: CLEAR_TRIP. -/
def actClearTrip (mask : Nat) (s : State) : State × Reply :=
  done [] (s.onTrip fun t =>
    { t with counters := t.counters.mapIdx fun q c => if mask.testBit q then { c with overflow := false } else c })

/-- R150: READ_TRIP. -/
def actReadTrip : State → State × Reply := answer readTripBody

/-- R147: FREEZE; the cause STATION is coded as the halt cause of that name (log 11). -/
def actFreeze (s : State) : State × Reply :=
  let s1 := s.onTrip fun t => { t with stationFreeze := true }
  done [] (if s.trip.frozen then s1 else becomeFrozen (causeDetail .station) s1)

/-- R148: the part is thawed, a hand-out pass is made, and the record is written, in the order of the rule's list
(log 20). -/
def thawPart (s : State) : State :=
  let s1 := runPass (becomeUnfrozen s)
  writeReserve (freezeRecord s1 1 0) s1

/-- R148: THAW. -/
def actThaw (s : State) : State × Reply :=
  if tripsHold s then refuse .frozen s
  else if s.trip.frozen then done [] (thawPart s)
  else done [] (s.onTrip fun t => { t with stationFreeze := false })

end Sys2Proof.Machine
end

