-- ==== Sys2Proof/Machine/SystemRequests.lean ====
section
/-! DEFINITION. The requests of the ring interface, the scheduler, the test log and the station-request block; the
handing of a request to its block; long bodies; and the response queue (08, R157, R166; 09, R168, R173, R181; 10,
R186 to R189; 11, R190 to R198). -/

namespace Sys2Proof.Machine

open Sys2Proof Sys2Proof.Config

/-! ### Ring and scheduler -/

/-- R166: CONFIG_RING. -/
def actConfigRing (timeout : Nat) (s : State) : State × Reply :=
  if within 1 50 timeout then done [] (s.onRing fun r => { r with timeout := timeout }) else refuse .badValue s

/-- R166: READ_RING. -/
def actReadRing : State → State × Reply := answer readRingBody

/-- R181: READ_PENDING. -/
def actReadPending (node : Nat) (s : State) : State × Reply :=
  if within 1 62 node then answer (fun s => readPendingBody s node) s else refuse .badValue s

/-- R168: a poll of the entry already sent no longer touches the entry. -/
def detach (e : Nat) : Particulars → Particulars
  | .poll e' slots d => .poll e' slots (d || e' == e)
  | .command o c p => .command o c p
  | .none => .none

/-- R168: the polls of an entry, in flight or in transmission (log 19), are detached from it. -/
def detachPolls (e : Nat) (s : State) : State :=
  s.onRing fun r =>
    { r with
      inFlight := r.inFlight.map fun f => { f with about := detach e f.about }
      transmitter := r.transmitter.map fun t => { t with about := detach e t.about } }

/-- R168: a loaded entry is due at once. -/
def loadedPoll (tick : Word32) (c : PollConfig) : Poll := { config := c, nextDue := tick, inFlight := false }

/-- R168: the items of an entry lie in their ranges. -/
def pollItemsInRange : Option PollConfig → Bool
  | some c => pollConfigInRange c
  | none => true

/-- R168: LOAD_POLL. -/
def actLoadPoll (e : Nat) (cfg : Option PollConfig) : State → State × Reply :=
  numbered 31 e fun s =>
    if pollItemsInRange cfg then
      done [] ((detachPolls e s).onSched fun d => { d with polls := put d.polls e (cfg.map (loadedPoll (now s))) })
    else refuse .badValue s

/-- R168: READ_POLLS. -/
def actReadPolls : State → State × Reply := answer readPollsBody

/-- R173: CONFIG_SCHEDULE. -/
def actConfigSchedule (p : ScheduleParams) (s : State) : State × Reply :=
  if scheduleInRange p then done [] (s.onSched fun d => { d with params := p }) else refuse .badValue s

/-- R173: READ_SCHEDULE. -/
def actReadSchedule : State → State × Reply := answer readScheduleBody

/-! ### Test log -/

/-- R187: READ_LOG. -/
def actReadLog (start : Word32) (count : Nat) (s : State) : State × Reply :=
  if !within 1 6 count then refuse .badValue s
  else if seqHeld s.log start then answer (fun s => readLogBody s start count) s
  else refuse .notFound s

/-- R188: the entry continues the record of the entry before it. -/
def continues (e : LogEntry) : Bool := e.kind == 15

/-- R188: the entries kept by a trim named at the entry with index `i`. -/
def keptEntries (i : Nat) (es : List LogEntry) : List LogEntry := (es.drop (i + 1)).dropWhile continues

/-- R188: the log freed through the end of the record to which the named entry belongs. -/
def trimTo (seq : Word32) (l : TestLog) : TestLog :=
  let kept := keptEntries (seq - l.oldest).toNat l.entries
  judgeAttention
    { l with entries := kept, oldest := l.oldest + BitVec.ofNat 32 (l.entries.length - kept.length) }

/-- R188: TRIM_LOG. The held records that find space are presented by HELD_RECORD_WRITE (log 2). -/
def actTrimLog (seq : Word32) (s : State) : State × Reply :=
  if seqHeld s.log seq then
    let s1 := s.onLog (trimTo seq)
    done (word s1.log.oldest ++ be 2 (occupancy s1.log)) s1
  else refuse .notFound s

/-- R186: SET_WATERMARK. -/
def actSetWatermark (w : Nat) (s : State) : State × Reply :=
  if within 1 logOrdinary w then done [] (s.onLog fun l => judgeAttention { l with watermark := w })
  else refuse .badValue s

/-- R189: CLEAR_OVERRUN. -/
def actClearOverrun (s : State) : State × Reply := done [] (s.onLog fun l => { l with overrun := false })

/-- R189: READ_LOG_STATE. -/
def actReadLogState : State → State × Reply := answer readLogStateBody

/-! ### Station -/

/-- R193: READ_STATUS. -/
def actReadStatus : State → State × Reply := answer readStatusBody

/-- R195: SET_TIME. -/
def actSetTime (minute : Word32) (s : State) : State × Reply :=
  done [] (cureAll (s.onStation fun t => { t with site := some (minute, 0) }))

/-- R197: CLEAR_ESTOP. -/
def actClearEstop (s : State) : State × Reply :=
  if s.station.line then refuse .estop s
  else if s.station.estop then done [] (s.onStation fun t => { t with estop := false }).startPass
  else done [] s

/-- R192: READ_PART; a part number out of range is judged before an empty store (log 31). -/
def actReadPart (part : Nat) (s : State) : State × Reply :=
  if !within 1 255 part then refuse .badValue s
  else if s.station.longResponse.isEmpty then refuse .notFound s
  else done ((s.station.longResponse.drop (responseBody * part)).take responseBody) s

/-! ### RESTART (R198) -/

/-- R16: the anchor is in one of the three phases that a RESTART halts. -/
def runsNow (a : Anchor) : Bool := a.phase == .winching || a.phase == .grouting || a.phase == .stressing

/-- R16: an anchor after a RESTART. -/
def restartedAnchor (a : Anchor) : Anchor :=
  if runsNow a then
    { a with phase := .halted, haltedFrom := some (haltedFromOf a.phase), haltCause := some .restart }
  else a

/-- R59, R56: a cell after a RESTART. -/
def restartedCell (tick : Word32) (c : Cell) : Cell :=
  { c with pending := none, storedT := none, nextSurvey := surveyFrom tick c.config }

/-- R61: a stressing channel after a RESTART. -/
def restartedStress (c : Stress) : Stress :=
  if c.mode = .unbound then c else { c with mode := .idle, work := Work.clear }

/-- R141, R151: a trip counter after a RESTART. -/
def restartedCounter (c : Counter) : Counter := { c with value := 0, overflow := false, previous := false }

/-- R157, R158, R161 to R163: the ring interface after a RESTART; an own frame in transmission is finished and
not entered (log 8). -/
def restartedRing (r : Ring) : Ring :=
  { r with
    inFlight := [], lossCount := 0, responses := []
    probeDue := !(r.state == .up)
    transmitter := r.transmitter.map fun t => { t with discarded := true } }

/-- R167: the scheduler after a RESTART, the halt sweep apart. -/
def restartedSched (d : Sched) : Sched :=
  { d with
    mode := .sampling, failures := Vector.replicate 62 0, passedOver := 0, queue := [], priority := []
    polls := d.polls.map fun p => p.map fun p => { p with inFlight := false } }

/-- R198: the slots of the anchors that the RESTART halts. -/
def restartSlots (s : State) : List Nat := slots96.filter fun i => runsNow (anchorAt s i)

/-- R198: the HALT record, with each anchor's slot and halted-from, lowest slot first (log 11). -/
def restartRecord (s : State) : LogRecord :=
  { tick := now s, kind := .halt, unit := unitStation, slot := noSlot, detail := causeDetail .restart
    data := counted (fun i => be 1 i ++ be 1 (haltedFromCode (haltedFromOf (anchorAt s i).phase))) (restartSlots s) }

/-- R16, R59, R61, R114, R134, R141, R151, R158, R167, R192: every block's own part of a RESTART. -/
def restartBlocks (s : State) : State :=
  let tick := now s
  let s1 := abortMeasurement s
  let s2 := s1.onGauge fun g => { g with cells := g.cells.map (restartedCell tick) }
  let s3 := s2.onAnchorTable fun t => { t with slots := t.slots.map restartedAnchor }
  let s4 : State := { s3 with stress := s3.stress.map restartedStress }
  let s5 := s4.onPlacement fun p => { p with mode := .idle, run := none }
  let s6 := abandonAll s5
  let s7 := s6.onTrip fun t =>
    { counters := t.counters.map restartedCounter, frozen := false, stationFreeze := false }
  let s8 := (s7.onRing restartedRing).onSched restartedSched
  s8.onStation fun t => { t with assembly := none, longResponse := [] }

/-- R198: RESTART, with the halt sweep of the emptied priority list and the record; it starts no pass. -/
def actRestart (s : State) : State × Reply :=
  done [] (writeReserve (restartRecord s) (haltSweep (restartBlocks s)))

/-! ### Requests and responses (R157, R190, R192) -/

/-- R190: a request is handed to its owning block. -/
def handRequest : Request → State → State × Reply
  | .loadAnchor slot d => actLoadAnchor slot d
  | .readAnchor slot => actReadAnchor slot
  | .withdrawAnchor slot => actWithdrawAnchor slot
  | .retryAnchor slot => actRetryAnchor slot
  | .loadClass k c => actLoadClass k c
  | .readClass k => actReadClass k
  | .enqueueStress slot p => actEnqueueStress slot p
  | .dequeueStress slot => actDequeueStress slot
  | .readOrder => actReadOrder
  | .setExclusion d => actSetExclusion d
  | .configChannel m c => actConfigChannel m c
  | .readChannel m => actReadChannel m
  | .loadTable t bps => actLoadTable t bps
  | .readTable t => actReadTable t
  | .configCell c cfg => actConfigCell c cfg
  | .measureCell c r => actMeasureCell c r
  | .readCell c => actReadCell c
  | .bindChannel n b auto => actBindChannel n b auto
  | .unbindChannel n => actUnbindChannel n
  | .setAutoTake n auto => actSetAutoTake n auto
  | .readStress n => actReadStress n
  | .startStress n slot => actStartStress n slot
  | .haltChannel n => actHaltChannel n
  | .configPlacement cfg => actConfigPlacement cfg
  | .readPlacement => actReadPlacement
  | .startPlace slot => actStartPlace slot
  | .configClassifier x cfg => actConfigClassifier x cfg
  | .readClassifier x => actReadClassifier x
  | .loadTrip q cfg => actLoadTrip q cfg
  | .clearTrip mask => actClearTrip mask
  | .readTrip => actReadTrip
  | .freeze => actFreeze
  | .thaw => actThaw
  | .configRing timeout => actConfigRing timeout
  | .readRing => actReadRing
  | .readPending node => actReadPending node
  | .loadPoll e cfg => actLoadPoll e cfg
  | .readPolls => actReadPolls
  | .configSchedule p => actConfigSchedule p
  | .readSchedule => actReadSchedule
  | .readLog start count => actReadLog start count
  | .trimLog seq => actTrimLog seq
  | .setWatermark w => actSetWatermark w
  | .clearOverrun => actClearOverrun
  | .readLogState => actReadLogState
  | .readStatus => actReadStatus
  | .setTime minute => actSetTime minute
  | .restart => actRestart
  | .readPart part => actReadPart part
  | .clearEstop => actClearEstop

/-- R190: a code and a body are handed over, or refused BAD_VALUE where they spell no request. -/
def handBody (code : Nat) (body : List Byte) (s : State) : State × Reply :=
  match decodeRequest code body with
  | some r => handRequest r s
  | none => refuse .badValue s

/-- R192: the assembly that a part continues: a new one at part 0, the store's when the code and the part are the
expected ones. -/
def assemblyFor (target part : Nat) (a : Option Assembly) : Option Assembly :=
  if part = 0 then some { code := target, bytes := [], nextPart := 0 }
  else
    match a with
    | some a => if a.code = target ∧ a.nextPart = part then some a else none
    | none => none

/-- R192: the assembly store set or emptied. -/
def setAssembly (a : Option Assembly) (s : State) : State := s.onStation fun t => { t with assembly := a }

/-- R192: LOAD_PART; the code in the response's header is the target's once the body is complete. -/
def actLoadPart (target part : Nat) (last : Bool) (bytes : List Byte) (s : State) : Nat × State × Reply :=
  if target = loadPartCode ∨ target = 0x64 ∨ ownedCode target = false ∨ 119 < bytes.length ∨ 255 < part then
    (loadPartCode, refuse .badValue s)
  else
    match assemblyFor target part s.station.assembly with
    | none => (loadPartCode, refuse .badValue (setAssembly none s))
    | some a =>
      if longBody < (a.bytes ++ bytes).length then (loadPartCode, refuse .full (setAssembly none s))
      else if last then (target, handBody target (a.bytes ++ bytes) (setAssembly none s))
      else
        (loadPartCode,
          done [] (setAssembly (some { code := target, bytes := a.bytes ++ bytes, nextPart := part + 1 }) s))

/-- R157, R199: a request of the station can be taken: the straps name a station, and fewer than 4 responses
wait. -/
def canTake (s : State) : Bool :=
  within 1 62 s.station.address && decide (s.ring.responses.length < responseMax)

/-- R192: a body over 120 bytes is kept whole in the long-response store. -/
def keepLong (body : List Byte) (s : State) : State :=
  if responseBody < body.length then s.onStation fun t => { t with longResponse := body.take longBody } else s

/-- R157, R171: the response is added to the back of the queue; at the front its passed-over count is 0. -/
def queueResponse (tag code : Nat) (r : Reply) (s : State) : State :=
  let s1 := keepLong r.body s
  let s2 := if s1.ring.responses.isEmpty then s1.onSched fun d => { d with passedOver := 0 } else s1
  s2.onRing fun g =>
    { g with
      responses := g.responses ++
        [{ tag := tag, code := code, reason := r.reason, body := r.body.take responseBody }] }

/-- R157, R190: a request act with its response, as one change with the hand-out pass it may have started. -/
def respond (tag code : Nat) (r : State × Reply) : State := runPass (queueResponse tag code r.2 r.1)

/-- R157, R190: a taken request is handed over by its code and body. -/
def takeBody (tag code : Nat) (body : List Byte) (s : State) : State :=
  if code = loadPartCode then
    match takePart body with
    | some (target, part, last, bytes) =>
      let r := actLoadPart target part last bytes s
      respond tag r.1 r.2
    | none => respond tag code (refuse .badValue s)
  else respond tag code (handBody code body s)

end Sys2Proof.Machine
end

