-- ==== Sys2Proof/Machine/Ring.lean ====
section
/-! DEFINITION. The ring interface: frames at port A, returns and losses of own frames, the ring's changes of
state, and port B (08; 09, R170, R171, R180). -/

namespace Sys2Proof.Machine

open Sys2Proof Sys2Proof.Config

/-! ### Frames (section 8.8, R153) -/

/-- Byte `i` of a frame. -/
def byteAt (bs : List Byte) (i : Nat) : Nat := (bs[i]?.getD 0).toNat

/-- Section 8.8: TAKEN, GUARDED and MASTER_PASSED. -/
abbrev markTaken : BitVec 8 := 1
/-- Section 8.8: GUARDED. -/
abbrev markGuarded : BitVec 8 := 2
/-- Section 8.8: MASTER_PASSED. -/
abbrev markPassed : BitVec 8 := 4

/-- A mark of a frame is set. -/
def marked (bs : List Byte) (m : Byte) : Bool := !((bs[3]?.getD 0) &&& m == 0)

/-- Section 8.8: the payload of a whole frame. -/
def payload (bs : List Byte) : List Byte := (bs.drop 6).take (byteAt bs 5)

/-- R153: a malformed frame. -/
def malformed (bs : List Byte) : Bool :=
  decide (bs.length < 8) || decide (124 < byteAt bs 5) || !(bs.length == 8 + byteAt bs 5)
    || decide (63 < byteAt bs 0) || decide (63 < byteAt bs 1)

/-- R153: the received CRC is the CRC over the bytes before it. -/
def crcGood (bs : List Byte) : Bool :=
  withCrc (bs.take (bs.length - 2)) == bs

/-- R153: the frame as changed by setting marks, with a new CRC. -/
def remark (m : Byte) (bs : List Byte) : List Byte :=
  withCrc ((bs.take (bs.length - 2)).set 3 ((bs[3]?.getD 0) ||| m))

/-- Section 8.8: an own frame. -/
def ownFrame (dest kind tag : Nat) (pay : List Byte) : List Byte :=
  withCrc (be 1 dest ++ be 1 0 ++ be 1 kind ++ be 1 0 ++ be 1 tag ++ be 1 pay.length ++ pay)

/-! ### The ring's changes of state (R162, R164) -/

/-- R162, R180: the ring enters BROKEN, as one change; the units halt in the order SC0 to SC3, PU (log 3). -/
def breakRing (s : State) : State :=
  let s1 := s.onRing fun r =>
    { r with
      state := .broken, lossCount := 0, inFlight := [], probeDue := true
      transmitter := r.transmitter.map fun t => { t with discarded := true } }
  let s2 := haltPlacement .ring (haltAllStress .ring s1)
  (schedulerBreak s2).onSched fun d =>
    { d with polls := d.polls.map fun p => p.map fun p => { p with inFlight := false } }

/-- R164: a probe has returned in DOWN or BROKEN: UP, the halt sweep, a hand-out pass. -/
def raiseRing (s : State) : State :=
  (haltSweep (s.onRing fun r => { r with state := .up, lossCount := 0, probeDue := false })).startPass

/-! ### Losses (R160, R161) -/

/-- R169, R168: the poll's entry loses its in-flight mark, unless the station has loaded the entry since. -/
def endPoll (e : Nat) (detached : Bool) (s : State) : State := if detached then s else clearPoll e s

/-- R160: the loss of an entry, handled by its kind. -/
def handleLoss (f : InFlight) (s : State) : State :=
  match f.about with
  | .poll e _ d => endPoll e d s
  | .command o c p => reportFailed f.dest f.tag c o p s
  | .none => if f.kind = .probe then s.onRing fun r => { r with probeDue := true } else s

/-- R158: the in-flight table without the entry of a tag. -/
def dropTag (tag : Nat) (fs : List InFlight) : List InFlight := fs.filter fun f => !(f.tag == tag)

/-- R160, R161: an entry is lost. A loss in UP of a frame other than a probe advances the loss count, and the third
breaks the ring in place of being handled. -/
def loseEntry (f : InFlight) (s : State) : State :=
  let s1 := s.onRing fun r => { r with inFlight := dropTag f.tag r.inFlight }
  if ringUp s ∧ f.kind ≠ .probe then
    if s.ring.lossCount + 1 < lossesToBreak then
      handleLoss f (s1.onRing fun r => { r with lossCount := r.lossCount + 1 })
    else breakRing s1
  else handleLoss f s1

/-! ### Returns (R159) -/

/-- Section 8.8: the raw value of slot `i` of a POLL payload. -/
def slotValue (pay : List Byte) (i : Nat) : Word32 :=
  BitVec.ofNat 32 (byteAt pay (2 + 4 * i) * 16777216 + byteAt pay (3 + 4 * i) * 65536
    + byteAt pay (4 + 4 * i) * 256 + byteAt pay (5 + 4 * i))

/-- R30, R32: each mapped slot is delivered in slot order; each delivery is a change of its own, with the end of a
measurement that it starts with a T of 0 (R49) and the pass it may start (log 3). -/
def deliverSlots (pay : List Byte) (slots : List (Option Nat)) (s : State) : State :=
  slots.zipIdx.foldl (fun s p =>
    match p.1 with
    | some m => runPass (endEmpty (deliver m (slotValue pay p.2) s))
    | none => s) s

/-- R159: a returned POLL. -/
def returnPoll (bs : List Byte) (slots : List (Option Nat)) (s : State) : State :=
  if marked bs markTaken then
    if byteAt (payload bs) 1 = slots.length ∧ (payload bs).length = 2 + 4 * slots.length then
      deliverSlots (payload bs) slots s
    else observe .ringError s
  else s

/-- R159: an own frame has returned: its entry is removed, the loss count is 0, and it is judged by kind. -/
def returnOwn (f : InFlight) (bs : List Byte) (s : State) : State :=
  let s1 := s.onRing fun r => { r with inFlight := dropTag f.tag r.inFlight, lossCount := 0 }
  match f.about with
  | .poll e slots d => returnPoll bs slots (endPoll e d s1)
  | .command o c p => if marked bs markTaken then reportTaken f.dest s1 else reportFailed f.dest f.tag c o p s1
  | .none => if f.kind = .probe ∧ ringUp s = false then raiseRing s1 else s1

/-! ### Foreign frames (R154, R156, R157) -/

/-- R152: a frame is forwarded. That the forwarding store has no bound is the model's choice (DESIGN CHOICE, log 35). -/
def forward (bs : List Byte) (s : State) : State := s.onRing fun r => { r with store := r.store ++ [bs] }

/-- R156: a foreign COMMAND is guarded. -/
def guarded (s : State) (bs : List Byte) : Bool :=
  !haltPayload (payload bs)
    && ((ownerOf s (byteAt bs 0)).isSome || (byteAt bs 0 == 63 && decide (0 < ownedCount s)))

/-- R157: the frame of the station is one that can be taken. -/
def takesRequest (s : State) (bs : List Byte) : Bool :=
  canTake s && byteAt bs 1 == s.station.address && !marked bs markTaken

/-- R154, R156, R157: a foreign frame that has not passed the master is judged and forwarded. A request that is not
taken keeps the TAKEN mark with which it arrived (log 29). -/
def foreignFrame (bs : List Byte) (s : State) : State :=
  if byteAt bs 2 = 3 ∧ byteAt bs 0 = 0 then
    if takesRequest s bs then
      forward (remark (markTaken ||| markPassed) bs)
        (takeBody (byteAt bs 4) (byteAt (payload bs) 0) ((payload bs).drop 1) s)
    else forward (remark markPassed bs) s
  else if byteAt bs 2 = 2 ∧ guarded s bs = true then forward (remark (markGuarded ||| markPassed) bs) s
  else forward (remark markPassed bs) s

/-- R154: the in-flight entry that an own frame matches by tag, kind and destination. -/
def matchingEntry (s : State) (bs : List Byte) : Option InFlight :=
  s.ring.inFlight.find? fun f => f.tag == byteAt bs 4 && frameKindCode f.kind == byteAt bs 2 && f.dest == byteAt bs 0

/-- R153: the in-flight entry that a bad or malformed frame still names by its source and its tag. -/
def namedEntry (s : State) (bs : List Byte) : Option InFlight :=
  if bs.length < 5 then none
  else if byteAt bs 1 = 0 then s.ring.inFlight.find? fun f => f.tag == byteAt bs 4
  else none

/-- R153: a malformed or bad frame is removed, with one RING_ERROR and the loss of the entry it names, in this order
(log 3). -/
def badFrame (bs : List Byte) (s : State) : State :=
  let s1 := observe .ringError s
  match namedEntry s1 bs with
  | some f => loseEntry f s1
  | none => s1

/-- R154: a frame that passed the check is disposed of by the first row that applies. -/
def disposeFrame (bs : List Byte) (s : State) : State :=
  if byteAt bs 1 = 0 then
    match matchingEntry s bs with
    | some f => returnOwn f bs s
    | none => observe .ringError s
  else if byteAt bs 1 = 63 then observe .ringError s
  else if marked bs markPassed then observe .ringError s
  else foreignFrame bs s

/-- R153, R154: a frame has arrived whole at port A. -/
def arrive (bs : List Byte) (s : State) : State :=
  if malformed bs || !crcGood bs then badFrame bs s else disposeFrame bs s

/-! ### Port B (R152, R158, R163, R170, R171) -/

/-- R158: the tag of the next own frame, the counter's value moved past the tags in flight; at most 4 are. -/
def nextTag (fs : List InFlight) (t : Nat) : Nat :=
  (([0, 1, 2, 3, 4].map fun i => (t + i) % 256).find? fun v => !(fs.any (·.tag == v))).getD t

/-- R152, R158: an own frame takes the transmitter with the next tag, and the tag counter moves on. -/
def transmit (kind : FrameKind) (dest : Nat) (pay : List Byte) (about : Particulars) (s : State) : State :=
  let tag := nextTag s.ring.inFlight s.ring.tagCounter
  s.onRing fun r =>
    { r with
      tagCounter := (tag + 1) % 256
      transmitter := some
        { frame := ownFrame dest (frameKindCode kind) tag pay, tag := tag, kind := kind, dest := dest
          about := about, discarded := false } }

/-- R171: the scheduler has sent something else than the front response. -/
def passOver (s : State) : State :=
  if s.ring.responses.isEmpty then s
  else s.onSched fun d => { d with passedOver := min 2 (d.passedOver + 1) }

/-- R170: a command is sent, from the priority list or from the queue. -/
def sendCommand (node : Nat) (c : Command) (o : Owner) (priority : Bool) (s : State) : State :=
  let tag := nextTag s.ring.inFlight s.ring.tagCounter
  passOver (transmit .command node (commandBytes c) (.command o c priority) (recordSent node c o tag s))

/-- R169: the payload of a POLL frame. -/
def pollPayload (c : PollConfig) : List Byte :=
  be 1 c.kind ++ be 1 c.slots.length ++ List.replicate (4 * c.slots.length) 0

/-- R169: a poll entry is sent. -/
def sendPoll (e : Nat) (c : PollConfig) (s : State) : State :=
  let s1 := s.onPoll e fun p =>
    { p with nextDue := now s + BitVec.ofNat 32 p.config.period, inFlight := true }
  passOver (transmit .poll c.node (pollPayload c) (.poll e c.slots false) s1)

/-- R191, section 8.8: the reason byte of a response. -/
def reasonCode : Option Reason → Nat
  | none => 0
  | some .busy => 1
  | some .inUse => 2
  | some .badPhase => 3
  | some .badValue => 4
  | some .full => 5
  | some .notFound => 6
  | some .duplicate => 7
  | some .estop => 8
  | some .frozen => 9
  | some .timeUnset => 10

/-- Section 8.8: the payload of a MGMT_RESP. -/
def responsePayload (r : Response) : List Byte :=
  be 1 r.tag ++ be 1 r.code ++ flag r.reason.isSome ++ be 1 (reasonCode r.reason) ++ r.body

/-- R157, R171: the front response is sent; the next one comes to the front. -/
def sendResponse (r : Response) (s : State) : State :=
  let s1 := s.onRing fun g => { g with responses := g.responses.drop 1 }
  transmit .mgmtResp s.station.address (responsePayload r) .none (s1.onSched fun d => { d with passedOver := 0 })

/-- R170: what an insertion opportunity in UP sends. -/
inductive Choice where
  | halt (e : PriorityEntry)
  | response (r : Response)
  | poll (e : Nat) (c : PollConfig)
  | command (e : QueueEntry)
  | nothing
  deriving DecidableEq, Repr, Inhabited

/-- R170, R171: the front response, when it has been passed over twice. -/
def urgentResponse (s : State) : Option Choice :=
  if s.sched.passedOver = 2 then s.ring.responses.head?.map .response else none

/-- R170: the due entry with the greatest lateness. -/
def pollChoice (s : State) : Option Choice :=
  match latestPoll s with
  | some (e, _) => (pollAt s e).map fun p => .poll e p.config
  | none => none

/-- R170: the order of the choice in each mode. -/
def choices (s : State) : List (Option Choice) :=
  let halt := s.sched.priority.head?.map .halt
  let command := s.sched.queue.head?.map .command
  let response := s.ring.responses.head?.map .response
  match s.sched.mode with
  | .sampling => [halt, urgentResponse s, pollChoice s, command, response]
  | .issuing => [halt, command, urgentResponse s, pollChoice s, response]

/-- R170: the first of the order that has something to send. -/
def chosen (s : State) : Choice := ((choices s).findSome? id).getD .nothing

/-- R170: the choice is carried out. -/
def carryOut (s : State) : Choice → State
  | .halt e =>
    sendCommand e.node e.command e.origin true (s.onSched fun d => { d with priority := d.priority.drop 1 })
  | .command e =>
    sendCommand e.node e.command e.origin false (s.onSched fun d => { d with queue := d.queue.drop 1 })
  | .poll e c => sendPoll e c s
  | .response r => sendResponse r s
  | .nothing => s

/-- R163: a due probe is sent. -/
def sendProbe (s : State) : State :=
  if s.ring.probeDue then transmit .probe 0 [] .none (s.onRing fun r => { r with probeDue := false }) else s

/-- R152: the transmitter is idle and the forwarding store empty. -/
def portFree (s : State) : Bool := s.ring.transmitter.isNone && s.ring.store.isEmpty

/-- R152, R163, R170, R172: an insertion opportunity. -/
def insert (s : State) : State :=
  if portFree s then
    match s.ring.state with
    | .up =>
      if s.ring.inFlight.length < inFlightMax then
        let s1 := judgeMode s
        carryOut s1 (chosen s1)
      else s
    | .down => sendProbe s
    | .broken => sendProbe s
  else s

/-- R152: the forwarding path sends the oldest frame of the store whole (log 9). -/
def forwardOldest (s : State) : State :=
  match s.ring.transmitter, s.ring.store with
  | none, bs :: rest => s.onRing fun r => { r with store := rest, portB := bs }
  | _, _ => s

/-- R158: the entry of an own frame whose transmission has ended; `timeout` is the ring timeout in force then
(log 26). -/
def flightOf (clock : Word32) (timeout : Nat) (t : Transmission) : InFlight :=
  { tag := t.tag, kind := t.kind, dest := t.dest, sent := clock, expiry := clock + BitVec.ofNat 32 timeout
    about := t.about }

/-- R152, R158: the own frame in transmission has left port B whole and is entered in the table with the ring timeout
as it stands now (log 26), unless it was discarded meanwhile (log 8). -/
def endTransmission (s : State) : State :=
  match s.ring.transmitter with
  | some t =>
    s.onRing fun r =>
      { r with
        transmitter := none, portB := t.frame
        inFlight := if t.discarded then r.inFlight else r.inFlight ++ [flightOf r.clock r.timeout t] }
  | none => s

/-- R158, R160: the ring clock reaches the expiry of the entry of a tag. -/
def expire (tag : Nat) (s : State) : State :=
  match s.ring.inFlight.find? (·.tag == tag) with
  | some f => loseEntry f (s.onRing fun r => { r with clock := f.expiry })
  | none => s

/-- R155: a loss of signal at port A. -/
def loseSignal (s : State) : State := if ringUp s then breakRing s else s

end Sys2Proof.Machine
end

