-- ==== Sys2Proof/Machine/Due.lean ====
section
/-! DEFINITION. The rows that the 416 takes of its own accord: when each is due, what it does, and the carrying out
of all that is due before any other command is taken (log 2). -/

namespace Sys2Proof.Machine

open Sys2Proof Sys2Proof.Config

/-- The rows that fall due of the machine's own accord, with the item each is about. `emptySensing` is the SENSING_END of
a sensing phase that has a T of 0 (R49); the others are rows of the table by their names. -/
inductive Due where
  | emptySensing
  | siteMinute
  | stale (m : Nat)
  | loadTimeout (n : Nat)
  | lockRunOut (n : Nat)
  | settleInterval (n : Nat)
  | settleMaximum (n : Nat)
  | stressPoint (n : Nat)
  | winchTimeout
  | placementPoint
  | sustained (x : Nat)
  | overlong (x : Nat)
  | survey (c : Nat)
  | heldRecord (n : Nat)
  | measurement
  deriving DecidableEq, Repr, Inhabited

/-- The channel is in a state. -/
def inMode (s : State) (n : Nat) (m : StressMode) : Bool := (stressAt s n).mode == m

/-- R194: the sub-minute count has reached 600. -/
def minuteFull (s : State) : Bool :=
  match s.station.site with
  | some (_, sub) => decide (ticksPerMinute ≤ sub)
  | none => false

/-- R80: a point of a stressing channel falls due; one that a step completion of the same tick has stalled waits (log 24). -/
def stressPointDue (s : State) (n : Nat) : Bool :=
  (inMode s n .running || inMode s n .locking) && decide (0 < pointInterval s n)
    && decide (pointInterval s n ≤ (workOf s n).pointCounter)

/-- R47: the converter stands IDLE beside a pending request. The search at each arrival and each end leaves no such
state, so in a run this is never due (log 2). -/
def measurementDue (s : State) : Bool := s.gauge.phase == .idle && (nextRequest s).isSome

/-- R90: a held record finds the occupancy below 2016. -/
def heldDue (s : State) (n : Nat) : Bool :=
  (inMode s n .stalled || inMode s n .frozen) && (workOf s n).held.isSome && ordinaryRoom s.log

/-- Whether a row is due as the state stands. The judgments that the rules make at a tick advance are due only
while the tick is open. -/
def isDue (s : State) : Due → Bool
  | .emptySensing => (emptySensing s).isSome
  | .siteMinute => minuteFull s
  | .stale m => s.tickOpen && decide (m < 24) && staleDue s m
  | .loadTimeout n => s.tickOpen && decide (n < 4) && inMode s n .running && pastTimeout s n
  | .lockRunOut n => s.tickOpen && decide (n < 4) && inMode s n .locking && decide ((workOf s n).window = 0)
  | .settleInterval n => s.tickOpen && decide (n < 4) && inMode s n .running && intervalFull s n
  | .settleMaximum n =>
    s.tickOpen && decide (n < 4) && inMode s n .running && pastMaximum s n && !intervalFull s n
  | .stressPoint n => s.tickOpen && decide (n < 4) && stressPointDue s n
  | .winchTimeout => s.tickOpen && winchExpired s
  | .placementPoint => s.tickOpen && placementPointDue s
  | .sustained x => s.tickOpen && decide (x < 4) && sustainedDue s x
  | .overlong x => s.tickOpen && decide (x < 4) && overlongDue s x
  | .survey c => s.tickOpen && decide (c < 4) && surveyDue s c
  | .heldRecord n => decide (n < 4) && heldDue s n
  | .measurement => measurementDue s

/-- R194: the site minute advances, and the anchor table makes the cure evaluation. -/
def advanceMinute (s : State) : State :=
  cureAll (s.onStation fun t => { t with site := t.site.map fun p => (p.1 + 1, 0) })

/-- R90: the held record of a channel is presented to the log. -/
def writeHeld (n : Nat) (s : State) : State :=
  match (workOf s n).held with
  | some r => heldWritten n r s
  | none => s

/-- What a row does. -/
def effect (s : State) : Due → State
  | .emptySensing => endEmpty s
  | .siteMinute => advanceMinute s
  | .stale m => makeStale m s
  | .loadTimeout n => haltStress n .loadTimeout s
  | .lockRunOut n => haltStress n (runOutCause s n) s
  | .settleInterval n => countInterval n s
  | .settleMaximum n => completeUnsettled n s
  | .stressPoint n => stressPoint n s
  | .winchTimeout => haltPlacement .winchTimeout s
  | .placementPoint => placementPoint s
  | .sustained x => declare x s
  | .overlong x => overlongEvent x s
  | .survey c => surveyRequest c s
  | .heldRecord n => writeHeld n s
  | .measurement => endEmpty (searchCells s)

/-- A row taken: its effect with the hand-out pass it starts when it is due, nothing when it is not (log 14). -/
def takeDue (d : Due) (s : State) : State := if isDue s d then runPass (effect s d) else s

/-- Every row that can be due, in the order in which the machine takes them (log 2). -/
def allDue : List Due :=
  [.emptySensing, .siteMinute] ++ (List.range 24).map .stale ++ channels4.map .loadTimeout ++ channels4.map .lockRunOut
    ++ channels4.map .settleInterval ++ channels4.map .settleMaximum ++ channels4.map .stressPoint
    ++ [.winchTimeout, .placementPoint] ++ channels4.map .sustained ++ channels4.map .overlong
    ++ channels4.map .survey ++ channels4.map .heldRecord ++ [.measurement]

/-- The row that the machine takes next. -/
def nextDue (s : State) : Option Due := allDue.find? (isDue s)

/-- The due rows taken one after the other. -/
def settleLoop : Nat → State → State
  | 0, s => s
  | fuel + 1, s =>
    match nextDue s with
    | some d => settleLoop fuel (takeDue d s)
    | none => s

/-- More than the rows that one tick and one change can make due. -/
abbrev settleFuel : Nat := 4096

/-- Everything that is due is carried out, and the tick is closed when nothing is due any more. -/
def settle (s : State) : State :=
  let s1 := settleLoop settleFuel s
  { s1 with tickOpen := s1.tickOpen && (nextDue s1).isSome }

/-- Nothing is due, no tick is open and no hand-out pass waits: the machine has carried out all it does of its own
accord. -/
def quiet (s : State) : Bool := (nextDue s).isNone && !s.tickOpen && !s.passDue

end Sys2Proof.Machine
end

