-- ==== Sys2Proof/Machine/Commands.lean ====
section
/-! DEFINITION. The meanings of the rows that are not requests: pins, ring events, the tick, the ends of the
converter's phases, and the rows that fall due of the machine's own accord. -/

namespace Sys2Proof.Machine

open Sys2Proof Sys2Proof.Config

/-- A command of this machine always answers a next state. -/
abbrev Result := Host.Outcome State Fault Refusal

/-- A command from outside: what is due is carried out first (log 2), then the command acts, with the hand-out pass
that it starts (log 20). -/
def event (act : State → State) (s : State) : Result := .next (runPass (act (settle s)))

/-! ### Pins and reset (R196, R199) -/

/-- R196: the HALT record of the latching, with the number of owned nodes swept. -/
def estopRecord (s : State) : LogRecord :=
  { tick := now s, kind := .halt, unit := unitStation, slot := noSlot, detail := causeDetail .estop
    data := be 1 (ownedCount s) }

/-- R196: ESTOP becomes latched, as one change. The rule leaves the order of its acts open; the model's choice is the
halts of SC0 to SC3 and PU, in this order, then the sweep, then the HALT record (DESIGN CHOICE, log 3). -/
def latchEstop (s : State) : State :=
  let s1 := s.onStation fun t => { t with estop := true }
  let s2 := haltSweep (haltPlacement .estop (haltAllStress .estop s1))
  writeReserve (estopRecord s2) s2

/-- R196: the E-STOP line is asserted. -/
def assertLine (s : State) : State :=
  let s1 := s.onStation fun t => { t with line := true }
  if s.station.estop then s1 else latchEstop s1

/-- R199: the release of the power-on reset line. The commands that wait are not the machine's to lose. -/
def powerOn (straps : Nat) (line : Bool) (s : State) : State :=
  let s1 : State := { State.power (straps % 64) line with pending := s.pending }
  if line then latchEstop s1 else s1

/-- POWER_ON_RESET (R199). -/
def execPowerOnReset (straps : Nat) (line : Bool) (s : State) : Result := .next (powerOn straps line s)

/-- ESTOP_ASSERTED (R196). -/
def execEstopAsserted (s : State) : Result := event assertLine s

/-- ESTOP_LINE_DEASSERTED (R196): the line state alone changes. -/
def execEstopLineDeasserted (s : State) : Result :=
  event (fun s => s.onStation fun t => { t with line := false }) s

/-! ### Ring events -/

/-- LOSS_OF_SIGNAL (R155, R162). -/
def execLossOfSignal (s : State) : Result := event loseSignal s

/-- R158: the reading of the ring clock that comes with a ring event (log 6). -/
def setClock (clock : Word32) (s : State) : State := s.onRing fun r => { r with clock := clock }

/-- FRAME_ARRIVAL (R153 to R159). -/
def execFrameArrival (clock : Word32) (frame : List Byte) (s : State) : Result :=
  event (fun s => arrive frame (setClock clock s)) s

/-- FORWARD_TRANSMIT (R152). -/
def execForwardTransmit (s : State) : Result := event forwardOldest s

/-- INSERTION_OPPORTUNITY (R152, R163, R170). -/
def execInsertionOpportunity (s : State) : Result := event insert s

/-- FRAME_TRANSMITTED (R158); with no own frame in transmission nothing happens (log 14). -/
def execFrameTransmitted (clock : Word32) (s : State) : Result :=
  event (fun s => if s.ring.transmitter.isSome then endTransmission (setClock clock s) else s) s

/-- ENTRY_EXPIRY (R160); a tag that is not in flight does not expire (log 14). -/
def execEntryExpiry (tag : Nat) (s : State) : Result := event (expire tag) s

/-! ### Time (R194) -/

/-- R194, R158: the counts of the tick advance: the tick counter, the ring clock (log 6) and the sub-minute
count. -/
def countTick (s : State) : State :=
  let tick := now s + 1
  (s.onRing fun r => { r with clock := BitVec.ofNat 32 (msPerTick * tick.toNat) }).onStation fun t =>
    { t with tick := tick, site := t.site.map fun p => (p.1, p.2 + 1) }

/-- R194: the tick advance is presented to every block that keeps a timer; the judgments that it makes due stay
open (log 2). The commands that the units choose at it (R68, R89, R118) join the queue in the order SC0 to SC3, PU
(log 3). -/
def advanceTick (s : State) : State :=
  let s1 := tickPlacement (channels4.foldl tickStress (countTick s))
  { s1 with tickOpen := true }

/-- TICK_ADVANCE (R194). -/
def execTickAdvance (s : State) : Result := event advanceTick s

/-! ### Ends of the converter's phases (R48, R49); an end outside its phase does not happen (log 14)

A sensing phase with a T of 0 that an end begins, at its own cell or by its search, ends in the same command. -/

/-- The cell in work in a phase of the converter. -/
def cellIn (p : GaugePhase) (s : State) : Option Nat := if s.gauge.phase = p then s.gauge.cell else none

/-- R48: the normal end of the reference phase. -/
def referenceEnds (t : Nat) (s : State) : State :=
  match cellIn .reference s with
  | some c => if t < tcLimit then endEmpty (endReference c t s) else s
  | none => s

/-- R48: the abnormal end of the reference phase. -/
def referenceLost (mc : Nat) (s : State) : State :=
  match cellIn .reference s with
  | some c => if mc < 65536 then endEmpty (loseReference c mc s) else s
  | none => s

/-- R49: the normal end of the sensing phase. -/
def sensingEnds (m : Nat) (s : State) : State :=
  match cellIn .sensing s with
  | some c => if m < 65536 then endEmpty (endSensing c m s) else s
  | none => s

/-- R49: the abnormal end of the sensing phase. -/
def sensingHigh (tc : Nat) (s : State) : State :=
  match cellIn .sensing s with
  | some c => if tc < tcLimit then endEmpty (endHigh c tc s) else s
  | none => s

/-- REFERENCE_END (R48). -/
def execReferenceEnd (t : Nat) (s : State) : Result := event (referenceEnds t) s

/-- REF_LOST (R48, R54). -/
def execRefLost (mc : Nat) (s : State) : Result := event (referenceLost mc) s

/-- SENSING_END (R49, R50, R53). -/
def execSensingEnd (m : Nat) (s : State) : Result := event (sensingEnds m) s

/-- SENSE_HIGH (R49, R54). -/
def execSenseHigh (tc : Nat) (s : State) : Result := event (sensingHigh tc) s

/-! ### Rows that fall due of the machine's own accord (log 2, log 14) -/

/-- SITE_MINUTE_ADVANCE (R194, R10). -/
def execSiteMinuteAdvance (s : State) : Result := .next (takeDue .siteMinute s)

/-- CHANNEL_STALE (R38). -/
def execChannelStale (m : Nat) (s : State) : Result := .next (takeDue (.stale m) s)

/-- SURVEY_REQUEST (R56). -/
def execSurveyRequest (c : Nat) (s : State) : Result := .next (takeDue (.survey c) s)

/-- MEASUREMENT_START (R47, R51). -/
def execMeasurementStart (s : State) : Result := .next (takeDue .measurement s)

/-- LOAD_TIMEOUT (R75, R100). -/
def execLoadTimeout (n : Nat) (s : State) : Result := .next (takeDue (.loadTimeout n) s)

/-- SETTLE_INTERVAL (R77, R78). -/
def execSettleInterval (n : Nat) (s : State) : Result := .next (takeDue (.settleInterval n) s)

/-- SETTLE_MAXIMUM (R78). -/
def execSettleMaximum (n : Nat) (s : State) : Result := .next (takeDue (.settleMaximum n) s)

/-- LOCK_WINDOW_RUN_OUT (R105). -/
def execLockWindowRunOut (n : Nat) (s : State) : Result := .next (takeDue (.lockRunOut n) s)

/-- STRESS_POINT_DUE (R80). -/
def execStressPointDue (n : Nat) (s : State) : Result := .next (takeDue (.stressPoint n) s)

/-- PLACEMENT_POINT_DUE (R133). -/
def execPlacementPointDue (s : State) : Result := .next (takeDue .placementPoint s)

/-- WINCH_TIMEOUT (R123). -/
def execWinchTimeout (s : State) : Result := .next (takeDue .winchTimeout s)

/-- SUSTAINED (R137). -/
def execSustained (x : Nat) (s : State) : Result := .next (takeDue (.sustained x) s)

/-- OVERLONG (R137). -/
def execOverlong (x : Nat) (s : State) : Result := .next (takeDue (.overlong x) s)

/-- HELD_RECORD_WRITE (R90). -/
def execHeldRecordWrite (n : Nat) (s : State) : Result := .next (takeDue (.heldRecord n) s)

end Sys2Proof.Machine
end

