-- ==== Sys2Proof/Machine/RequestRows.lean ====
section
/-! DEFINITION. The meanings of the rows that are requests of the station, each the request as taken with its
response (11, R190; log 1). -/

namespace Sys2Proof.Machine

open Sys2Proof Sys2Proof.Config

/-- R157, R190: a request of the station: what is due is carried out first (log 2); where the request can be taken,
its block acts and the response is queued; where it cannot, nothing else is done. -/
def request (tag code : Nat) (act : State → State × Reply) (s : State) : Result :=
  let s1 := settle s
  .next (if canTake s1 then respond tag code (act s1) else s1)

/-- R190: a code with a body that spell a request, LOAD_PART's among them. -/
def spellsRequest (code : Nat) (body : List Byte) : Bool :=
  if code = loadPartCode then (takePart body).isSome else (decodeRequest code body).isSome

/-- UNOWNED_REQUEST_CODE (R190): refused BAD_VALUE. A code and a body that do spell a request are that request's row
and not this one's (log 14). -/
def execUnownedRequestCode (tag : Nat) (code : Nat) (body : List Byte) (s : State) : Result :=
  if spellsRequest code body then .next (settle s) else request tag code (refuse .badValue) s

/-- LOAD_PART (R192): the header carries the target's code once the body is complete. -/
def execLoadPart (tag : Nat) (target : Nat) (part : Nat) (last : Bool) (bytes : List Byte) (s : State) : Result :=
  let s1 := settle s
  let r := actLoadPart target part last bytes s1
  .next (if canTake s1 then respond tag r.1 r.2 else s1)

/-- LOAD_ANCHOR (R3). -/
def execLoadAnchor (tag : Nat) (slot : Nat) (d : Design) (s : State) : Result :=
  request tag (requestCode (.loadAnchor slot d)) (actLoadAnchor slot d) s

/-- READ_ANCHOR (R4). -/
def execReadAnchor (tag : Nat) (slot : Nat) (s : State) : Result :=
  request tag (requestCode (.readAnchor slot)) (actReadAnchor slot) s

/-- WITHDRAW_ANCHOR (R5). -/
def execWithdrawAnchor (tag : Nat) (slot : Nat) (s : State) : Result :=
  request tag (requestCode (.withdrawAnchor slot)) (actWithdrawAnchor slot) s

/-- RETRY_ANCHOR (R15). -/
def execRetryAnchor (tag : Nat) (slot : Nat) (s : State) : Result :=
  request tag (requestCode (.retryAnchor slot)) (actRetryAnchor slot) s

/-- LOAD_CLASS (R17). -/
def execLoadClass (tag : Nat) (k : Nat) (c : ClassDef) (s : State) : Result :=
  request tag (requestCode (.loadClass k c)) (actLoadClass k c) s

/-- READ_CLASS (R19). -/
def execReadClass (tag : Nat) (k : Nat) (s : State) : Result :=
  request tag (requestCode (.readClass k)) (actReadClass k) s

/-- ENQUEUE_STRESS (R20). -/
def execEnqueueStress (tag : Nat) (slot : Nat) (p : Place) (s : State) : Result :=
  request tag (requestCode (.enqueueStress slot p)) (actEnqueueStress slot p) s

/-- DEQUEUE_STRESS (R21). -/
def execDequeueStress (tag : Nat) (slot : Nat) (s : State) : Result :=
  request tag (requestCode (.dequeueStress slot)) (actDequeueStress slot) s

/-- READ_ORDER (R22). -/
def execReadOrder (tag : Nat) (s : State) : Result :=
  request tag (requestCode .readOrder) actReadOrder s

/-- SET_EXCLUSION (R23). -/
def execSetExclusion (tag : Nat) (d : Nat) (s : State) : Result :=
  request tag (requestCode (.setExclusion d)) (actSetExclusion d) s

/-- CONFIG_CHANNEL (R27). -/
def execConfigChannel (tag : Nat) (m : Nat) (c : ChanConfig) (s : State) : Result :=
  request tag (requestCode (.configChannel m c)) (actConfigChannel m c) s

/-- READ_CHANNEL (R29). -/
def execReadChannel (tag : Nat) (m : Nat) (s : State) : Result :=
  request tag (requestCode (.readChannel m)) (actReadChannel m) s

/-- LOAD_TABLE (R41). -/
def execLoadTable (tag : Nat) (t : Nat) (bps : List (Nat × Int)) (s : State) : Result :=
  request tag (requestCode (.loadTable t bps)) (actLoadTable t bps) s

/-- READ_TABLE (R43). -/
def execReadTable (tag : Nat) (t : Nat) (s : State) : Result :=
  request tag (requestCode (.readTable t)) (actReadTable t) s

/-- CONFIG_CELL (R45). -/
def execConfigCell (tag : Nat) (c : Nat) (cfg : Option CellConfig) (s : State) : Result :=
  request tag (requestCode (.configCell c cfg)) (actConfigCell c cfg) s

/-- MEASURE_CELL (R57). -/
def execMeasureCell (tag : Nat) (c : Nat) (r : ReferenceChoice) (s : State) : Result :=
  request tag (requestCode (.measureCell c r)) (actMeasureCell c r) s

/-- READ_CELL (R58). -/
def execReadCell (tag : Nat) (c : Nat) (s : State) : Result :=
  request tag (requestCode (.readCell c)) (actReadCell c) s

/-- BIND_CHANNEL (R62). -/
def execBindChannel (tag : Nat) (n : Nat) (b : Binding) (auto : Bool) (s : State) : Result :=
  request tag (requestCode (.bindChannel n b auto)) (actBindChannel n b auto) s

/-- UNBIND_CHANNEL (R63). -/
def execUnbindChannel (tag : Nat) (n : Nat) (s : State) : Result :=
  request tag (requestCode (.unbindChannel n)) (actUnbindChannel n) s

/-- SET_AUTO_TAKE (R64). -/
def execSetAutoTake (tag : Nat) (n : Nat) (auto : Bool) (s : State) : Result :=
  request tag (requestCode (.setAutoTake n auto)) (actSetAutoTake n auto) s

/-- READ_STRESS (R65). -/
def execReadStress (tag : Nat) (n : Nat) (s : State) : Result :=
  request tag (requestCode (.readStress n)) (actReadStress n) s

/-- START_STRESS (R67). -/
def execStartStress (tag : Nat) (n : Nat) (slot : Nat) (s : State) : Result :=
  request tag (requestCode (.startStress n slot)) (actStartStress n slot) s

/-- HALT_CHANNEL (R86). -/
def execHaltChannel (tag : Nat) (n : Nat) (s : State) : Result :=
  request tag (requestCode (.haltChannel n)) (actHaltChannel n) s

/-- CONFIG_PLACEMENT (R115). -/
def execConfigPlacement (tag : Nat) (cfg : Option PlacementConfig) (s : State) : Result :=
  request tag (requestCode (.configPlacement cfg)) (actConfigPlacement cfg) s

/-- READ_PLACEMENT (R116). -/
def execReadPlacement (tag : Nat) (s : State) : Result :=
  request tag (requestCode .readPlacement) actReadPlacement s

/-- START_PLACE (R120). -/
def execStartPlace (tag : Nat) (slot : Nat) (s : State) : Result :=
  request tag (requestCode (.startPlace slot)) (actStartPlace slot) s

/-- CONFIG_CLASSIFIER (R135). -/
def execConfigClassifier (tag : Nat) (x : Nat) (cfg : Option ClassifierConfig) (s : State) : Result :=
  request tag (requestCode (.configClassifier x cfg)) (actConfigClassifier x cfg) s

/-- READ_CLASSIFIER (R135). -/
def execReadClassifier (tag : Nat) (x : Nat) (s : State) : Result :=
  request tag (requestCode (.readClassifier x)) (actReadClassifier x) s

/-- LOAD_TRIP (R142). -/
def execLoadTrip (tag : Nat) (q : Nat) (cfg : TripConfig) (s : State) : Result :=
  request tag (requestCode (.loadTrip q cfg)) (actLoadTrip q cfg) s

/-- CLEAR_TRIP (R149). -/
def execClearTrip (tag : Nat) (mask : Nat) (s : State) : Result :=
  request tag (requestCode (.clearTrip mask)) (actClearTrip mask) s

/-- READ_TRIP (R150). -/
def execReadTrip (tag : Nat) (s : State) : Result :=
  request tag (requestCode .readTrip) actReadTrip s

/-- FREEZE (R147). -/
def execFreeze (tag : Nat) (s : State) : Result :=
  request tag (requestCode .freeze) actFreeze s

/-- THAW (R148). -/
def execThaw (tag : Nat) (s : State) : Result :=
  request tag (requestCode .thaw) actThaw s

/-- CONFIG_RING (R166). -/
def execConfigRing (tag : Nat) (timeout : Nat) (s : State) : Result :=
  request tag (requestCode (.configRing timeout)) (actConfigRing timeout) s

/-- READ_RING (R166). -/
def execReadRing (tag : Nat) (s : State) : Result :=
  request tag (requestCode .readRing) actReadRing s

/-- READ_PENDING (R181). -/
def execReadPending (tag : Nat) (node : Nat) (s : State) : Result :=
  request tag (requestCode (.readPending node)) (actReadPending node) s

/-- LOAD_POLL (R168). -/
def execLoadPoll (tag : Nat) (e : Nat) (cfg : Option PollConfig) (s : State) : Result :=
  request tag (requestCode (.loadPoll e cfg)) (actLoadPoll e cfg) s

/-- READ_POLLS (R168). -/
def execReadPolls (tag : Nat) (s : State) : Result :=
  request tag (requestCode .readPolls) actReadPolls s

/-- CONFIG_SCHEDULE (R173). -/
def execConfigSchedule (tag : Nat) (p : ScheduleParams) (s : State) : Result :=
  request tag (requestCode (.configSchedule p)) (actConfigSchedule p) s

/-- READ_SCHEDULE (R173). -/
def execReadSchedule (tag : Nat) (s : State) : Result :=
  request tag (requestCode .readSchedule) actReadSchedule s

/-- READ_LOG (R187). -/
def execReadLog (tag : Nat) (start : Word32) (count : Nat) (s : State) : Result :=
  request tag (requestCode (.readLog start count)) (actReadLog start count) s

/-- TRIM_LOG (R188). -/
def execTrimLog (tag : Nat) (seq : Word32) (s : State) : Result :=
  request tag (requestCode (.trimLog seq)) (actTrimLog seq) s

/-- SET_WATERMARK (R186). -/
def execSetWatermark (tag : Nat) (w : Nat) (s : State) : Result :=
  request tag (requestCode (.setWatermark w)) (actSetWatermark w) s

/-- CLEAR_OVERRUN (R189). -/
def execClearOverrun (tag : Nat) (s : State) : Result :=
  request tag (requestCode .clearOverrun) actClearOverrun s

/-- READ_LOG_STATE (R189). -/
def execReadLogState (tag : Nat) (s : State) : Result :=
  request tag (requestCode .readLogState) actReadLogState s

/-- READ_STATUS (R193). -/
def execReadStatus (tag : Nat) (s : State) : Result :=
  request tag (requestCode .readStatus) actReadStatus s

/-- SET_TIME (R195). -/
def execSetTime (tag : Nat) (minute : Word32) (s : State) : Result :=
  request tag (requestCode (.setTime minute)) (actSetTime minute) s

/-- RESTART (R198). -/
def execRestart (tag : Nat) (s : State) : Result :=
  request tag (requestCode .restart) actRestart s

/-- READ_PART (R192). -/
def execReadPart (tag : Nat) (part : Nat) (s : State) : Result :=
  request tag (requestCode (.readPart part)) (actReadPart part) s

/-- CLEAR_ESTOP (R197). -/
def execClearEstop (tag : Nat) (s : State) : Result :=
  request tag (requestCode .clearEstop) actClearEstop s

end Sys2Proof.Machine
end

