-- ==== Sys2Proof/Machine/Dispatch.lean ====
section
/-! DEFINITION. The dispatch of the commands, one arm for each row of the table. -/

namespace Sys2Proof.Machine

open Sys2Proof

/-- One command: its effect on everything but the queue. -/
def exec (i : Instr) (s : State) : Host.Outcome State Fault Refusal :=
  match i with
  | .powerOnReset straps line => Sys2Proof.Machine.execPowerOnReset straps line s
  | .estopAsserted => Sys2Proof.Machine.execEstopAsserted s
  | .estopLineDeasserted => Sys2Proof.Machine.execEstopLineDeasserted s
  | .lossOfSignal => Sys2Proof.Machine.execLossOfSignal s
  | .frameArrival clock frame => Sys2Proof.Machine.execFrameArrival clock frame s
  | .forwardTransmit => Sys2Proof.Machine.execForwardTransmit s
  | .insertionOpportunity => Sys2Proof.Machine.execInsertionOpportunity s
  | .frameTransmitted clock => Sys2Proof.Machine.execFrameTransmitted clock s
  | .entryExpiry tag => Sys2Proof.Machine.execEntryExpiry tag s
  | .tickAdvance => Sys2Proof.Machine.execTickAdvance s
  | .siteMinuteAdvance => Sys2Proof.Machine.execSiteMinuteAdvance s
  | .channelStale m => Sys2Proof.Machine.execChannelStale m s
  | .surveyRequest c => Sys2Proof.Machine.execSurveyRequest c s
  | .measurementStart => Sys2Proof.Machine.execMeasurementStart s
  | .referenceEnd t => Sys2Proof.Machine.execReferenceEnd t s
  | .refLost mc => Sys2Proof.Machine.execRefLost mc s
  | .sensingEnd m => Sys2Proof.Machine.execSensingEnd m s
  | .senseHigh tc => Sys2Proof.Machine.execSenseHigh tc s
  | .loadTimeout n => Sys2Proof.Machine.execLoadTimeout n s
  | .settleInterval n => Sys2Proof.Machine.execSettleInterval n s
  | .settleMaximum n => Sys2Proof.Machine.execSettleMaximum n s
  | .lockWindowRunOut n => Sys2Proof.Machine.execLockWindowRunOut n s
  | .stressPointDue n => Sys2Proof.Machine.execStressPointDue n s
  | .placementPointDue => Sys2Proof.Machine.execPlacementPointDue s
  | .winchTimeout => Sys2Proof.Machine.execWinchTimeout s
  | .sustained x => Sys2Proof.Machine.execSustained x s
  | .overlong x => Sys2Proof.Machine.execOverlong x s
  | .heldRecordWrite n => Sys2Proof.Machine.execHeldRecordWrite n s
  | .unownedRequestCode tag code body => Sys2Proof.Machine.execUnownedRequestCode tag code body s
  | .loadAnchor tag slot d => Sys2Proof.Machine.execLoadAnchor tag slot d s
  | .readAnchor tag slot => Sys2Proof.Machine.execReadAnchor tag slot s
  | .withdrawAnchor tag slot => Sys2Proof.Machine.execWithdrawAnchor tag slot s
  | .retryAnchor tag slot => Sys2Proof.Machine.execRetryAnchor tag slot s
  | .loadClass tag k c => Sys2Proof.Machine.execLoadClass tag k c s
  | .readClass tag k => Sys2Proof.Machine.execReadClass tag k s
  | .enqueueStress tag slot p => Sys2Proof.Machine.execEnqueueStress tag slot p s
  | .dequeueStress tag slot => Sys2Proof.Machine.execDequeueStress tag slot s
  | .readOrder tag => Sys2Proof.Machine.execReadOrder tag s
  | .setExclusion tag d => Sys2Proof.Machine.execSetExclusion tag d s
  | .configChannel tag m c => Sys2Proof.Machine.execConfigChannel tag m c s
  | .readChannel tag m => Sys2Proof.Machine.execReadChannel tag m s
  | .loadTable tag t bps => Sys2Proof.Machine.execLoadTable tag t bps s
  | .readTable tag t => Sys2Proof.Machine.execReadTable tag t s
  | .configCell tag c cfg => Sys2Proof.Machine.execConfigCell tag c cfg s
  | .measureCell tag c r => Sys2Proof.Machine.execMeasureCell tag c r s
  | .readCell tag c => Sys2Proof.Machine.execReadCell tag c s
  | .bindChannel tag n b auto => Sys2Proof.Machine.execBindChannel tag n b auto s
  | .unbindChannel tag n => Sys2Proof.Machine.execUnbindChannel tag n s
  | .setAutoTake tag n auto => Sys2Proof.Machine.execSetAutoTake tag n auto s
  | .readStress tag n => Sys2Proof.Machine.execReadStress tag n s
  | .startStress tag n slot => Sys2Proof.Machine.execStartStress tag n slot s
  | .haltChannel tag n => Sys2Proof.Machine.execHaltChannel tag n s
  | .configPlacement tag cfg => Sys2Proof.Machine.execConfigPlacement tag cfg s
  | .readPlacement tag => Sys2Proof.Machine.execReadPlacement tag s
  | .startPlace tag slot => Sys2Proof.Machine.execStartPlace tag slot s
  | .configClassifier tag x cfg => Sys2Proof.Machine.execConfigClassifier tag x cfg s
  | .readClassifier tag x => Sys2Proof.Machine.execReadClassifier tag x s
  | .loadTrip tag q cfg => Sys2Proof.Machine.execLoadTrip tag q cfg s
  | .clearTrip tag mask => Sys2Proof.Machine.execClearTrip tag mask s
  | .readTrip tag => Sys2Proof.Machine.execReadTrip tag s
  | .freeze tag => Sys2Proof.Machine.execFreeze tag s
  | .thaw tag => Sys2Proof.Machine.execThaw tag s
  | .configRing tag timeout => Sys2Proof.Machine.execConfigRing tag timeout s
  | .readRing tag => Sys2Proof.Machine.execReadRing tag s
  | .readPending tag node => Sys2Proof.Machine.execReadPending tag node s
  | .loadPoll tag e cfg => Sys2Proof.Machine.execLoadPoll tag e cfg s
  | .readPolls tag => Sys2Proof.Machine.execReadPolls tag s
  | .configSchedule tag p => Sys2Proof.Machine.execConfigSchedule tag p s
  | .readSchedule tag => Sys2Proof.Machine.execReadSchedule tag s
  | .readLog tag start count => Sys2Proof.Machine.execReadLog tag start count s
  | .trimLog tag seq => Sys2Proof.Machine.execTrimLog tag seq s
  | .setWatermark tag w => Sys2Proof.Machine.execSetWatermark tag w s
  | .clearOverrun tag => Sys2Proof.Machine.execClearOverrun tag s
  | .readLogState tag => Sys2Proof.Machine.execReadLogState tag s
  | .readStatus tag => Sys2Proof.Machine.execReadStatus tag s
  | .setTime tag minute => Sys2Proof.Machine.execSetTime tag minute s
  | .restart tag => Sys2Proof.Machine.execRestart tag s
  | .loadPart tag target part last bytes => Sys2Proof.Machine.execLoadPart tag target part last bytes s
  | .readPart tag part => Sys2Proof.Machine.execReadPart tag part s
  | .clearEstop tag => Sys2Proof.Machine.execClearEstop tag s

end Sys2Proof.Machine
end

