-- ==== Sys2Proof/Safety.lean ====
section
/-! DEFINITION. What holds of the 416 in every state that a run reaches, the conditions under which a command is
taken, and the state that a request leaves apart from its own effect, in the terms that the statements use. -/

namespace Sys2Proof.Machine

open Sys2Proof Sys2Proof.Config

/-! ### Taking a command -/

/-- A request of the station is taken at once: nothing waits to be carried out before it (log 2), and R157 lets it
be taken. -/
abbrev takesNow (s : State) : Prop := quiet s = true ∧ canTake s = true

/-- R157, R171, R190, R192: the state with a response at the back of the response queue. -/
def answered (tag code : Nat) (reason : Option Reason) (body : List Byte) (s : State) : State :=
  { s with
    ring := { s.ring with
      responses := s.ring.responses ++ [{ tag := tag, code := code, reason := reason, body := body.take 120 }] }
    sched := if s.ring.responses = [] then { s.sched with passedOver := 0 } else s.sched
    station :=
      if 120 < body.length then { s.station with longResponse := body.take 1024 } else s.station }

/-- R190: the state with the response of a refusal; a refusal changes nothing else. -/
def refused (tag code : Nat) (reason : Reason) (s : State) : State := answered tag code (some reason) [] s

/-- The row of the table that a request of the station is, with the tag of its frame (log 1). -/
def rowOf (tag : Nat) : Request → Instr
  | .loadAnchor slot d => .loadAnchor tag slot d
  | .readAnchor slot => .readAnchor tag slot
  | .withdrawAnchor slot => .withdrawAnchor tag slot
  | .retryAnchor slot => .retryAnchor tag slot
  | .loadClass k c => .loadClass tag k c
  | .readClass k => .readClass tag k
  | .enqueueStress slot p => .enqueueStress tag slot p
  | .dequeueStress slot => .dequeueStress tag slot
  | .readOrder => .readOrder tag
  | .setExclusion d => .setExclusion tag d
  | .configChannel m c => .configChannel tag m c
  | .readChannel m => .readChannel tag m
  | .loadTable t bps => .loadTable tag t bps
  | .readTable t => .readTable tag t
  | .configCell c cfg => .configCell tag c cfg
  | .measureCell c r => .measureCell tag c r
  | .readCell c => .readCell tag c
  | .bindChannel n b auto => .bindChannel tag n b auto
  | .unbindChannel n => .unbindChannel tag n
  | .setAutoTake n auto => .setAutoTake tag n auto
  | .readStress n => .readStress tag n
  | .startStress n slot => .startStress tag n slot
  | .haltChannel n => .haltChannel tag n
  | .configPlacement cfg => .configPlacement tag cfg
  | .readPlacement => .readPlacement tag
  | .startPlace slot => .startPlace tag slot
  | .configClassifier x cfg => .configClassifier tag x cfg
  | .readClassifier x => .readClassifier tag x
  | .loadTrip q cfg => .loadTrip tag q cfg
  | .clearTrip mask => .clearTrip tag mask
  | .readTrip => .readTrip tag
  | .freeze => .freeze tag
  | .thaw => .thaw tag
  | .configRing timeout => .configRing tag timeout
  | .readRing => .readRing tag
  | .readPending node => .readPending tag node
  | .loadPoll e cfg => .loadPoll tag e cfg
  | .readPolls => .readPolls tag
  | .configSchedule p => .configSchedule tag p
  | .readSchedule => .readSchedule tag
  | .readLog start count => .readLog tag start count
  | .trimLog seq => .trimLog tag seq
  | .setWatermark w => .setWatermark tag w
  | .clearOverrun => .clearOverrun tag
  | .readLogState => .readLogState tag
  | .readStatus => .readStatus tag
  | .setTime minute => .setTime tag minute
  | .restart => .restart tag
  | .readPart part => .readPart tag part
  | .clearEstop => .clearEstop tag

/-- R24: the state after a hand-out pass. -/
def afterPass (s : State) : State := { handOut s with passDue := false }

/-! ### Frames -/

/-- The converter's own items, the requesters in service and the cells apart, are the same: its state, its cell, the
pointer, whether the reference was reused, the T in use and the two counts. -/
def sameConverter (g h : Gauge) : Prop := { h with inService := g.inService, cells := g.cells } = g

/-- What the acts of the stressing channels leave as it was, with the halts, records, commands and cell requests that
they make, and with hand-out passes. They touch the anchors' phases and results, the order list (from which an
admission takes its entry), the cells' requests, the channels' states and working data, the queue, the priority list,
the log and the placement unit's recorded commands. The converter stands as it stood, unless it was IDLE and a
request has started a measurement (R47). -/
structure TestFrame (s t : State) : Prop where
  classes : t.anchorTable.classes = s.anchorTable.classes
  order : t.anchorTable.order.Sublist s.anchorTable.order
  exclusion : t.anchorTable.exclusion = s.anchorTable.exclusion
  design : ∀ i, (anchorAt t i).design = (anchorAt s i).design
  measure : t.measure = s.measure
  converter : ¬(s.gauge.phase = .idle ∧ t.gauge.phase ≠ .idle) → sameConverter s.gauge t.gauge
  config : ∀ c, (cellAt t c).config = (cellAt s c).config
  storedT : ∀ c, (cellAt t c).storedT = (cellAt s c).storedT
  nextSurvey : ∀ c, (cellAt t c).nextSurvey = (cellAt s c).nextSurvey
  last : ∀ c, (cellAt t c).last = (cellAt s c).last
  binding : ∀ n, (stressAt t n).binding = (stressAt s n).binding
  autoTake : ∀ n, (stressAt t n).autoTake = (stressAt s n).autoTake
  unitMode : t.placement.mode = s.placement.mode
  unitConfig : t.placement.config = s.placement.config
  unitRun : t.placement.run = s.placement.run
  classifiers : t.classifiers = s.classifiers
  trip : t.trip = s.trip
  ring : t.ring = s.ring
  mode : t.sched.mode = s.sched.mode
  toIssuing : t.sched.toIssuing = s.sched.toIssuing
  toSampling : t.sched.toSampling = s.sched.toSampling
  params : t.sched.params = s.sched.params
  polls : t.sched.polls = s.sched.polls
  lastSent : t.sched.lastSent = s.sched.lastSent
  failures : t.sched.failures = s.sched.failures
  passedOver : t.sched.passedOver = s.sched.passedOver
  station : t.station = s.station
  tickOpen : t.tickOpen = s.tickOpen
  pending : t.pending = s.pending

/-- What the readers of a channel leave as it was when a sample, a change to STALE or a classifier's event reaches
them, and hand-out passes with them: everything that a request alone configures, the stored times and last results of
the cells, the ring interface, the poll list, the failure counts and the station-request block; and the converter,
unless it was IDLE and a request of a test has started a measurement (R47). A grouting run that follows a
winching run zeroes the total of a COUNTER channel (R36). -/
structure ReaderFrame (s t : State) : Prop where
  classes : t.anchorTable.classes = s.anchorTable.classes
  order : t.anchorTable.order.Sublist s.anchorTable.order
  exclusion : t.anchorTable.exclusion = s.anchorTable.exclusion
  design : ∀ i, (anchorAt t i).design = (anchorAt s i).design
  tables : t.measure.tables = s.measure.tables
  kind : ∀ m, (channelAt t m).config = (channelAt s m).config
  lastRaw : ∀ m, (channelAt t m).lastRaw = (channelAt s m).lastRaw
  saturated : ∀ m, (channelAt t m).saturated = (channelAt s m).saturated
  stamp : ∀ m, (channelAt t m).stamp = (channelAt s m).stamp
  fresh : ∀ m, (channelAt t m).fresh = (channelAt s m).fresh
  converter : ¬(s.gauge.phase = .idle ∧ t.gauge.phase ≠ .idle) → sameConverter s.gauge t.gauge
  config : ∀ c, (cellAt t c).config = (cellAt s c).config
  storedT : ∀ c, (cellAt t c).storedT = (cellAt s c).storedT
  nextSurvey : ∀ c, (cellAt t c).nextSurvey = (cellAt s c).nextSurvey
  last : ∀ c, (cellAt t c).last = (cellAt s c).last
  binding : ∀ n, (stressAt t n).binding = (stressAt s n).binding
  autoTake : ∀ n, (stressAt t n).autoTake = (stressAt s n).autoTake
  unitConfig : t.placement.config = s.placement.config
  watch : ∀ x, (classifierAt t x).config = (classifierAt s x).config
  enabled : ∀ q, (counterAt t q).enabled = (counterAt s q).enabled
  source : ∀ q, (counterAt t q).source = (counterAt s q).source
  freezeEnable : ∀ q, (counterAt t q).freezeEnable = (counterAt s q).freezeEnable
  stationFreeze : t.trip.stationFreeze = s.trip.stationFreeze
  ring : t.ring = s.ring
  mode : t.sched.mode = s.sched.mode
  toIssuing : t.sched.toIssuing = s.sched.toIssuing
  toSampling : t.sched.toSampling = s.sched.toSampling
  params : t.sched.params = s.sched.params
  polls : t.sched.polls = s.sched.polls
  lastSent : t.sched.lastSent = s.sched.lastSent
  failures : t.sched.failures = s.sched.failures
  passedOver : t.sched.passedOver = s.sched.passedOver
  station : t.station = s.station
  tickOpen : t.tickOpen = s.tickOpen
  pending : t.pending = s.pending

/-! ### Invariants -/

/-- R146: while a freeze-enabled counter has its overflow mark set, or the station-freeze mark is set, the part is
frozen. -/
def freezeLaw (s : State) : Prop := s.trip.stationFreeze = true ∨ tripsHold s = true → s.trip.frozen = true

/-- R182, R184, R186, R188: the store holds at most 2048 entries with consecutive sequence numbers, oldest first, it
begins with a head, and the attention mark stands as the watermark says. -/
def logInOrder (l : TestLog) : Prop :=
  l.entries.length ≤ 2048
    ∧ l.next = l.oldest + BitVec.ofNat 32 l.entries.length
    ∧ (∀ i : Nat, i < l.entries.length → (l.entries[i]?.map (·.seq)) = some (l.oldest + BitVec.ofNat 32 i))
    ∧ (∀ e, l.entries.head? = some e → e.kind ≠ 15)
    ∧ l.attention = decide (l.watermark ≤ l.entries.length)

/-- The own frames that port B is sending and that will be entered in the in-flight table (R158). -/
def sending (r : Ring) : List Nat :=
  match r.transmitter with
  | some t => if t.discarded then [] else [t.tag]
  | none => []

/-- R158: the tags of the own frames on the ring. -/
def ownTags (r : Ring) : List Nat := r.inFlight.map (·.tag) ++ sending r

/-- R157, R158, R163: at most 4 responses wait, at most 4 own frames are on the ring, no two with one tag, and out of
UP at most one, none while a probe is due. -/
def ringInBounds (r : Ring) : Prop :=
  r.responses.length ≤ 4 ∧ (ownTags r).length ≤ 4 ∧ (ownTags r).Nodup
    ∧ (r.state ≠ .up → (ownTags r).length + (if r.probeDue then 1 else 0) ≤ 1)

/-- R174: the command queue holds at most 16 entries, no two of one node and class, and the priority list no two
entries for one node. -/
def commandsDistinct (d : Sched) : Prop :=
  d.queue.length ≤ 16 ∧ (d.queue.map fun e => (e.node, commandClass e.command)).Nodup
    ∧ (d.priority.map (·.node)).Nodup

/-- R18: the windows of a LOCKOFF step lie in 1 … 64. -/
def windowsInRange : ProcStep → Bool
  | .lockoff p => within 1 64 p.seatWindow && within 1 64 p.releaseWindow
  | _ => true

/-- R18, R102: the lock windows of a loaded class lie in 1 … 64, and no remainder exceeds 64; a remainder above zero is
that of a LOCKING channel, and a LOCKING channel has one, but for the judgments of a tick advance that has just lowered
it to zero (log 2). -/
def lockBounded (s : State) : Prop :=
  (∀ k : Nat, k < 8 → (classAt s k).procedure.all windowsInRange = true)
    ∧ (∀ n : Nat, n < 4 →
        (workOf s n).window ≤ 64 ∧ (0 < (workOf s n).window → (stressAt s n).mode = .locking)
          ∧ ((stressAt s n).mode = .locking → 0 < (workOf s n).window ∨ s.tickOpen = true))

/-- R165, R62, R115: a node that a stressing channel owns is the jack node of its binding, and one that the placement
unit owns is one of the two nodes of its configuration, so that at most six nodes are owned. -/
def ownersBound (s : State) : Prop :=
  (∀ a n : Nat, ownerOf s a = some (.sc n) → n < 4 ∧ ∃ b, (stressAt s n).binding = some b ∧ b.jack = a)
    ∧ (∀ a : Nat, ownerOf s a = some .pu →
        ∃ c, s.placement.config = some c ∧ (c.winchNode = a ∨ c.pumpNode = a))

/-- R174, R176: the commands are distinct, the priority list has at most 8 entries, and its room is always found. -/
def priorityInBounds (s : State) : Prop :=
  commandsDistinct s.sched ∧ ownersBound s ∧ s.sched.priority.length ≤ 8

/-- R6: the anchor of a slot is the one that stressing channel `n` is bound to. -/
def boundTo (s : State) (n slot : Nat) : Prop := holdsAnchor s n = true ∧ (workOf s n).slot = some slot

/-- R6: the anchor of a slot is the placement unit's current anchor, in the phase of the run. -/
def placing (s : State) (p : RunPhase) (slot : Nat) : Prop :=
  placementBusy s = true ∧ runPhase s = p ∧ (s.placement.run.map (·.slot)) = some slot

/-- R6: an anchor is in WINCHING or GROUTING exactly when it is the placement unit's current anchor, in STRESSING
exactly when a stressing channel is bound to it, and no two units hold one anchor; a unit that holds an anchor holds
one of the 96. -/
def anchorsHeldOnce (s : State) : Prop :=
  (∀ slot : Nat, slot < 96 →
      ((anchorAt s slot).phase = .stressing ↔ ∃ n, n < 4 ∧ boundTo s n slot)
        ∧ ((anchorAt s slot).phase = .winching ↔ placing s .winching slot)
        ∧ ((anchorAt s slot).phase = .grouting ↔ placing s .grouting slot))
    ∧ (∀ n m slot : Nat, n < 4 → m < 4 → boundTo s n slot → boundTo s m slot → n = m)
    ∧ (∀ n : Nat, n < 4 → holdsAnchor s n = true → ∃ slot, slot < 96 ∧ boundTo s n slot)
    ∧ (placementBusy s = true → ∃ slot, slot < 96 ∧ (s.placement.run.map (·.slot)) = some slot)

end Sys2Proof.Machine
end

