-- ==== Sys2Proof/WellFormed.lean ====
section
/-! DEFINITION. Well-formed commands: every item of a request fits the bytes that its body gives it (08, section
8.8), and every other command names an object that exists or a count that its counter can hold. Whether an item
lies in the range of its rule is for the block that owns the request to judge. -/

namespace Sys2Proof

open Sys2Proof.Machine

/-- The value fits `w` bytes. -/
def fits (w v : Nat) : Bool := decide (v < 256 ^ w)

/-- The value fits `w` bytes in two's complement. -/
def fitsInt (w : Nat) (v : Int) : Bool := decide (-(256 ^ w / 2 : Nat) ≤ v) && decide (v < (256 ^ w / 2 : Nat))

/-- An item that may be absent fits when it is present. -/
def fitsOption {α : Type} (f : α → Bool) : Option α → Bool
  | none => true
  | some a => f a

/-- R2, R3: the design fields of LOAD_ANCHOR. -/
def designFits (d : Design) : Bool :=
  fits 2 d.anchorId && fits 1 d.row && fits 1 d.position && fits 1 d.klass && fits 1 d.strands
    && fits 2 d.freeLength && fits 2 d.bondLength && fits 2 d.workingLoad && fits 3 d.hardLimit
    && fits 2 d.insertionTarget && fits 3 d.groutTarget && fits 3 d.groutMax && fits 2 d.cureMinutes

/-- R18: the parameters of LOAD_TO and UNLOAD_TO. -/
def moveFits (p : MoveParams) : Bool :=
  fits 2 p.target && fits 1 p.speed && fits 3 p.approach && fits 3 p.tolerance && fits 2 p.timeout

/-- R18: an extension. -/
def extensionFits (e : CreepExtension) : Bool := fits 2 e.t2b && fits 2 e.logratio

/-- R18: the parameters of a step. -/
def stepFits : ProcStep → Bool
  | .loadTo p => moveFits p
  | .unloadTo p => moveFits p
  | .holdSettle p =>
    fits 2 p.minimum && fits 2 p.maximum && fits 2 p.band && fits 2 p.interval && fits 1 p.limit
      && fits 3 p.loadTolerance
  | .holdCreep p =>
    fits 2 p.t1 && fits 2 p.t2 && fits 2 p.logratio && fitsOption extensionFits p.extension
      && fitsInt 4 p.limit && fits 3 p.loadTolerance
  | .apparent => true
  | .cellCheck => true
  | .lockoff p => fits 2 p.factor && fits 1 p.seatWindow && fits 1 p.releaseWindow && fits 3 p.releaseLevel
  | .finish => true

/-- R17: the constants and the procedure of LOAD_CLASS. -/
def classFits (c : ClassDef) : Bool :=
  fits 2 c.area && fits 2 c.modulus && fits 2 c.lowerFactor && fits 2 c.bondFactor && fits 3 c.minSpan
    && fits 2 c.tolLow && fits 2 c.tolHigh && fits 3 c.crossAbsolute && fits 2 c.crossRelative
    && fits 2 c.pointInterval && fitsOption (fits 1) c.rejectExit && fits 1 c.procedure.length
    && c.procedure.all stepFits

/-- R27: the parameters of CONFIG_CHANNEL. -/
def chanFits : ChanConfig → Bool
  | .none => true
  | .calibrated t l => fits 1 t && fits 2 l
  | .scaled m d o l => fitsInt 2 m && fits 2 d && fitsInt 3 o && fits 2 l
  | .counter m d l => fits 2 m && fits 2 d && fits 2 l
  | .gauge t l => fits 1 t && fits 2 l

/-- R41: a breakpoint of LOAD_TABLE. -/
def breakpointFits (p : Nat × Int) : Bool := fits 4 p.1 && fitsInt 3 p.2

/-- R45: the items of CONFIG_CELL. -/
def cellFits (c : CellConfig) : Bool :=
  fits 2 c.nRef && fits 2 c.mMin && fits 2 c.reuseAge && fits 2 c.surveyPeriod && fits 1 c.output

/-- R62: the items of BIND_CHANNEL. -/
def bindingFits (b : Binding) : Bool :=
  fits 1 b.jack && fits 1 b.force && fits 1 b.extension && fits 1 b.seat && fits 1 b.cell && fits 4 b.stroke

/-- R115: the items of CONFIG_PLACEMENT. -/
def placementFits (c : PlacementConfig) : Bool :=
  fits 1 c.winchNode && fits 1 c.pumpNode && fits 1 c.payout && fits 1 c.flow && fits 1 c.tension
    && fits 1 c.pressure && fits 1 c.ret && fitsOption (fits 1) c.tensionX && fitsOption (fits 1) c.pressureX
    && fits 1 c.winchSpeed && fits 1 c.pumpSpeed && fits 2 c.winchTimeout

/-- R135: the items of CONFIG_CLASSIFIER. -/
def classifierFits (c : ClassifierConfig) : Bool :=
  fits 1 c.watched && fitsInt 4 c.level && fits 3 c.hysteresis && fits 2 c.tSpike && fits 2 c.tHold
    && fits 2 c.tLong

/-- R142: the source of LOAD_TRIP. -/
def sourceFits : TripSource → Bool
  | .channel m t _ _ => fits 1 m && fitsInt 4 t
  | .events x k => fits 1 x && fits 1 k
  | .ringError => true
  | .gaugeFault => true

/-- R168: the items of LOAD_POLL. -/
def pollFits (c : PollConfig) : Bool :=
  fits 1 c.node && fits 1 c.kind && fits 2 c.period && fits 1 c.slots.length
    && c.slots.all (fitsOption (fits 1))

/-- R173: the items of CONFIG_SCHEDULE. -/
def scheduleFits (p : ScheduleParams) : Bool :=
  fits 1 p.high && fits 1 p.low && fits 1 p.commandStarve && fits 1 p.pollStarve

/-- Every item of a request fits the bytes that the request's body gives it. -/
def requestFits : Request → Bool
  | .loadAnchor slot d => fits 1 slot && designFits d
  | .readAnchor slot => fits 1 slot
  | .withdrawAnchor slot => fits 1 slot
  | .retryAnchor slot => fits 1 slot
  | .loadClass k c => fits 1 k && classFits c
  | .readClass k => fits 1 k
  | .enqueueStress slot _ => fits 1 slot
  | .dequeueStress slot => fits 1 slot
  | .readOrder => true
  | .setExclusion d => fits 1 d
  | .configChannel m c => fits 1 m && chanFits c
  | .readChannel m => fits 1 m
  | .loadTable t bps => fits 1 t && fits 1 bps.length && bps.all breakpointFits
  | .readTable t => fits 1 t
  | .configCell c cfg => fits 1 c && fitsOption cellFits cfg
  | .measureCell c _ => fits 1 c
  | .readCell c => fits 1 c
  | .bindChannel n b _ => fits 1 n && bindingFits b
  | .unbindChannel n => fits 1 n
  | .setAutoTake n _ => fits 1 n
  | .readStress n => fits 1 n
  | .startStress n slot => fits 1 n && fits 1 slot
  | .haltChannel n => fits 1 n
  | .configPlacement cfg => fitsOption placementFits cfg
  | .readPlacement => true
  | .startPlace slot => fits 1 slot
  | .configClassifier x cfg => fits 1 x && fitsOption classifierFits cfg
  | .readClassifier x => fits 1 x
  | .loadTrip q c => fits 1 q && sourceFits c.source && fits 2 c.preload
  | .clearTrip mask => fits 1 mask
  | .readTrip => true
  | .freeze => true
  | .thaw => true
  | .configRing timeout => fits 1 timeout
  | .readRing => true
  | .readPending node => fits 1 node
  | .loadPoll e cfg => fits 1 e && fitsOption pollFits cfg
  | .readPolls => true
  | .configSchedule p => scheduleFits p
  | .readSchedule => true
  | .readLog _ count => fits 1 count
  | .trimLog _ => true
  | .setWatermark w => fits 2 w
  | .clearOverrun => true
  | .readLogState => true
  | .readStatus => true
  | .setTime _ => true
  | .restart => true
  | .readPart part => fits 1 part
  | .clearEstop => true

/-- R190: a code and a body spell no request of any block. -/
def spellsNothing (code : Nat) (body : List Byte) : Bool :=
  if code = loadPartCode then (takePart body).isNone else (decodeRequest code body).isNone

/-- A request row: the tag of its frame is one byte, and its items fit. -/
def requestRowFits (tag : Nat) (r : Request) : Bool := fits 1 tag && requestFits r

/-- A well-formed command. -/
def wellFormed : Instr → Bool
  | .powerOnReset straps _ => decide (straps < 64)
  | .estopAsserted => true
  | .estopLineDeasserted => true
  | .lossOfSignal => true
  | .frameArrival _ _ => true
  | .forwardTransmit => true
  | .insertionOpportunity => true
  | .frameTransmitted _ => true
  | .entryExpiry tag => fits 1 tag
  | .tickAdvance => true
  | .siteMinuteAdvance => true
  | .channelStale m => decide (m < 24)
  | .surveyRequest c => decide (c < 4)
  | .measurementStart => true
  | .referenceEnd t => decide (t < 1048576)
  | .refLost mc => decide (mc < 65536)
  | .sensingEnd m => decide (m < 65536)
  | .senseHigh tc => decide (tc < 1048576)
  | .loadTimeout n => decide (n < 4)
  | .settleInterval n => decide (n < 4)
  | .settleMaximum n => decide (n < 4)
  | .lockWindowRunOut n => decide (n < 4)
  | .stressPointDue n => decide (n < 4)
  | .placementPointDue => true
  | .winchTimeout => true
  | .sustained x => decide (x < 4)
  | .overlong x => decide (x < 4)
  | .heldRecordWrite n => decide (n < 4)
  | .unownedRequestCode tag code body =>
    fits 1 tag && fits 1 code && decide (body.length ≤ 123) && spellsNothing code body
  | .loadAnchor tag slot d => requestRowFits tag (.loadAnchor slot d)
  | .readAnchor tag slot => requestRowFits tag (.readAnchor slot)
  | .withdrawAnchor tag slot => requestRowFits tag (.withdrawAnchor slot)
  | .retryAnchor tag slot => requestRowFits tag (.retryAnchor slot)
  | .loadClass tag k c => requestRowFits tag (.loadClass k c)
  | .readClass tag k => requestRowFits tag (.readClass k)
  | .enqueueStress tag slot p => requestRowFits tag (.enqueueStress slot p)
  | .dequeueStress tag slot => requestRowFits tag (.dequeueStress slot)
  | .readOrder tag => requestRowFits tag .readOrder
  | .setExclusion tag d => requestRowFits tag (.setExclusion d)
  | .configChannel tag m c => requestRowFits tag (.configChannel m c)
  | .readChannel tag m => requestRowFits tag (.readChannel m)
  | .loadTable tag t bps => requestRowFits tag (.loadTable t bps)
  | .readTable tag t => requestRowFits tag (.readTable t)
  | .configCell tag c cfg => requestRowFits tag (.configCell c cfg)
  | .measureCell tag c r => requestRowFits tag (.measureCell c r)
  | .readCell tag c => requestRowFits tag (.readCell c)
  | .bindChannel tag n b auto => requestRowFits tag (.bindChannel n b auto)
  | .unbindChannel tag n => requestRowFits tag (.unbindChannel n)
  | .setAutoTake tag n auto => requestRowFits tag (.setAutoTake n auto)
  | .readStress tag n => requestRowFits tag (.readStress n)
  | .startStress tag n slot => requestRowFits tag (.startStress n slot)
  | .haltChannel tag n => requestRowFits tag (.haltChannel n)
  | .configPlacement tag cfg => requestRowFits tag (.configPlacement cfg)
  | .readPlacement tag => requestRowFits tag .readPlacement
  | .startPlace tag slot => requestRowFits tag (.startPlace slot)
  | .configClassifier tag x cfg => requestRowFits tag (.configClassifier x cfg)
  | .readClassifier tag x => requestRowFits tag (.readClassifier x)
  | .loadTrip tag q cfg => requestRowFits tag (.loadTrip q cfg)
  | .clearTrip tag mask => requestRowFits tag (.clearTrip mask)
  | .readTrip tag => requestRowFits tag .readTrip
  | .freeze tag => requestRowFits tag .freeze
  | .thaw tag => requestRowFits tag .thaw
  | .configRing tag timeout => requestRowFits tag (.configRing timeout)
  | .readRing tag => requestRowFits tag .readRing
  | .readPending tag node => requestRowFits tag (.readPending node)
  | .loadPoll tag e cfg => requestRowFits tag (.loadPoll e cfg)
  | .readPolls tag => requestRowFits tag .readPolls
  | .configSchedule tag p => requestRowFits tag (.configSchedule p)
  | .readSchedule tag => requestRowFits tag .readSchedule
  | .readLog tag start count => requestRowFits tag (.readLog start count)
  | .trimLog tag seq => requestRowFits tag (.trimLog seq)
  | .setWatermark tag w => requestRowFits tag (.setWatermark w)
  | .clearOverrun tag => requestRowFits tag .clearOverrun
  | .readLogState tag => requestRowFits tag .readLogState
  | .readStatus tag => requestRowFits tag .readStatus
  | .setTime tag minute => requestRowFits tag (.setTime minute)
  | .restart tag => requestRowFits tag .restart
  | .readPart tag part => requestRowFits tag (.readPart part)
  | .clearEstop tag => requestRowFits tag .clearEstop
  | .loadPart tag target part _ bytes =>
    fits 1 tag && fits 1 target && fits 1 part && decide (bytes.length ≤ 119)

end Sys2Proof
end

