-- ==== Sys2Proof/Certificates/Slice0/Obligations.lean ====
section
/-! DEFINITION. The statements for the provers, from the numbered rules of the manual. -/

open Sys2Proof Sys2Proof.Machine

/-! ### The machine as a whole -/

/-- Step takes the command at the front of the queue and runs it with the queue's rest; on an empty queue it carries
out what is due, and a quiet machine idles. That a step with no command waiting does so is the model's choice (DESIGN
CHOICE, log 4). -/
def Obligations.StepRunsFrontCommand : Prop :=
  (∀ (c : Instr) (rest : List Instr) (s : State),
      step { s with pending := c :: rest } = exec c { s with pending := rest })
    ∧ (∀ s : State, s.pending = [] → step s = .next (settle s))
    ∧ ∀ s : State, s.pending = [] → quiet s = true → step s = .next s

/-- R155, R190: no command of the part stops it: each one answers a next state. That none of them touches the commands
that wait, which stand outside the part, a power-on reset included, is the model's choice (DESIGN CHOICE, log 21). -/
def Obligations.EveryCommandAnswersAndKeepsTheQueue : Prop :=
  ∀ (c : Instr) (s : State), ∃ t, exec c s = .next t ∧ t.pending = s.pending

/-- R1, R26, R40, R44, R60, R114, R134, R141, R146, R157, R158, R162 to R167, R182, R192, R194, R196, R199: the state
that reset leaves; and the release of the power-on reset line leaves nothing of what the part held: every block starts
anew from the strap reading and the line, and a line already asserted latches ESTOP with a HALT record of no swept
node, whose layout is log 11. The station address and the line at reset (log 5), the converter's counts (log 7) and
the waiting commands, which are outside the part (log 21), are the model's choices and not the manual's. -/
def Obligations.PowerOnResetStartsEveryBlockAnew : Prop :=
  (let s := State.reset
  (∀ slot, slot < 96 → anchorAt s slot = Anchor.free)
    ∧ (∀ k, k < 8 → look s.anchorTable.classes k = none)
    ∧ s.anchorTable.order = [] ∧ s.anchorTable.exclusion = 1
    ∧ (∀ m, m < 24 → channelAt s m = Channel.unconfigured) ∧ (∀ t, t < 16 → tableAt s t = [])
    ∧ s.gauge.phase = .idle ∧ s.gauge.cell = none ∧ s.gauge.pointer = 3 ∧ (∀ c, c < 4 → cellAt s c = Cell.reset)
    ∧ (∀ n, n < 4 → stressAt s n = Stress.reset)
    ∧ s.placement = { mode := .idle, config := none, run := none, winchCommand := none, pumpCommand := none }
    ∧ (∀ x, x < 4 → classifierAt s x = { config := none, mode := .quiet, start := none })
    ∧ (∀ q, q < 8 → counterAt s q = Counter.reset) ∧ s.trip.frozen = false ∧ s.trip.stationFreeze = false
    ∧ s.log = { entries := [], oldest := 0, next := 0, watermark := 1024, attention := false, overrun := false }
    ∧ s.ring.state = .down ∧ s.ring.timeout = 10 ∧ s.ring.lossCount = 0 ∧ s.ring.clock = 0 ∧ s.ring.tagCounter = 0
    ∧ s.ring.inFlight = [] ∧ s.ring.probeDue = true ∧ (∀ a, ownerOf s a = none) ∧ s.ring.responses = []
    ∧ s.ring.store = []
    ∧ s.sched.mode = .sampling ∧ s.sched.toIssuing = 0 ∧ s.sched.toSampling = 0
    ∧ s.sched.params = { high := 8, low := 0, commandStarve := 5, pollStarve := 3 }
    ∧ (∀ e, pollAt s e = none) ∧ s.sched.queue = [] ∧ s.sched.priority = [] ∧ s.sched.passedOver = 0
    ∧ (∀ a k, lastSentAt s a k = none) ∧ (∀ a, failuresOf s a = 0)
    ∧ s.station.tick = 0 ∧ s.station.site = none ∧ s.station.estop = false ∧ s.station.assembly = none
    ∧ s.station.longResponse = [])
    ∧ (∀ (s : State) (straps : Nat), straps < 64 →
    exec (.powerOnReset straps false) s = .next { State.power straps false with pending := s.pending }
      ∧ exec (.powerOnReset straps true) s = .next
          ((({ State.power straps true with pending := s.pending } : State).onStation fun t =>
              { t with estop := true }).onLog (appendRecord
            { tick := 0, kind := .halt, unit := 6, slot := 255, detail := 30, data := [0] })))

/-- The invariants hold of the state that reset leaves, and nothing is due in it (R146, R158, R174, R182, R102, R6).
-/
def Obligations.ResetMeetsTheInvariants : Prop :=
  freezeLaw State.reset ∧ logInOrder State.reset.log ∧ ringInBounds State.reset.ring
    ∧ priorityInBounds State.reset ∧ lockBounded State.reset ∧ anchorsHeldOnce State.reset
    ∧ quiet State.reset = true

/-! ### Encodings (08, section 8.8) -/

/-- Section 8.8, R190: a request whose items fit their bytes is decoded from its own code and body: no bit of a body
is dropped. The layouts of the presence groups are log 12, and what a body with other bytes than 0 in an absent item
spells is log 33 and not claimed. -/
def Obligations.RequestBodiesRoundTrip : Prop :=
  ∀ r : Request, requestFits r = true → decodeRequest (requestCode r) (requestBody r) = some r

/-- R153, R192, section 8.8: the items of a LOAD_PART, its bytes as a list with their count byte, are read back from
the body that carries them; an own frame is well formed, carries a good CRC and shows its header fields and its
payload; and a frame that is forwarded with marks set carries a good CRC again, its other bytes as received. -/
def Obligations.FramesAndPartsReadBack : Prop :=
  (∀ (target part : Nat) (last : Bool) (bytes : List Byte), target < 256 → part < 256 → bytes.length ≤ 119 →
    takePart (be 1 target ++ be 1 part ++ flag last ++ be 1 bytes.length ++ bytes) = some (target, part, last, bytes))
    ∧ ((∀ (dest kind tag : Nat) (pay : List Byte), dest < 64 → kind < 256 → tag < 256 → pay.length ≤ 124 →
      let f := ownFrame dest kind tag pay
      malformed f = false ∧ crcGood f = true ∧ byteAt f 0 = dest ∧ byteAt f 1 = 0 ∧ byteAt f 2 = kind
        ∧ byteAt f 3 = 0 ∧ byteAt f 4 = tag ∧ payload f = pay)
    ∧ ∀ (bs : List Byte) (m : Byte), malformed bs = false →
        malformed (remark m bs) = false ∧ crcGood (remark m bs) = true
          ∧ (∀ i, i ≠ 3 → i + 2 < bs.length → (remark m bs)[i]? = bs[i]?)
          ∧ (remark m bs)[3]? = bs[3]?.map (· ||| m))

/-! ### Invariants that every step keeps -/

/-- R146: a part that a station freeze or a freeze-enabled overflowed counter holds is frozen, whatever the step. And
while the part is frozen no step changes a counter's value, with samples, events, losses and returned frames included:
none but one that takes LOAD_TRIP, RESTART, a part of a long body, a frame that is taken as a request of the station,
or the power-on reset. -/
def Obligations.FreezeLawIsKept : Prop :=
  (∀ s t : State, freezeLaw s → step s = .next t → freezeLaw t)
    ∧ (∀ s t : State, s.trip.frozen = true → step s = .next t →
    (∀ c, s.pending.head? = some c →
      (∀ straps line, c ≠ .powerOnReset straps line) ∧ (∀ tag q cfg, c ≠ .loadTrip tag q cfg)
        ∧ (∀ tag, c ≠ .restart tag) ∧ (∀ tag target part last bytes, c ≠ .loadPart tag target part last bytes)
        ∧ (∀ clock bs, c = .frameArrival clock bs →
            ¬(malformed bs = false ∧ crcGood bs = true ∧ byteAt bs 0 = 0 ∧ byteAt bs 2 = 3
              ∧ (bs[3]?.getD 0) &&& 4 = 0 ∧ takesRequest s bs = true))) →
      ∀ q, (counterAt t q).value = (counterAt s q).value)

/-- R182, R184, R186, R188: the log stays a gapless run of at most 2048 entries, oldest first, beginning with a head,
with its attention mark judged. -/
def Obligations.LogStaysInOrder : Prop :=
  ∀ s t : State, logInOrder s.log → step s = .next t → logInOrder t.log

/-- R157, R158, R163: at most 4 responses and at most 4 own frames with different tags; out of UP at most one. -/
def Obligations.RingTablesStayInBounds : Prop :=
  ∀ s t : State, ringInBounds s.ring → step s = .next t → ringInBounds t.ring

/-- R174, R176: at most 16 queue entries of different node and class, and priority entries of different nodes. R165,
R62, R115: a node that a stressing channel owns is the jack of its binding, and one that the placement unit owns is a
node of its configuration, so at most six nodes are owned. R176: so the priority list always finds room and never
holds more than 8 entries, and the ninth entry of log 17 is never reached. -/
def Obligations.CommandsStayDistinct : Prop :=
  (∀ s t : State, commandsDistinct s.sched → step s = .next t → commandsDistinct t.sched)
    ∧ (∀ s t : State, ownersBound s → step s = .next t → ownersBound t)
    ∧ ∀ s t : State, priorityInBounds s → step s = .next t → priorityInBounds t

/-- R18, R102: no lock window remainder exceeds 64 ticks; one above zero is that of a LOCKING channel, and a LOCKING
channel has one, but for the judgments of a tick advance that has just lowered it to zero (log 2). -/
def Obligations.LockWindowsStayBounded : Prop :=
  ∀ s t : State, lockBounded s → step s = .next t → lockBounded t

/-- R6: WINCHING, GROUTING and STRESSING are exactly the phases of the anchors that a unit holds, one unit each. -/
def Obligations.AnchorsStayHeldOnce : Prop :=
  ∀ s t : State, anchorsHeldOnce s → step s = .next t → anchorsHeldOnce t

/-! ### Requests: refusals and reads (11) -/

/-- R157, R190: every request row acts as its request when it can be taken, with one response; a request row that
cannot be taken changes nothing (log 1); and a refusal carries an empty body and changes no state but the response
queue. -/
def Obligations.RequestsAnswerOnceAndRefusalsChangeNothing : Prop :=
  (∀ (tag : Nat) (r : Request) (s : State), quiet s = true → canTake s = false →
      exec (rowOf tag r) s = .next s)
    ∧ (∀ (tag : Nat) (r : Request) (s : State), takesNow s →
        exec (rowOf tag r) s = .next (runPass
          (answered tag (requestCode r) (handRequest r s).2.reason (handRequest r s).2.body (handRequest r s).1)))
    ∧ ∀ (r : Request) (s : State) (reason : Reason), (handRequest r s).2.reason = some reason →
        (handRequest r s).1 = s ∧ (handRequest r s).2.body = []

/-- R4, R19, R22, R29, R43, R58, R65, R116, R135, R150, R166, R168, R173, R181, R189, R193: the READ_ requests are
answered DONE with what stands, or BAD_VALUE for a number out of range (the layouts of the bodies are log 10). They
change nothing but what any response does as it joins the response queue: R192: a body over 120 bytes replaces the one
in the long-response store, and R171: a response that is alone in the queue has a passed-over count of 0. R187:
READ_LOG answers the held entries from the starting number on, up to the count or the newest, 20 bytes each; a count
outside 1 … 6 is BAD_VALUE and a number that is not held NOT_FOUND. -/
def Obligations.ReadsAnswerWhatStands : Prop :=
  (∀ (s : State) (tag v : Nat), takesNow s →
    exec (.readAnchor tag v) s = .next
        (if v ≤ 95 then answered tag 0x11 none (readAnchorBody s v) s else refused tag 0x11 .badValue s)
      ∧ exec (.readClass tag v) s = .next
        (if v ≤ 7 then answered tag 0x15 none (readClassBody s v) s else refused tag 0x15 .badValue s)
      ∧ exec (.readChannel tag v) s = .next
        (if v ≤ 23 then answered tag 0x21 none (readChannelBody s v) s else refused tag 0x21 .badValue s)
      ∧ exec (.readTable tag v) s = .next
        (if v ≤ 15 then answered tag 0x23 none (readTableBody s v) s else refused tag 0x23 .badValue s)
      ∧ exec (.readCell tag v) s = .next
        (if v ≤ 3 then answered tag 0x2A none (readCellBody s v) s else refused tag 0x2A .badValue s)
      ∧ exec (.readStress tag v) s = .next
        (if v ≤ 3 then answered tag 0x33 none (readStressBody s v) s else refused tag 0x33 .badValue s)
      ∧ exec (.readClassifier tag v) s = .next
        (if v ≤ 3 then answered tag 0x41 none (readClassifierBody s v) s else refused tag 0x41 .badValue s)
      ∧ exec (.readPending tag v) s = .next
        (if 1 ≤ v ∧ v ≤ 62 then answered tag 0x50 none (readPendingBody s v) s else refused tag 0x50 .badValue s)
      ∧ exec (.readOrder tag) s = .next (answered tag 0x18 none (readOrderBody s) s)
      ∧ exec (.readPlacement tag) s = .next (answered tag 0x39 none (readPlacementBody s) s)
      ∧ exec (.readTrip tag) s = .next (answered tag 0x44 none (readTripBody s) s)
      ∧ exec (.readRing tag) s = .next (answered tag 0x49 none (readRingBody s) s)
      ∧ exec (.readPolls tag) s = .next (answered tag 0x52 none (readPollsBody s) s)
      ∧ exec (.readSchedule tag) s = .next (answered tag 0x54 none (readScheduleBody s) s)
      ∧ exec (.readLogState tag) s = .next (answered tag 0x5C none (readLogStateBody s) s)
      ∧ exec (.readStatus tag) s = .next (answered tag 0x60 none (readStatusBody s) s))
    ∧ (∀ (s : State) (tag count : Nat) (start : Word32), takesNow s → logInOrder s.log →
    (count < 1 ∨ 6 < count → exec (.readLog tag start count) s = .next (refused tag 0x58 .badValue s))
      ∧ (1 ≤ count → count ≤ 6 → s.log.entries.length ≤ (start - s.log.oldest).toNat →
          exec (.readLog tag start count) s = .next (refused tag 0x58 .notFound s))
      ∧ (1 ≤ count → count ≤ 6 → (start - s.log.oldest).toNat < s.log.entries.length →
          exec (.readLog tag start count) s = .next (answered tag 0x58 none
            (((s.log.entries.drop (start - s.log.oldest).toNat).take count).flatMap entryBytes) s)
          ∧ ∀ e, e ∈ s.log.entries → e.data.length = 8 → (entryBytes e).length = 20))

/-! ### The anchor table (01) -/

/-- R3, R2: LOAD_ANCHOR, its checks in their order and its effect. R5: WITHDRAW_ANCHOR frees the slot in the phases
that allow it; nothing else of the part changes. R15: RETRY_ANCHOR, from each halted-from and from every other phase.
-/
def Obligations.AnchorRecordsAreLoadedWithdrawnAndRetried : Prop :=
  (∀ (s : State) (tag slot : Nat) (d : Design), takesNow s →
    exec (.loadAnchor tag slot d) s = .next (
      if 95 < slot then refused tag 0x10 .badValue s
      else if (anchorAt s slot).phase ≠ .free ∧ (anchorAt s slot).phase ≠ .defined then refused tag 0x10 .badPhase s
      else if ¬ ((1 ≤ d.anchorId ∧ d.anchorId ≤ 65535) ∧ d.row ≤ 7 ∧ d.position ≤ 255 ∧ d.klass ≤ 7
          ∧ (1 ≤ d.strands ∧ d.strands ≤ 16) ∧ (1 ≤ d.freeLength ∧ d.freeLength ≤ 65535)
          ∧ (1 ≤ d.bondLength ∧ d.bondLength ≤ 65535) ∧ (1 ≤ d.workingLoad ∧ d.workingLoad ≤ 50000)
          ∧ (1 ≤ d.hardLimit ∧ d.hardLimit ≤ 8388607) ∧ (1 ≤ d.insertionTarget ∧ d.insertionTarget ≤ 65535)
          ∧ (1 ≤ d.groutTarget ∧ d.groutTarget ≤ 16777214) ∧ (d.groutTarget < d.groutMax ∧ d.groutMax ≤ 16777215)
          ∧ d.cureMinutes ≤ 65535) then refused tag 0x10 .badValue s
      else if look s.anchorTable.classes d.klass = none then refused tag 0x10 .badValue s
      else if ∃ i ∈ slots96, i ≠ slot ∧ (anchorAt s i).phase ≠ .free
          ∧ ((designOf s i).anchorId = d.anchorId
            ∨ ((designOf s i).row = d.row ∧ (designOf s i).position = d.position)) then
        refused tag 0x10 .duplicate s
      else answered tag 0x10 none [] (s.onAnchor slot fun a => { a with phase := .defined, design := some d })))
    ∧ (∀ (s : State) (tag slot : Nat), takesNow s →
    (95 < slot → exec (.withdrawAnchor tag slot) s = .next (refused tag 0x12 .badValue s))
      ∧ (slot ≤ 95 → (anchorAt s slot).phase = .free →
          exec (.withdrawAnchor tag slot) s = .next (refused tag 0x12 .notFound s))
      ∧ (slot ≤ 95 → (anchorAt s slot).phase = .defined ∨ (anchorAt s slot).phase = .accepted
            ∨ (anchorAt s slot).phase = .rejected ∨ (anchorAt s slot).phase = .halted
            ∨ (((anchorAt s slot).phase = .curing ∨ (anchorAt s slot).phase = .ready)
              ∧ slot ∉ s.anchorTable.order) →
          exec (.withdrawAnchor tag slot) s = .next (answered tag 0x12 none [] (s.onAnchor slot fun _ => Anchor.free)))
      ∧ (slot ≤ 95 → (anchorAt s slot).phase = .winching ∨ (anchorAt s slot).phase = .placed
            ∨ (anchorAt s slot).phase = .grouting ∨ (anchorAt s slot).phase = .stressing
            ∨ (((anchorAt s slot).phase = .curing ∨ (anchorAt s slot).phase = .ready)
              ∧ slot ∈ s.anchorTable.order) →
          exec (.withdrawAnchor tag slot) s = .next (refused tag 0x12 .badPhase s)))
    ∧ (∀ (s : State) (tag slot : Nat), takesNow s →
    (95 < slot → exec (.retryAnchor tag slot) s = .next (refused tag 0x13 .badValue s))
      ∧ (slot ≤ 95 → (anchorAt s slot).phase ≠ .halted ∨ (anchorAt s slot).haltedFrom = some .grouting →
          exec (.retryAnchor tag slot) s = .next (refused tag 0x13 .badPhase s))
      ∧ (slot ≤ 95 → (anchorAt s slot).phase = .halted → (anchorAt s slot).haltedFrom = some .winching →
          exec (.retryAnchor tag slot) s = .next (answered tag 0x13 none []
            (s.onAnchor slot fun a =>
              { Anchor.free with phase := .defined, design := a.design })))
      ∧ (slot ≤ 95 → (anchorAt s slot).phase = .halted → (anchorAt s slot).haltedFrom = some .stressing →
          exec (.retryAnchor tag slot) s = .next (afterPass (answered tag 0x13 none []
            (s.onAnchor slot fun a =>
              { a with
                phase := .ready, haltedFrom := none, haltCause := none, lApp := none, ksPrimary := none
                ksExtension := none, retainedLoad := none, crossDifference := none
                verdictCause := none }).startPass))))

/-- R17: LOAD_CLASS, its checks in their order and its effect, with a hand-out pass (R24). R18: a procedure is
accepted exactly when its checks hold, the steps numbered from 1. -/
def Obligations.ClassesAreLoadedByTheirChecks : Prop :=
  (∀ (s : State) (tag k : Nat) (c : ClassDef), takesNow s →
    exec (.loadClass tag k c) s = .next (
      if 7 < k then refused tag 0x14 .badValue s
      else if ∃ i ∈ slots96, (anchorAt s i).phase = .stressing ∧ (designOf s i).klass = k then
        refused tag 0x14 .inUse s
      else if classAccepted (classFilled c) = true then
        afterPass (answered tag 0x14 none []
          (s.onAnchorTable fun t =>
            { t with
              classes := put t.classes k (some
                { c with
                  lowerFactor := if c.lowerFactor = 0 then 900 else c.lowerFactor
                  bondFactor := if c.bondFactor = 0 then 500 else c.bondFactor
                  minSpan := if c.minSpan = 0 then 100 else c.minSpan }) }).startPass)
      else refused tag 0x14 .badValue s))
    ∧ (∀ (exit : Option Nat) (p : List ProcStep),
    procedureAccepted exit p = true ↔
      (1 ≤ p.length ∧ p.length ≤ 24)
        ∧ (∀ i : Nat, i < p.length → (p[i]? = some .finish ↔ i + 1 = p.length))
        ∧ (∀ q, q ∈ p → stepInRange q = true)
        ∧ (∀ (i : Nat) (q : ProcStep), p[i]? = some q → (stepIsLockoff q = true ∨ ∃ h, q = .holdSettle h) →
            ∃ (j : Nat) (m : ProcStep), j < i ∧ p[j]? = some m ∧ stepIsMove m = true)
        ∧ (∀ (i : Nat) (h : CreepParams), p[i]? = some (.holdCreep h) →
            ∃ (j : Nat) (m : MoveParams), j < i ∧ p[j]? = some (.loadTo m))
        ∧ (∀ (i j : Nat) (a b : LockParams), p[i]? = some (.lockoff a) → p[j]? = some (.lockoff b) → i = j)
        ∧ (∀ e, exit = some e → 1 ≤ e ∧ e ≤ 24 ∧ e ≤ p.length
            ∧ ∀ (i : Nat) (q : ProcStep), p[i]? = some q → stepCanFail q = true → i + 1 < e))

/-- R20: ENQUEUE_STRESS, its checks in their order and its effect. R23: SET_EXCLUSION likewise. Each starts a hand-out
pass (R24). -/
def Obligations.OrderAndExclusionTakeTheirValues : Prop :=
  (∀ (s : State) (tag slot : Nat) (p : Place), takesNow s →
    exec (.enqueueStress tag slot p) s = .next (
      if 95 < slot then refused tag 0x16 .badValue s
      else if (anchorAt s slot).phase ≠ .curing ∧ (anchorAt s slot).phase ≠ .ready then
        refused tag 0x16 .badPhase s
      else if slot ∈ s.anchorTable.order then refused tag 0x16 .duplicate s
      else afterPass (answered tag 0x16 none []
        (s.onAnchorTable fun t =>
          { t with order := if p = .front then slot :: t.order else t.order ++ [slot] }).startPass)))
    ∧ (∀ (s : State) (tag d : Nat), takesNow s →
    exec (.setExclusion tag d) s = .next (
      if 3 < d then refused tag 0x19 .badValue s
      else if ∃ i ∈ slots96, (anchorAt s i).phase = .stressing then refused tag 0x19 .inUse s
      else afterPass (answered tag 0x19 none []
        (s.onAnchorTable fun t => { t with exclusion := d }).startPass)))

/-- R21: DEQUEUE_STRESS; the anchor's phase, as everything else, is not changed. -/
def Obligations.DequeueStressRemovesTheEntry : Prop :=
  ∀ (s : State) (tag slot : Nat), takesNow s → slot ≤ 95 →
    (slot ∈ s.anchorTable.order →
        exec (.dequeueStress tag slot) s = .next (answered tag 0x17 none []
          (s.onAnchorTable fun t => { t with order := t.order.filter fun e => e ≠ slot })))
      ∧ (slot ∉ s.anchorTable.order → exec (.dequeueStress tag slot) s = .next (refused tag 0x17 .notFound s))

/-- R24, R22, R11: what makes an entry eligible and a channel able to receive; a pass hands nothing out while the part
is frozen, ESTOP is latched or the ring is not UP; otherwise it gives the first eligible entry to the lowest channel
that can receive and goes on from the state that the admission leaves, until it finds no entry or no channel. -/
def Obligations.HandOutPassGivesFirstEligible : Prop :=
  (∀ (s : State) (slot : Nat), eligible s slot = true ↔
      (anchorAt s slot).phase = .ready
        ∧ (¬ ∃ i, i < 96 ∧ (anchorAt s i).phase = .stressing ∧ (designOf s i).row = (designOf s slot).row
            ∧ ((designOf s i).position - (designOf s slot).position : Int).natAbs ≤ s.anchorTable.exclusion)
        ∧ ∀ q f, q ∈ (classOf s slot).procedure → stepFactor q = some f →
            (designOf s slot).workingLoad * f / 1000 < (designOf s slot).hardLimit)
    ∧ (∀ (s : State) (n : Nat), canReceive s n = true ↔ (stressAt s n).mode = .idle ∧ (stressAt s n).autoTake = true)
    ∧ (∀ s : State, s.trip.frozen = true ∨ s.station.estop = true ∨ s.ring.state ≠ .up → handOut s = s)
    ∧ (∀ (s : State) (before after : List Nat) (slot n : Nat),
        s.trip.frozen = false → s.station.estop = false → s.ring.state = .up →
        s.anchorTable.order = before ++ slot :: after → (∀ e ∈ before, eligible s e = false) →
        eligible s slot = true →
        n < 4 → canReceive s n = true → (∀ m, m < n → canReceive s m = false) →
          handOut s = handOut (admitTo n slot s))
    ∧ (∀ s : State, s.trip.frozen = false → s.station.estop = false → s.ring.state = .up →
        (∀ e ∈ (handOut s).anchorTable.order, eligible (handOut s) e = false)
          ∨ ∀ n, n < 4 → canReceive (handOut s) n = false)

/-- R66, R11, R69: what a channel does with an anchor that is admitted to it. The order-list entry goes; with a STALE
force or extension channel the test halts at once, its anchor HALTED with SENSOR_STALE; with a log that takes no
ordinary record the channel stalls in step 1 and holds its START record; otherwise a first step LOAD_TO runs with its
target set and the START record is written (its layout is log 11). -/
def Obligations.AdmissionStartsTheTest : Prop :=
  ∀ (s : State) (n slot : Nat), n < 4 → slot < 96 →
    let start : LogRecord :=
      { tick := now s, kind := .start, unit := n, slot := slot, detail := 0
        data := be 2 (designOf s slot).anchorId ++ be 1 (designOf s slot).klass }
    let t := admitTo n slot s
    let fresh := isFresh s (bindingOf s n).force = true ∧ isFresh s (bindingOf s n).extension = true
    t.anchorTable.order = s.anchorTable.order.filter (fun e => e ≠ slot)
      ∧ (¬ fresh →
          (anchorAt t slot).phase = .halted ∧ (anchorAt t slot).haltedFrom = some .stressing
            ∧ (anchorAt t slot).haltCause = some .sensorStale
            ∧ (stressAt t n).mode = .idle ∧ workOf t n = Work.clear)
      ∧ (fresh → 2016 ≤ occupancy s.log →
          (anchorAt t slot).phase = .stressing ∧ (stressAt t n).mode = .stalled
            ∧ (workOf t n).slot = some slot ∧ (workOf t n).step = some 1 ∧ (workOf t n).startOwing = true
            ∧ (workOf t n).held = some start ∧ t.log = s.log)
      ∧ (fresh → occupancy s.log < 2016 → ∀ p : MoveParams, (classOf s slot).procedure[0]? = some (.loadTo p) →
          (anchorAt t slot).phase = .stressing ∧ (stressAt t n).mode = .running
            ∧ (workOf t n).slot = some slot ∧ (workOf t n).step = some 1 ∧ (workOf t n).elapsed = 0
            ∧ (workOf t n).target = some ((designOf s slot).workingLoad * p.target / 1000 : Nat)
            ∧ (workOf t n).tolerance = some p.tolerance ∧ (workOf t n).direction = some .load
            ∧ (workOf t n).pendingCause = none ∧ (workOf t n).pointCounter = 0 ∧ t.log = appendRecord start s.log)

/-! ### Measurement channels and tables (02) -/

/-- R27, R28: CONFIG_CHANNEL of a channel that is not in use, with parameters in range and its table loaded, starts
the channel in the state its kind gives, and presents a change to STALE where the channel was FRESH; its refusals in
their order. And what makes a measurement channel, a calibration table, a cell and a classifier in use. -/
def Obligations.ConfigChannelStartsTheChannel : Prop :=
  (∀ (s : State) (tag m : Nat) (c : ChanConfig), takesNow s →
    let blank : Channel := { Channel.unconfigured with config := c }
    let initial : Channel :=
      match c with
      | .none => blank
      | .calibrated t _ =>
        { blank with
          lastRaw := some 0, value := some (convert (tableAt s t) 0).1, mark := some (convert (tableAt s t) 0).2 }
      | .gauge t _ =>
        { blank with
          lastRaw := some 0, value := some (convert (tableAt s t) 0).1, mark := some (convert (tableAt s t) 0).2
          saturated := some false }
      | .scaled _ _ o _ => { blank with lastRaw := some 0, value := some o, mark := some .within }
      | .counter _ _ _ => { blank with total := some 0, value := some 0, mark := some .within }
    (23 < m → exec (.configChannel tag m c) s = .next (refused tag 0x20 .badValue s))
      ∧ (m ≤ 23 → channelInUse s m = true → exec (.configChannel tag m c) s = .next (refused tag 0x20 .inUse s))
      ∧ (m ≤ 23 → channelInUse s m = false → ¬(chanConfigInRange c = true ∧ tableLoaded s c = true) →
          exec (.configChannel tag m c) s = .next (refused tag 0x20 .badValue s))
      ∧ (m ≤ 23 → channelInUse s m = false → chanConfigInRange c = true → tableLoaded s c = true →
          isFresh s m = false →
          exec (.configChannel tag m c) s = .next (answered tag 0x20 none [] (s.onChannel m fun _ => initial)))
      ∧ (m ≤ 23 → channelInUse s m = false → chanConfigInRange c = true → tableLoaded s c = true →
          isFresh s m = true →
          exec (.configChannel tag m c) s = .next (runPass (answered tag 0x20 none []
            (presentStale m (s.onChannel m fun _ => initial))))))
    ∧ ((∀ (s : State) (m : Nat), channelInUse s m = true ↔
      (∃ n, n < 4 ∧ holdsAnchor s n = true
          ∧ ((bindingOf s n).force = m ∨ (bindingOf s n).extension = m ∨ (bindingOf s n).seat = m
            ∨ ∃ c, (cellAt s (bindingOf s n).cell).config = some c ∧ c.output = m))
        ∨ (s.placement.mode ≠ .idle ∧ ∃ c, s.placement.config = some c
            ∧ (c.payout = m ∨ c.tension = m ∨ c.flow = m ∨ c.pressure = m ∨ c.ret = m)))
    ∧ (∀ (s : State) (t : Nat), tableInUse s t = true ↔
        ∃ m, m < 24 ∧ channelInUse s m = true
          ∧ ∃ l, (channelAt s m).config = .calibrated t l ∨ (channelAt s m).config = .gauge t l)
    ∧ (∀ (s : State) (c : Nat), cellInUse s c = true ↔
        ∃ n, n < 4 ∧ holdsAnchor s n = true ∧ (bindingOf s n).cell = c)
    ∧ ∀ (s : State) (x : Nat), classifierInUse s x = true ↔
        s.placement.mode ≠ .idle ∧ ∃ c, s.placement.config = some c ∧ (c.tensionX = some x ∨ c.pressureX = some x))

/-- R41, R42: LOAD_TABLE replaces the table, and every channel that names it converts its last raw value again through
it, a GAUGE channel keeping its saturated item; nothing else of a channel changes, and no sample is presented. -/
def Obligations.LoadTableReconvertsItsChannels : Prop :=
  ∀ (s : State) (tag t : Nat) (bps : List (Nat × Int)), takesNow s →
    (15 < t → exec (.loadTable tag t bps) s = .next (refused tag 0x22 .badValue s))
      ∧ (t ≤ 15 → tableInUse s t = true → exec (.loadTable tag t bps) s = .next (refused tag 0x22 .inUse s))
      ∧ (t ≤ 15 → tableInUse s t = false → tableInRange bps = false →
          exec (.loadTable tag t bps) s = .next (refused tag 0x22 .badValue s))
      ∧ (t ≤ 15 → tableInUse s t = false → tableInRange bps = true → ∃ b : Measure,
          exec (.loadTable tag t bps) s = .next (answered tag 0x22 none [] { s with measure := b })
            ∧ b.tables = put s.measure.tables t bps
            ∧ ∀ m, m < 24 →
                (∀ l, (channelAt s m).config = .calibrated t l → look b.channels m =
                  { channelAt s m with
                    value := some (convert bps ((channelAt s m).lastRaw.getD 0).toNat).1
                    mark := some (convert bps ((channelAt s m).lastRaw.getD 0).toNat).2 })
                ∧ (∀ l, (channelAt s m).config = .gauge t l → look b.channels m =
                  { channelAt s m with
                    value := some (convert bps ((channelAt s m).lastRaw.getD 0).toNat).1
                    mark := some
                      (if (channelAt s m).saturated = some true then .over
                        else (convert bps ((channelAt s m).lastRaw.getD 0).toNat).2) })
                ∧ ((∀ l, (channelAt s m).config ≠ .calibrated t l ∧ (channelAt s m).config ≠ .gauge t l) →
                    look b.channels m = channelAt s m))

/-- R33: conversion through a table whose raw values rise: below its first breakpoint UNDER, above its last OVER, on a
breakpoint its value, and between two the nearest integer to the interpolated value, halves away from zero; the value
always lies between the smallest and the largest value of the table. R30, R31, R34, R35, R37: what a delivered value
makes of a channel of each kind, and which kinds discard it. R32, R68, R136, R143: a delivery that the kind takes is
presented as a sample, with its value and mark, to SC0 to SC3, the placement unit, X0 to X3 and the trip counters
(this order is DESIGN CHOICE, log 3); a stressing channel takes it as its force, its extension or, in SEATING, its
seat mask, and a classifier that watches another channel takes nothing; a delivery that the kind discards changes
nothing. -/
def Obligations.ConversionFollowsTheTableAndTheKind : Prop :=
  (∀ (bps : List (Nat × Int)) (x : Nat), bps.length ≠ 0 → rawsRise bps = true →
    (∀ a rest, bps = a :: rest → x < a.1 → convert bps x = (a.2, .under))
      ∧ (∀ z front, bps = front ++ [z] → z.1 < x → convert bps x = (z.2, .over))
      ∧ (∀ b, b ∈ bps → b.1 = x → convert bps x = (b.2, .within))
      ∧ (∀ front back a b, bps = front ++ a :: b :: back → a.1 < x → x < b.1 →
          (convert bps x).2 = .within
            ∧ 2 * (((convert bps x).1 - a.2) * (b.1 - a.1 : Int) - (b.2 - a.2) * (x - a.1 : Int)).natAbs
                ≤ b.1 - a.1
            ∧ (2 * (((convert bps x).1 - a.2) * (b.1 - a.1 : Int) - (b.2 - a.2) * (x - a.1 : Int)).natAbs
                  = b.1 - a.1 →
                ((b.2 - a.2) * (x - a.1 : Int)).natAbs ≤ (((convert bps x).1 - a.2) * (b.1 - a.1 : Int)).natAbs))
      ∧ (∀ lo hi : Int, (∀ b ∈ bps, lo ≤ b.2 ∧ b.2 ≤ hi) →
          lo ≤ (convert bps x).1 ∧ (convert bps x).1 ≤ hi))
    ∧ (∀ (s : State) (raw : Word32) (g : Nat) (sat : Bool) (c : Channel),
    let taken (v : Int) (k : Mark) : Channel :=
      { c with lastRaw := some raw, value := some v, mark := some k, stamp := some (now s), fresh := true }
    (∀ t l, c.config = .calibrated t l →
        deliverRaw s raw c = some (taken (convert (tableAt s t) raw.toNat).1 (convert (tableAt s t) raw.toNat).2)
          ∧ deliverReading s g sat c = none)
      ∧ (∀ m d o l, c.config = .scaled m d o l →
          let v := roundDiv ((raw.toNat : Int) * m) d + o
          deliverRaw s raw c = some (taken (max (-8388608) (min 8388607 v))
              (if 8388607 < v then .over else if v < -8388608 then .under else .within))
            ∧ deliverReading s g sat c = none)
      ∧ (∀ m d l, c.config = .counter m d l →
          let total : Nat :=
            match c.lastRaw with
            | none => c.total.getD 0
            | some r =>
              if (raw - r).toNat < 2 ^ 31 then min 16777215 (c.total.getD 0 + (raw - r).toNat * m / d)
              else c.total.getD 0
          deliverRaw s raw c =
              some { taken total (if total = 16777215 then .over else .within) with total := some total }
            ∧ deliverReading s g sat c = none)
      ∧ (∀ t l, c.config = .gauge t l →
          deliverRaw s raw c = none
            ∧ deliverReading s g sat c = some
                { c with
                  lastRaw := some (BitVec.ofNat 32 g), saturated := some sat
                  value := some (convert (tableAt s t) g).1
                  mark := some (if sat = true then .over else (convert (tableAt s t) g).2)
                  stamp := some (now s), fresh := true })
      ∧ (c.config = .none → deliverRaw s raw c = none ∧ deliverReading s g sat c = none))
    ∧ ((∀ (s : State) (m : Nat), m < 24 →
      let presents (c : Channel) (t : State) : Prop :=
        (∀ v, c.value = some v → ∀ k, c.mark = some k →
            t = observe (.sample m v) ([0, 1, 2, 3].foldl (classifierSample m v) (placementSample m
              ([0, 1, 2, 3].foldl (fun u n => stressSample m n v k u) (s.onChannel m fun _ => c)))))
          ∧ (channelAt t m).lastRaw = c.lastRaw ∧ (channelAt t m).stamp = some (now s) ∧ (channelAt t m).fresh = true
          ∧ ReaderFrame (s.onChannel m fun _ => c) t
      (∀ raw c, deliverRaw s raw (channelAt s m) = some c → presents c (deliver m raw s))
        ∧ (∀ g sat c, deliverReading s g sat (channelAt s m) = some c → presents c (deliverGauge m g sat s))
        ∧ (∀ raw, deliverRaw s raw (channelAt s m) = none → deliver m raw s = s)
        ∧ (∀ g sat, deliverReading s g sat (channelAt s m) = none → deliverGauge m g sat s = s))
    ∧ (∀ (s : State) (m n : Nat) (v : Int) (k : Mark), holdsAnchor s n = true →
        let b := bindingOf s n
        let seats (u : State) : Prop := (stressAt u n).mode = .locking ∧ (workOf u n).progress = some .seating
        let forced := if b.force = m then forceSample n v k s else s
        let stretched := if b.extension = m then extensionSample n v forced else forced
        (b.force = m → b.extension ≠ m → b.seat ≠ m → stressSample m n v k s = forceSample n v k s)
          ∧ (b.force ≠ m → b.extension = m → b.seat ≠ m → stressSample m n v k s = extensionSample n v s)
          ∧ (b.force ≠ m → b.extension ≠ m → b.seat ≠ m → stressSample m n v k s = s)
          ∧ (b.seat = m → seats s → seats stretched → stressSample m n v k s = seatSample n v stretched)
          ∧ (b.seat = m → ¬seats s ∨ ¬seats stretched → stressSample m n v k s = stretched))
    ∧ ∀ (s : State) (m x : Nat) (v : Int), (∀ c, (classifierAt s x).config = some c → c.watched ≠ m) →
        classifierSample m v s x = s)

/-- R38, R39: at a tick, a FRESH channel whose age exceeds its stale limit becomes STALE and keeps its value, mark,
stamp, total, last raw value and saturated item, as every other channel and every table stays as it is; the change is
presented to its readers, which leave the configuration of the part, the converter's results, the ring and the poll
list as they were. The order of the readers within the change is log 3, and that it comes right after the tick
advance, as a due row, is log 2. At its stale limit or below a channel stays FRESH: that CHANNEL_STALE, commanded
there, changes nothing is the model's choice (DESIGN CHOICE, log 14). R32, R83, R119, R139, R144: the change reaches
the stressing channels and the placement unit; a classifier of the channel becomes QUIET with no start tick and no
event; a CHANNEL counter of it clears previous-qualified; and every other classifier and counter stays as it is. -/
def Obligations.ChannelStaleKeepsTheValue : Prop :=
  (∀ (s : State) (m : Nat), m < 24 →
    (s.tickOpen = true → (channelAt s m).fresh = true →
        staleLimit (channelAt s m).config < (now s - (channelAt s m).stamp.getD 0).toNat →
        ∃ t, exec (.channelStale m) s = .next t
          ∧ t = runPass (presentStale m (s.onChannel m fun c => { c with fresh := false }))
          ∧ t.measure = (s.onChannel m fun c => { c with fresh := false }).measure
          ∧ channelAt t m = { channelAt s m with fresh := false }
          ∧ ReaderFrame (s.onChannel m fun c => { c with fresh := false }) t)
      ∧ ((now s - (channelAt s m).stamp.getD 0).toNat ≤ staleLimit (channelAt s m).config →
          exec (.channelStale m) s = .next s))
    ∧ (∀ (s : State) (m : Nat),
    let t := presentStale m s
    let units := placementStale m ([0, 1, 2, 3].foldl (fun u n => stressStale m n u) s)
    t.anchorTable = units.anchorTable ∧ t.stress = units.stress ∧ t.placement = units.placement ∧ t.log = units.log
      ∧ t.sched = units.sched ∧ t.gauge = units.gauge ∧ t.measure = s.measure ∧ t.passDue = units.passDue
      ∧ (∀ x, x < 4 → (∃ c, (classifierAt s x).config = some c ∧ c.watched = m) →
          classifierAt t x = { classifierAt s x with mode := .quiet, start := none })
      ∧ (∀ x, (∀ c, (classifierAt s x).config = some c → c.watched ≠ m) → classifierAt t x = classifierAt s x)
      ∧ (∀ q, q < 8 → (∃ h i e, (counterAt s q).source = some (.channel m h i e)) →
          counterAt t q = { counterAt s q with previous := false })
      ∧ (∀ q, (∀ h i e, (counterAt s q).source ≠ some (.channel m h i e)) → counterAt t q = counterAt s q)
      ∧ t.trip.frozen = s.trip.frozen)

/-! ### Lift-off cells (03) -/

/-- R45, R59: CONFIG_CELL, with the measurement in service on the cell aborted, its last result with the T in use, a
reused one too (DEDUCED, log 27). R57, R46: MEASURE_CELL joins or creates the pending request of a configured cell.
R47: an IDLE converter searches at once at the arrival of the request, and after an abort when the cell has taken its
new configuration; what the search does is said in MeasurementsStartAndReferencesEnd. -/
def Obligations.CellRequestsConfigureAndJoin : Prop :=
  (∀ (s : State) (tag c : Nat) (cfg : Option CellConfig), takesNow s →
    (3 < c → exec (.configCell tag c cfg) s = .next (refused tag 0x28 .badValue s))
      ∧ (c ≤ 3 → cellInUse s c = true → exec (.configCell tag c cfg) s = .next (refused tag 0x28 .inUse s))
      ∧ (c ≤ 3 → cellInUse s c = false → (∃ k, cfg = some k ∧ cellConfigInRange k = false) →
          exec (.configCell tag c cfg) s = .next (refused tag 0x28 .badValue s))
      ∧ (c ≤ 3 → cellInUse s c = false → (∀ k, cfg = some k → cellConfigInRange k = true) →
          let survey : Option Word32 :=
            match cfg with
            | some k => if k.surveyPeriod = 0 then none else some (now s + BitVec.ofNat 32 k.surveyPeriod)
            | none => none
          let cell (last : Option LastResult) (k : Cell) : Cell :=
            { config := cfg, storedT := none, nextSurvey := survey
              pending := if cfg = none then none else k.pending, last := last }
          (s.gauge.cell ≠ some c →
            exec (.configCell tag c cfg) s = .next (answered tag 0x28 none []
              (s.onCell c fun k => cell k.last k)))
          ∧ (s.gauge.cell = some c →
            exec (.configCell tag c cfg) s = .next (answered tag 0x28 none []
              (searchCells ((s.onGauge fun g =>
                { g with phase := .idle, cell := none, inService := none, timeT := none, reused := false }).onCell c
                fun k => cell (some
                  { outcome := .aborted, endTick := now s, reused := s.gauge.reused, t := s.gauge.timeT, m := none
                    g := none, saturated := none, served := s.gauge.inService.getD (newRequest 0) }) k))))))
    ∧ (∀ (s : State) (tag c : Nat) (r : ReferenceChoice), takesNow s →
    (3 < c ∨ (cellAt s c).config = none → exec (.measureCell tag c r) s = .next (refused tag 0x29 .badValue s))
      ∧ (c ≤ 3 → (cellAt s c).config ≠ none → (cellAt s c).pending = none →
          exec (.measureCell tag c r) s = .next (answered tag 0x29 none []
            (searchCells (s.onCell c fun k => { k with pending := some ⟨[], true, false, (r == .fresh), now s⟩ }))))
      ∧ (∀ q, c ≤ 3 → (cellAt s c).config ≠ none → (cellAt s c).pending = some q →
          exec (.measureCell tag c r) s = .next (answered tag 0x29 none []
            (searchCells (s.onCell c fun k =>
              { k with
                pending := some { q with station := true, freshReference := q.freshReference || (r == .fresh) } })))))

/-- R47, R48, R51: the search: a converter at work, or one with no pending request anywhere, stays as it is, and one that
stays IDLE after it has none; an IDLE one takes the first cell with a pending request after its pointer, entering
REFERENCE, or SENSING where the stored T may be used again. MEASUREMENT_START makes this search, and where there is
nothing to start it changes nothing (DESIGN CHOICE, log 14). R56, R47: a survey falls due at its tick, joins the pending
request, moves on by its period and lets an IDLE converter search at once. R48: the normal end of a reference phase
stores T with its tick and enters SENSING (a T of 0 is said in SensingPhasesEnd). The phase counts at the starts are log
7. That the search stands within the arrival of a request, so that MEASUREMENT_START as a row of its own finds nothing
to start in a run, and that a T of 0 begun by it ends in the same command, is the model's choice (DESIGN CHOICE, log 2). -/
def Obligations.MeasurementsStartAndReferencesEnd : Prop :=
  (∀ s : State,
    let idles : Prop := s.gauge.phase ≠ .idle ∨ ∀ c, c < 4 → (cellAt s c).pending = none
    (idles → searchCells s = s ∧ exec .measurementStart s = .next s)
      ∧ ((searchCells s).gauge.phase = .idle → searchCells s = s ∧ ∀ c, c < 4 → (cellAt s c).pending = none)
      ∧ ∀ (i : Nat) (q : CellRequest) (cfg : CellConfig), s.gauge.phase = .idle →
        1 ≤ i → i ≤ 4 → (∀ j, 1 ≤ j → j < i → (cellAt s ((s.gauge.pointer + j) % 4)).pending = none) →
        let c := (s.gauge.pointer + i) % 4
        (cellAt s c).pending = some q → (cellAt s c).config = some cfg →
        let taken := (s.onCell c fun k => { k with pending := none }).onGauge fun g =>
          { g with cell := some c, inService := some q, pointer := c }
        let reference := taken.onGauge fun g =>
          { g with phase := .reference, timeT := none, mcCount := 65536 - cfg.nRef, tcCount := 0, reused := false }
        let sensing (t : Nat) : State := taken.onGauge fun g =>
          { g with phase := .sensing, timeT := some t, mcCount := 0, tcCount := t, reused := true }
        ((∀ t stamp, (cellAt s c).storedT = some (t, stamp) →
            cfg.reuseAge = 0 ∨ cfg.reuseAge ≤ (now s - stamp).toNat ∨ q.freshReference = true) →
          searchCells s = reference ∧ (s.passDue = false → exec .measurementStart s = .next reference))
        ∧ (∀ t stamp, (cellAt s c).storedT = some (t, stamp) → 0 < cfg.reuseAge →
            (now s - stamp).toNat < cfg.reuseAge → q.freshReference = false →
            searchCells s = sensing t ∧ exec .measurementStart s = .next (runPass (endEmpty (sensing t)))
              ∧ (s.passDue = false → t ≠ 0 → exec .measurementStart s = .next (sensing t))))
    ∧ (∀ (s : State) (c : Nat) (cfg : CellConfig), c < 4 → s.tickOpen = true → s.passDue = false →
      (cellAt s c).config = some cfg → (cellAt s c).nextSurvey = some (now s) →
      exec (.surveyRequest c) s = .next (searchCells (s.onCell c fun k =>
        { k with
          nextSurvey := some (now s + BitVec.ofNat 32 cfg.surveyPeriod)
          pending := some { (k.pending.getD ⟨[], false, false, false, now s⟩) with survey := true } })))
    ∧ (∀ (s : State) (c : Nat), quiet s = true → c < 4 → s.gauge.phase = .reference → s.gauge.cell = some c →
      ∀ t, 0 < t → t < 1048576 →
        exec (.referenceEnd t) s = .next ((s.onCell c fun k => { k with storedT := some (t, now s) }).onGauge fun g =>
          { g with phase := .sensing, timeT := some t, mcCount := 0, tcCount := t, reused := false }))

/-- R49, R50, R52, R53, R31: the normal end of a sensing phase with enough counts writes a READING into the last
result and delivers it to a GAUGE output channel; too few counts are SENSE_LOW and a count past 65,535 SENSE_HIGH, and
an abnormal end of the reference phase, which loses the stored T, is REF_LOST: these deliver nothing. R53, R54, R143:
each channel that waits for the measurement in service gets its outcome: READING with G and the output channel's
value, mark and stamp after the delivery, NO_CHANNEL where the output is no GAUGE channel, or REF_LOST, SENSE_LOW or
SENSE_HIGH; and each of these three ends presents exactly one GAUGE_FAULT (after the outcomes, which is DESIGN CHOICE,
log 3; the counts that stand afterwards are log 7). R52, R47: when the requesters have been served the converter
becomes IDLE and makes the search, as the last act of the end; what is requested meanwhile waits for it. R49: a T of 0
ends its sensing phase at once with m = 0, SENSE_LOW, within the command that ends the phase before it, and otherwise as
the first row that falls due (DESIGN CHOICE, log 2). -/
def Obligations.SensingPhasesEnd : Prop :=
  (∀ (s : State) (c : Nat) (cfg : CellConfig), c < 4 → s.gauge.cell = some c → (cellAt s c).config = some cfg →
    let waiting := [0, 1, 2, 3].filter fun n => (s.gauge.inService.getD (newRequest 0)).waiting.contains n
    let last (o : MeasureEnd) : LastResult :=
      { outcome := o, endTick := now s, reused := s.gauge.reused, t := s.gauge.timeT, m := none, g := none
        saturated := none, served := s.gauge.inService.getD (newRequest 0) }
    let stored := (cellAt s c).storedT
    let written (tc mc : Nat) (storedT : Option (Nat × Word32)) (r : LastResult) : State :=
      (s.onCell c fun k => { k with storedT := storedT, last := some r }).onGauge fun g =>
        { g with tcCount := tc, mcCount := mc }
    let failed (o : CellOutcome) (u : State) : State :=
      observe .gaugeFault (waiting.foldl (fun v n => cellOutcome o none v n) u)
    let closed (u : State) : State := searchCells (u.onGauge fun g =>
      { g with phase := .idle, cell := none, inService := none, timeT := none, reused := false })
    (quiet s = true →
      (s.gauge.phase = .reference → ∀ mc, mc < 65536 →
        exec (.refLost mc) s =
          .next (runPass (endEmpty (closed (failed .refLost (written 1048576 mc none (last .refLost)))))))
      ∧ (s.gauge.phase = .reference →
        exec (.referenceEnd 0) s = .next (runPass (endEmpty
          ((s.onCell c fun k => { k with storedT := some (0, now s) }).onGauge fun g =>
            { g with phase := .sensing, timeT := some 0, mcCount := 0, tcCount := 0, reused := false }))))
      ∧ (s.gauge.phase = .sensing → ∀ m, m < 65536 → m < cfg.mMin →
        exec (.sensingEnd m) s = .next (runPass (endEmpty
          (closed (failed .senseLow (written 0 m stored { last .senseLow with m := some m }))))))
      ∧ (s.gauge.phase = .sensing → ∀ tc, tc < 1048576 →
        exec (.senseHigh tc) s =
          .next (runPass (endEmpty (closed (failed .senseHigh (written tc 0 stored (last .senseHigh)))))))
      ∧ (s.gauge.phase = .sensing → ∀ m, m < 65536 → cfg.mMin ≤ m →
        let exact := m * m * 10000 / (cfg.nRef * cfg.nRef)
        let g := min 65535 exact
        let sat := decide (65535 < exact)
        let begun := written 0 m stored { last .reading with m := some m, g := some g, saturated := some sat }
        let delivered := deliverGauge cfg.output g sat begun
        let c' := channelAt delivered cfg.output
        let served := waiting.foldl (fun u n => cellOutcome .reading (some
          { g := g, value := c'.value.getD 0, mark := c'.mark.getD .within, stamp := c'.stamp.getD 0 }) u n) delivered
        ((∃ t l, (channelAt s cfg.output).config = .gauge t l) →
            exec (.sensingEnd m) s = .next (runPass (endEmpty (closed served)))
              ∧ (cellAt served c).last = (cellAt begun c).last ∧ (cellAt served c).storedT = stored
              ∧ (cfg.output < 24 → (channelAt served cfg.output).stamp = some (now s)
                ∧ (channelAt served cfg.output).fresh = true
                ∧ (channelAt served cfg.output).lastRaw = some (BitVec.ofNat 32 g)))
          ∧ ((∀ t l, (channelAt s cfg.output).config ≠ .gauge t l) →
            exec (.sensingEnd m) s = .next (runPass (endEmpty (closed
              (waiting.foldl (fun u n => cellOutcome .noChannel none u n) begun)))))))
      ∧ (∀ (o : CellOutcome) (u : State), (failed o u).measure = u.measure ∧ ReaderFrame u (failed o u))
      ∧ (s.gauge.phase = .sensing → s.gauge.timeT = some 0 → 0 < cfg.mMin →
        (∀ k, endEmptyFor (k + 1) s = endEmptyFor k
            (closed (failed .senseLow (written 0 0 stored { last .senseLow with m := some 0 }))))
          ∧ nextDue s = some .emptySensing ∧ effect s .emptySensing = endEmpty s))
    ∧ ∀ s : State, endEmpty s = endEmptyFor 5 s ∧ endEmptyFor 0 s = s
        ∧ (s.gauge.phase ≠ .sensing ∨ s.gauge.timeT ≠ some 0 → ∀ k, endEmptyFor k s = s)

/-! ### Stressing channels (04, 05) -/

/-- R62, R165: BIND_CHANNEL, its checks in their order; the channel is IDLE with its binding, its jack node is owned
by it and the node it held before is released; a channel that was UNBOUND, or whose auto-take is newly set, starts a
hand-out pass. -/
def Obligations.BindChannelTakesTheBinding : Prop :=
  ∀ (s : State) (tag n : Nat) (b : Binding) (auto : Bool), takesNow s →
    let polled (m : Nat) : Prop :=
      (∃ t l, (channelAt s m).config = .calibrated t l) ∨ ∃ a d o l, (channelAt s m).config = .scaled a d o l
    let inRange : Prop :=
      1 ≤ b.jack ∧ b.jack ≤ 62 ∧ b.force ≤ 23 ∧ b.extension ≤ 23 ∧ b.seat ≤ 23 ∧ b.cell ≤ 3
        ∧ 1 ≤ b.stroke ∧ b.stroke ≤ 2147483647 ∧ b.force ≠ b.extension
    let free : Prop := ownerOf s b.jack = none ∨ ownerOf s b.jack = some (.sc n)
    let released : State :=
      match (stressAt s n).binding with
      | some old => if old.jack = b.jack then s else s.setOwner old.jack none
      | none => s
    let bound : State := (released.setOwner b.jack (some (.sc n))).onStress n fun c =>
      { c with mode := .idle, binding := some b, autoTake := auto }
    let newly : Prop := (stressAt s n).mode = .unbound ∨ (auto = true ∧ (stressAt s n).autoTake = false)
    (3 < n → exec (.bindChannel tag n b auto) s = .next (refused tag 0x30 .badValue s))
      ∧ (n ≤ 3 → holdsAnchor s n = true → exec (.bindChannel tag n b auto) s = .next (refused tag 0x30 .busy s))
      ∧ (n ≤ 3 → holdsAnchor s n = false → ¬(inRange ∧ polled b.force ∧ polled b.extension ∧ polled b.seat) →
          exec (.bindChannel tag n b auto) s = .next (refused tag 0x30 .badValue s))
      ∧ (n ≤ 3 → holdsAnchor s n = false → inRange → polled b.force → polled b.extension → polled b.seat → ¬free →
          exec (.bindChannel tag n b auto) s = .next (refused tag 0x30 .inUse s))
      ∧ (n ≤ 3 → holdsAnchor s n = false → inRange → polled b.force → polled b.extension → polled b.seat → free →
          ownerOf bound b.jack = some (.sc n)
            ∧ (newly → exec (.bindChannel tag n b auto) s = .next
                (afterPass (answered tag 0x30 none [] bound.startPass)))
            ∧ (¬newly → exec (.bindChannel tag n b auto) s = .next (answered tag 0x30 none [] bound)))

/-- R63: UNBIND_CHANNEL; no command is presented to the jack. -/
def Obligations.UnbindChannelReleasesTheJack : Prop :=
  ∀ (s : State) (tag n : Nat), takesNow s →
    (3 < n → exec (.unbindChannel tag n) s = .next (refused tag 0x31 .badValue s))
      ∧ (n ≤ 3 → (stressAt s n).mode = .unbound →
          exec (.unbindChannel tag n) s = .next (refused tag 0x31 .notFound s))
      ∧ (n ≤ 3 → holdsAnchor s n = true → exec (.unbindChannel tag n) s = .next (refused tag 0x31 .busy s))
      ∧ (∀ b, n ≤ 3 → (stressAt s n).mode = .idle → (stressAt s n).binding = some b →
          exec (.unbindChannel tag n) s = .next (answered tag 0x31 none []
            ((s.setOwner b.jack none).onStress n fun c =>
              { c with mode := .unbound, binding := none, autoTake := false }))
          ∧ ownerOf (s.setOwner b.jack none) b.jack = none)

/-- R64: SET_AUTO_TAKE; setting it on an IDLE channel starts a hand-out pass. -/
def Obligations.SetAutoTakeTakesTheChoice : Prop :=
  ∀ (s : State) (tag n : Nat) (auto : Bool), takesNow s →
    exec (.setAutoTake tag n auto) s = .next (
      if 3 < n then refused tag 0x32 .badValue s
      else if (stressAt s n).mode = .unbound then refused tag 0x32 .notFound s
      else if auto = true ∧ (stressAt s n).mode = .idle then
        afterPass (answered tag 0x32 none [] (s.onStress n fun c => { c with autoTake := auto }).startPass)
      else answered tag 0x32 none [] (s.onStress n fun c => { c with autoTake := auto }))

/-- R67, R25: START_STRESS, its checks in their order, and the admission of the anchor to the channel (R66). R86,
R107: HALT_CHANNEL halts a channel that holds an anchor at once with cause STATION, and a LOCKING one at the close of
its window, for which it sets the deferred halt mark. -/
def Obligations.StressIsStartedAndHaltedByRequest : Prop :=
  (∀ (s : State) (tag n slot : Nat), takesNow s →
    exec (.startStress tag n slot) s = .next (
      if 3 < n ∨ 95 < slot then refused tag 0x34 .badValue s
      else if s.station.estop = true then refused tag 0x34 .estop s
      else if s.trip.frozen = true then refused tag 0x34 .frozen s
      else if s.ring.state ≠ .up then refused tag 0x34 .busy s
      else if (stressAt s n).mode = .unbound then refused tag 0x34 .notFound s
      else if (stressAt s n).mode ≠ .idle then refused tag 0x34 .busy s
      else if (anchorAt s slot).phase ≠ .ready then refused tag 0x34 .badPhase s
      else if excluded s slot = true then refused tag 0x34 .inUse s
      else if targetsBelow s slot = false then refused tag 0x34 .badValue s
      else runPass (answered tag 0x34 none [] (admitTo n slot s))))
    ∧ (∀ (s : State) (tag n : Nat), takesNow s →
    (3 < n → exec (.haltChannel tag n) s = .next (refused tag 0x35 .badValue s))
      ∧ (n ≤ 3 → (stressAt s n).mode = .unbound → exec (.haltChannel tag n) s = .next (refused tag 0x35 .notFound s))
      ∧ (n ≤ 3 → (stressAt s n).mode = .idle → exec (.haltChannel tag n) s = .next (refused tag 0x35 .badPhase s))
      ∧ (n ≤ 3 → (stressAt s n).mode = .locking →
          exec (.haltChannel tag n) s = .next (answered tag 0x35 none []
            (s.onWork n fun w => { w with deferredHalt := true })))
      ∧ (n ≤ 3 → (stressAt s n).mode = .running ∨ (stressAt s n).mode = .stalled ∨ (stressAt s n).mode = .frozen →
          exec (.haltChannel tag n) s = .next (afterPass (answered tag 0x35 none [] (haltRun n .station s)))))

/-- R85, R14, R55, R176: everything that the halt of a stressing channel does, and with TestFrame what it leaves. Its
wait leaves the pending request of its cell, which is removed when no requester is left in it, and the requesters in
service; the other requesters, the marks and the requests of the other cells stay. The data of its record is log 11
and not claimed. -/
def Obligations.HaltOfAChannelIsOneChange : Prop :=
  ∀ (s : State) (n : Nat) (cause : HaltCause), n < 4 →
    let b := bindingOf s n
    let slot := slotOf s n
    let t := haltRun n cause s
    (stressAt t n).mode = .idle ∧ workOf t n = Work.clear
      ∧ (∀ m, m ≠ n → stressAt t m = stressAt s m)
      ∧ (∀ i, i ≠ slot → anchorAt t i = anchorAt s i)
      ∧ (slot < 96 → (anchorAt s slot).phase = .stressing →
          anchorAt t slot =
            { anchorAt s slot with phase := .halted, haltedFrom := some .stressing, haltCause := some cause })
      ∧ t.sched.queue = s.sched.queue.filter (fun e => e.node ≠ b.jack)
      ∧ t.sched.priority = priorityWith s b.jack .jackHold (.sc n) s.sched.priority
      ∧ (∀ q, (cellAt t b.cell).pending = some q → n ∉ q.waiting)
      ∧ (∀ q, t.gauge.cell = some b.cell → t.gauge.inService = some q → n ∉ q.waiting)
      ∧ (∀ c, c ≠ b.cell → cellAt t c = cellAt s c)
      ∧ ((cellAt s b.cell).pending = none → cellAt t b.cell = cellAt s b.cell)
      ∧ (∀ q, (cellAt s b.cell).pending = some q → n ∉ q.waiting → cellAt t b.cell = cellAt s b.cell)
      ∧ (b.cell < 4 → ∀ q, (cellAt s b.cell).pending = some q → n ∈ q.waiting →
          let others := q.waiting.filter fun w => w ≠ n
          cellAt t b.cell =
            { cellAt s b.cell with
              pending := if others = [] ∧ q.station = false ∧ q.survey = false then none
                else some { q with waiting := others } })
      ∧ t.gauge.inService = (if s.gauge.cell = some b.cell then
          s.gauge.inService.map fun q => { q with waiting := q.waiting.filter fun w => w ≠ n } else s.gauge.inService)
      ∧ (∃ r : LogRecord,
          r.tick = now s ∧ r.unit = n ∧ r.slot = slot ∧ r.detail = causeDetail cause
            ∧ (r.kind = .halt ↔ cause = .station ∨ cause = .estop ∨ cause = .ring ∨ cause = .restart)
            ∧ (r.kind = .halt ∨ r.kind = .fault)
            ∧ t.log = if occupancy s.log + recordLength r ≤ 2048 then appendRecord r s.log
                else { s.log with overrun := true })
      ∧ t.passDue = true ∧ sameConverter s.gauge t.gauge ∧ TestFrame s t

/-- R81, R82, R83, R84: the class-B events of a channel's own measurements halt its test, with the force limit of the
anchor, the stroke limit of the binding and the freshness of its channels; a channel without an anchor takes none. -/
def Obligations.MeasurementFaultsHaltTheTest : Prop :=
  ∀ (s : State) (n m : Nat) (v : Int) (k : Mark) (cause : HaltCause),
    (holdsAnchor s n = true → ((designOf s (slotOf s n)).hardLimit : Int) < v →
        forceSample n v k s = haltRun n .overload s)
      ∧ (holdsAnchor s n = true → ((bindingOf s n).stroke : Int) < v → extensionSample n v s = haltRun n .strokeOut s)
      ∧ (holdsAnchor s n = true →
          (bindingOf s n).force = m ∨ (bindingOf s n).extension = m
            ∨ ((bindingOf s n).seat = m ∧ (stressAt s n).mode = .locking
              ∧ (workOf s n).progress = some .seating) →
          stressStale m n s = haltRun n .sensorStale s)
      ∧ (holdsAnchor s n = true → (bindingOf s n).force ≠ m → (bindingOf s n).extension ≠ m →
          (bindingOf s n).seat ≠ m ∨ (stressAt s n).mode ≠ .locking ∨ (workOf s n).progress ≠ some .seating →
          stressStale m n s = s)
      ∧ (holdsAnchor s n = true → haltStress n cause s = haltRun n cause s)
      ∧ (holdsAnchor s n = false → stressSample m n v k s = s ∧ stressStale m n s = s ∧ haltStress n cause s = s)

/-- R72, R73, R74: a force sample of a LOAD_TO or UNLOAD_TO step: the motion it wants by the force, JACK_HOLD for an
unconfirmed one, and the completion of the step with its point, at a confirmed sample in the band once hold reached is
set and JACK_HOLD commanded. R71, R73: a wanted motion is presented when it differs from the commanded one, becomes it
when the queue takes it, and sets hold reached when it is the JACK_HOLD of a RUNNING step that seeks a target (log
15). R76, R91, R98: load maintenance of HOLD_SETTLE and HOLD_CREEP, which presents nothing within its band, whatever
motion is recorded (DESIGN CHOICE, log 30, where R179 has made it absent), and JACK_HOLD in CELL_CHECK. R68, R69: the
choice and the start judgment on the value as it stands, while the channel is FRESH (log 16; hold reached at the start
is log 15). -/
def Obligations.MovesChooseAndComplete : Prop :=
  (∀ (s : State) (n : Nat) (p : MoveParams) (f : Int) (k : Mark), (stressAt s n).mode = .running →
    f ≤ (designOf s (slotOf s n)).hardLimit →
    let target := targetOf s n
    let tol := toleranceOf s n
    let inBand : Prop := k = .within ∧ (workOf s n).holdReached = true ∧ (workOf s n).commanded = some .hold
      ∧ target - tol ≤ f ∧ f ≤ target + tol
    let point := (f, valueOf s (bindingOf s n).extension)
    (stepOf s n = .loadTo p → inBand →
        forceSample n f k s = settleStep 25 n (s.onWork n fun w => { w with lastLoaded := some point }, .completes false))
      ∧ (stepOf s n = .unloadTo p → inBand →
          forceSample n f k s =
            settleStep 25 n (s.onWork n fun w => { w with lastUnloaded := some point }, .completes false))
      ∧ (stepOf s n = .loadTo p → ¬inBand →
          forceSample n f k s = wantMotion n
            (if k ≠ .within then .hold
              else if f < target - p.approach then .advance p.speed else if f < target - tol then .advance 1 else .hold)
            (if k = .within ∧ target + tol < f then s.onWork n fun w => { w with overshoot := true } else s))
      ∧ (stepOf s n = .unloadTo p → ¬inBand →
          forceSample n f k s = wantMotion n
            (if k ≠ .within then .hold
              else if target + p.approach < f then .retract p.speed
              else if target + tol < f then .retract 1 else .hold)
            (if k = .within ∧ f < target - tol then s.onWork n fun w => { w with overshoot := true } else s)))
    ∧ (∀ (s : State) (n : Nat) (m : Motion),
    let jack := (bindingOf s n).jack
    let command : Command := match m with
      | .advance v => .jackAdvance v
      | .retract v => .jackRetract v
      | .hold => .jackHold
    let seeks : Bool := (stressAt s n).mode == .running
      && (stepIsMove (stepOf s n) || (workOf s n).progress == some .approach)
    ((workOf s n).commanded = some m → wantMotion n m s = s)
      ∧ ((workOf s n).commanded ≠ some m → queueTakes s jack command = false → wantMotion n m s = s)
      ∧ ((workOf s n).commanded ≠ some m → queueTakes s jack command = true →
          wantMotion n m s = (present jack command (.sc n) s).onWork n fun w =>
            { w with commanded := some m, holdReached := w.holdReached || (m == .hold && seeks) }))
    ∧ ((∀ (s : State) (n : Nat) (f : Int) (ok : Bool),
    let w := workOf s n
    (∀ p, stepOf s n = .loadTo p → choose n f ok s = wantMotion n
        (if ok = false then .hold
          else if f < targetOf s n - p.approach then .advance p.speed
          else if f < targetOf s n - toleranceOf s n then .advance 1 else .hold) s)
      ∧ (∀ p, stepOf s n = .unloadTo p → choose n f ok s = wantMotion n
          (if ok = false then .hold
            else if targetOf s n + p.approach < f then .retract p.speed
            else if targetOf s n + toleranceOf s n < f then .retract 1 else .hold) s)
      ∧ (∀ h t, stepOf s n = .holdSettle h → w.target = some t → w.direction = some .load → choose n f ok s =
          if ok = true ∧ f < t - h.loadTolerance then wantMotion n (.advance 1) s
          else if ok = true ∧ f < t then s else wantMotion n .hold s)
      ∧ (∀ h t, stepOf s n = .holdSettle h → w.target = some t → w.direction = some .unload → choose n f ok s =
          if ok = true ∧ t + h.loadTolerance < f then wantMotion n (.retract 1) s
          else if ok = true ∧ t < f then s else wantMotion n .hold s)
      ∧ (∀ h, stepOf s n = .holdSettle h → w.target = none → choose n f ok s = wantMotion n .hold s)
      ∧ (∀ h, stepOf s n = .holdCreep h → choose n f ok s =
          if ok = true ∧ f < creepTarget s n - h.loadTolerance then wantMotion n (.advance 1) s
          else if ok = true ∧ f < creepTarget s n then s else wantMotion n .hold s)
      ∧ (∀ before p after, (classOf s (slotOf s n)).procedure.take (stepNumber s n - 1) = before ++ .loadTo p :: after →
          (∀ q ∈ after, stepIsLoad q = false) →
          creepTarget s n = ((designOf s (slotOf s n)).workingLoad * p.target / 1000 : Nat))
      ∧ (stepOf s n = .cellCheck → choose n f ok s = wantMotion n .hold s)
      ∧ (stepOf s n = .apparent ∨ stepOf s n = .finish → choose n f ok s = s)
      ∧ ((∃ h, stepOf s n = .holdSettle h) ∨ (∃ h, stepOf s n = .holdCreep h) ∨ stepOf s n = .cellCheck →
          (stressAt s n).mode = .running → f ≤ (designOf s (slotOf s n)).hardLimit →
          ∀ k, forceSample n f k s = choose n f (k == .within) s))
    ∧ (∀ (s : State) (n : Nat),
    let m := (bindingOf s n).force
    let f := valueOf s m
    let ok := markOf s m == .within
    (isFresh s m = false → chooseStanding n s = s)
      ∧ (isFresh s m = true → chooseStanding n s = choose n f ok s)
      ∧ (isFresh s m = true → (∃ p, stepOf s n = .loadTo p ∨ stepOf s n = .unloadTo p) →
          startJudgment n s = (choose n f ok
            (if (workOf s n).commanded = some .hold
                ∧ (if stepIsLoad (stepOf s n) = true then targetOf s n - toleranceOf s n ≤ f
                  else f ≤ targetOf s n + toleranceOf s n) then
              s.onWork n fun w => { w with holdReached := true } else s), .goesOn))
      ∧ (isFresh s m = true → (∃ h, stepOf s n = .holdSettle h) ∨ (∃ h, stepOf s n = .holdCreep h) →
          startJudgment n s = (choose n f ok s, .goesOn))
      ∧ (isFresh s m = false →
          (∃ p, stepOf s n = .loadTo p ∨ stepOf s n = .unloadTo p) ∨ (∃ h, stepOf s n = .holdSettle h)
            ∨ (∃ h, stepOf s n = .holdCreep h) → startJudgment n s = (s, .goesOn))))

/-- R70, R79, R89, R69: a step that has ended writes its STEP record, or holds it, stalls the channel and wants
JACK_HOLD where the log takes no ordinary record; the first failure's cause stays pending; and the next step, or the
class's reject exit after a failure, starts: all that belongs to a step is cleared, the approach of a LOCKOFF begins,
a LOAD_TO or UNLOAD_TO sets the target items, and everything else of the working data is kept. R70, R69, R88: a
judgment's result is carried out so: a step that goes on is left as it is; after one that has ended, the next step
gets its start judgment at once where the channel is still RUNNING, whose own result is carried out in the same way,
or owes it where the channel has stalled. -/
def Obligations.EndedStepsWriteAndStartTheNext : Prop :=
  (∀ (s : State) (n : Nat) (e : StepEnd), n < 4 → (stressAt s n).mode = .running → e ≠ .goesOn →
    let t := endStep n e s
    let w := workOf s n
    let slot := slotOf s n
    let jack := (bindingOf s n).jack
    let number : Nat :=
      match e, (classOf s slot).rejectExit with
      | .fails _, some x => x
      | _, _ => stepNumber s n + 1
    let next : ProcStep := ((classOf s slot).procedure[number - 1]?).getD .finish
    let target (f : Nat) : Option Int := some ((designOf s slot).workingLoad * f / 1000 : Nat)
    let full : Prop := 2016 ≤ occupancy s.log
    let holds : Prop := full ∧ w.commanded ≠ some .hold ∧ queueTakes s jack .jackHold = true
    (∃ commanded held,
        workOf t n =
          { slot := w.slot, step := some number, elapsed := 0, commanded := commanded, holdReached := false
            target := match next with
              | .loadTo p => target p.target
              | .unloadTo p => target p.target
              | _ => w.target
            tolerance := match next with
              | .loadTo p => some p.tolerance
              | .unloadTo p => some p.tolerance
              | _ => w.tolerance
            direction := match next with
              | .loadTo _ => some .load
              | .unloadTo _ => some .unload
              | _ => w.direction
            lastLoaded := w.lastLoaded, lastUnloaded := w.lastUnloaded, overshoot := false, settle := none
            s1 := none, s2 := none, s2b := none
            progress := match next with
              | .lockoff _ => some .approach
              | _ => none
            approachDirection := none, approachDone := false, approachPoint := none, seatCount := none
            seatElapsed := none, releaseForce := none, releaseElapsed := none, window := 0
            requestOutstanding := false, outcome := none
            pendingCause := match e with
              | .fails c => some (w.pendingCause.getD c)
              | _ => w.pendingCause
            pointCounter := w.pointCounter, deferredFreeze := w.deferredFreeze, deferredHalt := w.deferredHalt
            held := held, startOwing := false }
          ∧ (holds → commanded = some .hold) ∧ (¬holds → commanded = w.commanded)
          ∧ (full → held = some (stepRecord s n e)) ∧ (¬full → held = w.held))
      ∧ (¬full → (stressAt t n).mode = .running ∧ t.log = appendRecord (stepRecord s n e) s.log)
      ∧ (full → (stressAt t n).mode = .stalled ∧ t.log = s.log)
      ∧ (holds → t.sched = (present jack .jackHold (.sc n) s).sched) ∧ (¬holds → t.sched = s.sched)
      ∧ (∀ m, m ≠ n → stressAt t m = stressAt s m) ∧ t.anchorTable = s.anchorTable ∧ t.gauge = s.gauge
      ∧ t.placement = s.placement ∧ t.passDue = s.passDue ∧ TestFrame s t)
    ∧ (∀ (s : State) (n k : Nat), settleStep k n (s, .goesOn) = s
    ∧ ∀ e, e ≠ .goesOn →
        let t := endStep n e s
        ((stressAt t n).mode = .running → settleStep (k + 1) n (s, e) = settleStep k n (startJudgment n t))
          ∧ ((stressAt t n).mode ≠ .running →
              settleStep (k + 1) n (s, e) = t.onWork n fun w => { w with startOwing := true }))

/-- R110, R13: an END step executes at its start judgment, and the test goes no further; END gives the verdict: the
anchor is ACCEPTED, or REJECTED with the pending cause; JACK_HOLD is placed only where it is not commanded already;
one VERDICT record is written as a reserve record; and the channel is IDLE with its working data clear, a hand-out
pass started. -/
def Obligations.EndGivesTheVerdict : Prop :=
  ∀ (s : State) (n : Nat), n < 4 → slotOf s n < 96 →
    let t := giveVerdict n s
    let cause := (workOf s n).pendingCause
    anchorAt t (slotOf s n) =
        { anchorAt s (slotOf s n) with
          phase := if cause = none then .accepted else .rejected, verdictCause := cause }
      ∧ (stressAt t n).mode = .idle ∧ workOf t n = Work.clear ∧ t.passDue = true
      ∧ ((workOf s n).commanded = some .hold → t.sched = s.sched)
      ∧ ((workOf s n).commanded ≠ some .hold →
          t.sched.priority = priorityWith s (bindingOf s n).jack .jackHold (.sc n) s.sched.priority
            ∧ t.sched.queue = s.sched.queue.filter fun e => e.node ≠ (bindingOf s n).jack)
      ∧ (∃ r : LogRecord, r.kind = .verdict ∧ r.tick = now s ∧ r.unit = n ∧ r.slot = slotOf s n
          ∧ r.detail = (match cause with
            | none => 0
            | some c => rejectDetail c)
          ∧ t.log = if occupancy s.log + recordLength r ≤ 2048 then appendRecord r s.log
              else { s.log with overrun := true })
      ∧ t.gauge = s.gauge ∧ TestFrame s t
      ∧ (stepOf s n = .finish →
          startJudgment n s = (t, .goesOn) ∧ ∀ k, settleStep k n (startJudgment n s) = t)

/-- R93, R95, R96, R99, R108: the figures of chapter 05: the creep value rounded to the nearest, halves away from
zero, and saturated; the apparent length rounded in the same way and saturated at 65,535, absent without a span; its
judgment LOW, HIGH or passed (LOW first where the bounds cross, log 25); the cross-check tolerance and the band of the
retained load. R92, R93, R94: the three creep readings, each from a separate sample at or after its observation time
in RUNNING, the value that each decides, and the step's completion or failure. R75, R100: a step past its timeout, the
borrowed one of an approach included, halts the test with LOAD_TIMEOUT. -/
def Obligations.FiguresAndTimeLimitsJudgeTheTest : Prop :=
  ((∀ (later earlier : Int) (logratio : Nat), 0 < logratio →
      let exact := (later - earlier) * 1000
      let v := creepValue later earlier logratio
      (-2147483648 ≤ v ∧ v ≤ 2147483647)
        ∧ (-2147483648 < v → v < 2147483647 → 2 * (v * logratio - exact).natAbs ≤ logratio
            ∧ (2 * (v * logratio - exact).natAbs = logratio → exact.natAbs ≤ (v * logratio).natAbs))
        ∧ (v = -2147483648 → 2 * exact ≤ 2 * v * logratio + logratio)
        ∧ (v = 2147483647 → 2 * v * logratio - logratio ≤ 2 * exact))
    ∧ (∀ (w : Work) (hi lo : Int × Int), (w.lastLoaded = none ∨ w.lastUnloaded = none → apparentSpan w = none)
        ∧ (w.lastLoaded = some hi → w.lastUnloaded = some lo → apparentSpan w = some (hi.1 - lo.1, hi.2 - lo.2)))
    ∧ (∀ (d : Design) (c : ClassDef) (dp ds : Int),
        let exact : Int := (d.strands * c.area * c.modulus : Nat) * ds
        apparentLength d c none = none ∧ (dp < c.minSpan → apparentLength d c (some (dp, ds)) = none)
          ∧ ((c.minSpan : Int) ≤ dp → ds ≤ 0 → apparentLength d c (some (dp, ds)) = some 0)
          ∧ ((c.minSpan : Int) ≤ dp → 0 < dp → 0 < ds → ∃ l : Nat, apparentLength d c (some (dp, ds)) = some l
              ∧ l ≤ 65535 ∧ 2 * (l * (100 * dp)) ≤ 2 * exact + 100 * dp
              ∧ (l < 65535 → 2 * exact < 2 * (l * (100 * dp)) + 100 * dp)))
    ∧ (∀ (d : Design) (c : ClassDef) (l : Nat),
        let low := d.freeLength * c.lowerFactor / 1000
        let high := d.freeLength + d.bondLength * c.bondFactor / 1000
        (apparentEnd d c (some l) = .completes false ↔ low ≤ l ∧ l ≤ high)
        ∧ (apparentEnd d c (some l) = .fails .apparentLow ↔ l < low)
        ∧ (apparentEnd d c (some l) = .fails .apparentHigh ↔ low ≤ l ∧ high < l)
        ∧ apparentEnd d c none = .fails .noSpan)
    ∧ (∀ (s : State) (n : Nat), stepOf s n = .apparent →
        let d := designOf s (slotOf s n)
        let c := classOf s (slotOf s n)
        let l := apparentLength d c (apparentSpan (workOf s n))
        (l = none → startJudgment n s = (s, .fails .noSpan))
          ∧ ∀ v, l = some v → startJudgment n s =
              (s.onAnchor (slotOf s n) fun a => { a with lApp := some v }, apparentEnd d c (some v)))
    ∧ ∀ (c : ClassDef) (jack l : Int), 0 ≤ l → c.tolLow ≤ 1000 →
        crossTolerance c jack = max c.crossAbsolute (jack.natAbs * c.crossRelative / 1000)
          ∧ retainedLow c l = l * (1000 - c.tolLow) / 1000 ∧ retainedHigh c l = l * (1000 + c.tolHigh) / 1000)
    ∧ (∀ (s : State) (n : Nat) (p : CreepParams) (v : Int), holdsAnchor s n = true → v ≤ (bindingOf s n).stroke →
    stepOf s n = .holdCreep p →
    let w := workOf s n
    let primary (a : Int × Nat) : State :=
      (s.onWork n fun w => { w with s2 := some (v, w.elapsed) }).onAnchor (slotOf s n) fun r =>
        { r with ksPrimary := some (creepValue v a.1 p.logratio) }
    let secondary (b : Int × Nat) (e : CreepExtension) : State :=
      (s.onWork n fun w => { w with s2b := some (v, w.elapsed) }).onAnchor (slotOf s n) fun r =>
        { r with ksExtension := some (creepValue v b.1 e.logratio) }
    ((stressAt s n).mode ≠ .running → extensionSample n v s = s)
      ∧ ((stressAt s n).mode = .running →
        (w.s1 = none → w.elapsed < p.t1 → extensionSample n v s = s)
        ∧ (w.s1 = none → p.t1 ≤ w.elapsed →
            extensionSample n v s = s.onWork n fun w => { w with s1 := some (v, w.elapsed) })
        ∧ (∀ a, w.s1 = some a → w.s2 = none → w.elapsed < p.t2 → extensionSample n v s = s)
        ∧ (∀ a, w.s1 = some a → w.s2 = none → p.t2 ≤ w.elapsed →
            (creepValue v a.1 p.logratio ≤ p.limit →
              extensionSample n v s = settleStep 25 n (primary a, .completes false))
            ∧ (p.limit < creepValue v a.1 p.logratio → p.extension = none →
              extensionSample n v s = settleStep 25 n (primary a, .fails .creep))
            ∧ (p.limit < creepValue v a.1 p.logratio → p.extension ≠ none → extensionSample n v s = primary a))
        ∧ (∀ a b e, w.s1 = some a → w.s2 = some b → p.extension = some e →
            (w.elapsed < e.t2b → extensionSample n v s = s)
            ∧ (e.t2b ≤ w.elapsed → creepValue v b.1 e.logratio ≤ p.limit →
              extensionSample n v s = settleStep 25 n (secondary b e, .completes false))
            ∧ (e.t2b ≤ w.elapsed → p.limit < creepValue v b.1 e.logratio →
              extensionSample n v s = settleStep 25 n (secondary b e, .fails .creep)))))
    ∧ (∀ (s : State) (n : Nat), n < 4 → s.tickOpen = true →
    (∀ p : MoveParams, (stressAt s n).mode = .running → stepOf s n = .loadTo p ∨ stepOf s n = .unloadTo p →
        p.timeout ≤ (workOf s n).elapsed → exec (.loadTimeout n) s = .next (afterPass (haltRun n .loadTimeout s)))
      ∧ (∀ p : LockParams, (stressAt s n).mode = .running → stepOf s n = .lockoff p →
          (workOf s n).progress = some .approach → (borrowed s n).timeout ≤ (workOf s n).elapsed →
          exec (.loadTimeout n) s = .next (afterPass (haltRun n .loadTimeout s)))
      ∧ (∀ before p q after, (classOf s (slotOf s n)).procedure.take (stepNumber s n - 1) = before ++ q :: after →
          q = .loadTo p ∨ q = .unloadTo p → (∀ r ∈ after, stepIsMove r = false) → borrowed s n = p))

/-- R100, R101: the approach of a LOCKOFF chooses its direction and its motion, completes at a confirmed sample in the
band, and presents JACK_SEAT until the queue takes it, which opens the window. R102, R103, R104: the seat samples
count the mask, and a full count loads the release window; the releasing sample closes it. R106, R107: the close
applies the deferred freeze and then the deferred halt, and a channel that is not halted requests its cell. R105: a
window that has run out halts the test with the cause of its stage. R97, R98, R99, R108: a cell outcome is recorded in
every state that holds an anchor and judged in RUNNING, at once or at the resume, by the cross-check or by the band of
the retained load. R46, R47: a channel's request of a configured cell joins its pending request, and an IDLE converter
searches at once. R109: the three STAGE records, each written at its moment or dropped; the opening one carries the
force and the extension of the approach's last confirmed sample, kept while JACK_SEAT waits (DEDUCED, log 32), and the
layouts are log 11. R88: an outcome that a channel recorded while it was held is judged first at the resume. The
choices without a sample are log 16, hold reached at the start is log 15. An approach that is complete without a
direction, which no run has, is not claimed. -/
def Obligations.LockOffSeatsReleasesAndReadsTheCell : Prop :=
  (∀ (s : State) (n : Nat) (p : LockParams) (f : Int) (k : Mark), (stressAt s n).mode = .running →
    f ≤ (designOf s (slotOf s n)).hardLimit → stepOf s n = .lockoff p → (workOf s n).progress = some .approach →
    let w := workOf s n
    let b := borrowed s n
    let load : Int := ((designOf s (slotOf s n)).workingLoad * p.factor / 1000 : Nat)
    let pointed := s.onWork n fun w => { w with approachPoint := some (f, valueOf s (bindingOf s n).extension) }
    let ends : Prop := w.holdReached = true ∧ w.commanded = some .hold ∧ load - b.tolerance ≤ f ∧ f ≤ load + b.tolerance
    (w.approachDirection = none → w.approachDone = false → k = .within → forceSample n f k s =
        forceSample n f k (s.onWork n fun w =>
          { w with approachDirection := some (if f ≤ load then .load else .unload) }))
      ∧ (w.approachDone = false → k ≠ .within → forceSample n f k s = wantMotion n .hold s)
      ∧ (w.approachDirection ≠ none → w.approachDone = false → k = .within → ends →
          forceSample n f k s = presentSeat n (pointed.onWork n fun w => { w with approachDone := true }))
      ∧ (w.approachDirection = some .load → w.approachDone = false → k = .within → ¬ends → forceSample n f k s =
          wantMotion n
            (if f < load - b.approach then .advance b.speed else if f < load - b.tolerance then .advance 1 else .hold)
            (if load + b.tolerance < f then pointed.onWork n fun w => { w with overshoot := true } else pointed))
      ∧ (w.approachDirection = some .unload → w.approachDone = false → k = .within → ¬ends → forceSample n f k s =
          wantMotion n
            (if load + b.approach < f then .retract b.speed else if load + b.tolerance < f then .retract 1 else .hold)
            (if f < load - b.tolerance then pointed.onWork n fun w => { w with overshoot := true } else pointed))
      ∧ (w.approachDirection ≠ none → w.approachDone = true →
          forceSample n f k s = presentSeat n (wantMotion n .hold s))
      ∧ (w.approachDone = true → queueTakes s (bindingOf s n).jack .jackSeat = false → presentSeat n s = s)
      ∧ (∀ point, w.approachDone = true → w.approachPoint = some point →
          queueTakes s (bindingOf s n).jack .jackSeat = true →
          let opened := (present (bindingOf s n).jack .jackSeat (.sc n) s).onStress n fun c =>
            { c with
              mode := .locking
              work := { c.work with window := p.seatWindow, progress := some .seating, seatCount := none } }
          let told := writeOrDrop
            { tick := now s, kind := .stage, unit := n, slot := slotOf s n, detail := 0
              data := be 1 (stepNumber s n) ++ putForce point.1 ++ beInt 4 point.2 } opened
          presentSeat n s =
            if isFresh s (bindingOf s n).seat = true then told else haltRun n .sensorStale told))
    ∧ (∀ (s : State) (n : Nat) (p : LockParams) (f : Int) (ok : Bool), stepOf s n = .lockoff p →
    let w := workOf s n
    let b := borrowed s n
    let load : Int := ((designOf s (slotOf s n)).workingLoad * p.factor / 1000 : Nat)
    let directed := s.onWork n fun w => { w with approachDirection := some (if f ≤ load then .load else .unload) }
    (w.progress = some .seating ∨ w.progress = some .retained → choose n f ok s = wantMotion n .hold s)
      ∧ (w.progress = some .releasing → choose n f ok s = wantMotion n (.retract 1) s)
      ∧ (w.progress = some .approach →
        (w.approachDirection = none → ok = true → choose n f ok s = choose n f ok directed)
        ∧ (w.approachDirection ≠ none → w.approachDone = true →
            choose n f ok s = presentSeat n (wantMotion n .hold s))
        ∧ (w.approachDone = false → ok = false → choose n f ok s = wantMotion n .hold s)
        ∧ (w.approachDone = false → ok = true → w.approachDirection = some .load → choose n f ok s = wantMotion n
            (if f < load - b.approach then .advance b.speed else if f < load - b.tolerance then .advance 1 else .hold) s)
        ∧ (w.approachDone = false → ok = true → w.approachDirection = some .unload → choose n f ok s = wantMotion n
            (if load + b.approach < f then .retract b.speed else if load + b.tolerance < f then .retract 1 else .hold) s)
        ∧ (isFresh s (bindingOf s n).force = false → startJudgment n s = (s, .goesOn))
        ∧ (isFresh s (bindingOf s n).force = true → valueOf s (bindingOf s n).force = f → w.approachDirection = none →
            (markOf s (bindingOf s n).force ≠ .within → startJudgment n s = (choose n f false s, .goesOn))
            ∧ (markOf s (bindingOf s n).force = .within → startJudgment n s = (choose n f true
                (if w.commanded = some .hold
                    ∧ (if f ≤ load then load - b.tolerance ≤ f else f ≤ load + b.tolerance) then
                  directed.onWork n fun w => { w with holdReached := true } else directed), .goesOn)))))
    ∧ ((∀ (s : State) (n m : Nat) (v : Int) (k : Mark) (p : LockParams), (stressAt s n).mode = .locking →
    stepOf s n = .lockoff p →
    let w := workOf s n
    let d := designOf s (slotOf s n)
    let stage (data : List Byte) : LogRecord :=
      { tick := now s, kind := .stage, unit := n, slot := slotOf s n, detail := 0, data := be 1 (stepNumber s n) ++ data }
    let count := (List.range 16).countP fun i => v.toNat.testBit i
    let seated := s.onWork n fun w =>
      { w with
        seatCount := some count, seatElapsed := some w.elapsed, window := p.releaseWindow, progress := some .releasing }
    let closed := s.onStress n fun c =>
      { c with
        mode := .running
        work := { c.work with
          window := 0, progress := some .retained, releaseForce := some v, releaseElapsed := some w.elapsed
          deferredFreeze := false, deferredHalt := false } }
    let held := wantMotion n .hold (writeOrDrop (stage (putForce v ++ be 4 w.elapsed)) closed)
    let frozen := (placeHalt (bindingOf s n).jack .jackHold (.sc n) (held.setMode n .frozen)).onWork n fun w =>
      { w with commanded := some .hold }
    let after := if w.deferredFreeze = true ∧ s.trip.frozen = true then frozen else held
    ((bindingOf s n).seat = m → (bindingOf s n).force ≠ m → (bindingOf s n).extension ≠ m →
        (w.progress = some .seating → stressSample m n v k s = seatSample n v s)
          ∧ (w.progress ≠ some .seating → stressSample m n v k s = s))
      ∧ (v < 0 ∨ 65535 < v → seatSample n v s = s)
      ∧ (0 ≤ v → v ≤ 65535 → count < d.strands →
          seatSample n v s = s.onWork n fun w => { w with seatCount := some count })
      ∧ (0 ≤ v → v ≤ 65535 → d.strands ≤ count → seatSample n v s =
          wantMotion n (.retract 1) (writeOrDrop (stage (be 2 v.toNat ++ be 1 count ++ be 4 w.elapsed)) seated))
      ∧ (v ≤ d.hardLimit → w.progress = some .seating → forceSample n v k s = wantMotion n .hold s)
      ∧ (v ≤ d.hardLimit → w.progress = some .releasing → (p.releaseLevel : Int) < v ∨ k = .over →
          forceSample n v k s = wantMotion n (.retract 1) s)
      ∧ (v ≤ d.hardLimit → w.progress = some .releasing → v ≤ p.releaseLevel → k ≠ .over →
          forceSample n v k s =
            if w.deferredHalt = true then haltRun n .station after else settleStep 25 n (requestCell n after)))
    ∧ (∀ (s : State) (n : Nat) (p : LockParams) (f : Int) (k : Mark), (stressAt s n).mode = .running →
        f ≤ (designOf s (slotOf s n)).hardLimit → stepOf s n = .lockoff p → (workOf s n).progress = some .retained →
        forceSample n f k s = wantMotion n .hold s)
    ∧ (∀ (s : State) (n : Nat), n < 4 → s.tickOpen = true → (stressAt s n).mode = .locking → (workOf s n).window = 0 →
        exec (.lockWindowRunOut n) s = .next (afterPass (haltRun n
          (if (workOf s n).progress = some .seating then .seatIncomplete else .releaseTimeout) s))))
    ∧ (∀ (s : State) (n : Nat),
    let slot := slotOf s n
    let c := classOf s slot
    let good (o : OutcomeRecord) (r : CellReading) : Prop :=
      o.outcome = .reading ∧ o.reading = some r ∧ r.mark = .within
    let judged (u : State) (o : OutcomeRecord) (t : State) : Prop :=
      (stepOf s n = .cellCheck →
        ((∀ r, ¬good o r) → t = haltRun n .cellFault u)
          ∧ ∀ r, good o r →
            let found := u.onAnchor slot fun a => { a with crossDifference := some (o.jackForce - r.value) }
            ((o.jackForce - r.value).natAbs ≤ crossTolerance c o.jackForce → t = settleStep 25 n (found, .completes false))
              ∧ (crossTolerance c o.jackForce < (o.jackForce - r.value).natAbs → t = haltRun n .cellMismatch found))
        ∧ (∀ p, stepOf s n = .lockoff p →
          ((∀ r, ¬good o r) → t = haltRun n .cellFault u)
            ∧ ∀ r, good o r →
              let found := u.onAnchor slot fun a => { a with retainedLoad := some r.value }
              let load : Int := ((designOf s slot).workingLoad * p.factor / 1000 : Nat)
              (r.value < retainedLow c load → t = settleStep 25 n (found, .fails .lockoffLow))
                ∧ (retainedLow c load ≤ r.value → retainedHigh c load < r.value →
                    t = settleStep 25 n (found, .fails .lockoffHigh))
                ∧ (retainedLow c load ≤ r.value → r.value ≤ retainedHigh c load →
                    t = settleStep 25 n (found, .completes false)))
    (∀ o r, holdsAnchor s n = false ∨ (workOf s n).requestOutstanding = false → cellOutcome o r s n = s)
      ∧ (∀ o r, holdsAnchor s n = true → (workOf s n).requestOutstanding = true →
          let written : OutcomeRecord :=
            { outcome := o, reading := r, jackForce := valueOf s (bindingOf s n).force
              jackMark := markOf s (bindingOf s n).force, tick := now s }
          let u := s.onWork n fun w => { w with requestOutstanding := false, outcome := some written }
          ((stressAt s n).mode ≠ .running → cellOutcome o r s n = u)
            ∧ ((stressAt s n).mode = .running → judged u written (cellOutcome o r s n)))
      ∧ (∀ o, (stressAt s n).mode = .running → (workOf s n).outcome = some o → judged s o (resume n s))
      ∧ (holdsAnchor s n = true →
          let asked := s.onWork n fun w => { w with requestOutstanding := true }
          let cell := (bindingOf s n).cell
          (stepOf s n = .cellCheck → startJudgment n s = requestCell n (wantMotion n .hold s))
            ∧ ((cellAt s cell).config = none →
              settleStep 25 n (requestCell n s) = cellOutcome .noCell none asked n)
            ∧ ((cellAt s cell).config ≠ none → requestCell n s = (searchCells (asked.onCell cell fun k =>
                let q := k.pending.getD ⟨[], false, false, false, now s⟩
                { k with pending := some { q with
                    waiting := [0, 1, 2, 3].filter fun i => i == n || q.waiting.contains i } }), .goesOn))))

/-- R77, R78: a fresh extension sample at or after the minimum becomes the reference, and one that differs by more
than the band starts the timer anew; an interval that a tick has filled is counted, and completes the step at the
limit; a step at its maximum completes UNSETTLED. R80, R89, R90: a point that falls due is written, held by a RUNNING
channel that stalls, or dropped by a LOCKING one; a held record is written when the log has space, after which a
STALLED channel resumes and a FROZEN one stays FROZEN. R88: the resume judgment: the timeout, the maximum, the start
judgment that the step owes, or the command choice on the value as it stands (log 16), in which a JACK_SEAT that waits
on a full queue is presented again (DESIGN CHOICE, log 34). -/
def Obligations.IntervalsPointsAndHeldRecords : Prop :=
  (∀ (s : State) (n : Nat) (p : SettleParams), n < 4 → s.tickOpen = true → s.passDue = false →
    (stressAt s n).mode = .running → stepOf s n = .holdSettle p →
    (∀ d, (workOf s n).settle = some d → p.interval ≤ d.progress →
        let counted := s.onWork n fun w => { w with settle := some { d with progress := 0, count := d.count + 1 } }
        (d.count + 1 < p.limit → exec (.settleInterval n) s = .next counted)
          ∧ (p.limit ≤ d.count + 1 →
              exec (.settleInterval n) s = .next (runPass (settleStep 25 n (counted, .completes false)))))
      ∧ (p.maximum ≤ (workOf s n).elapsed → (∀ d, (workOf s n).settle = some d → d.progress < p.interval) →
          exec (.settleMaximum n) s = .next (runPass (settleStep 25 n (s, .completes true)))))
    ∧ (∀ (s : State) (n : Nat), n < 4 → s.passDue = false →
    let zeroed := fun (u : State) => u.onWork n fun w => { w with pointCounter := 0 }
    (s.tickOpen = true → 0 < pointInterval s n → pointInterval s n ≤ (workOf s n).pointCounter →
        ((stressAt s n).mode = .running ∨ (stressAt s n).mode = .locking → occupancy s.log < 2016 →
            exec (.stressPointDue n) s = .next (zeroed (s.onLog (appendRecord (pointRecord s n)))))
          ∧ ((stressAt s n).mode = .running → 2016 ≤ occupancy s.log →
              exec (.stressPointDue n) s = .next (wantMotion n .hold (s.onStress n fun c =>
                { c with mode := .stalled, work := { c.work with held := some (pointRecord s n) } })))
          ∧ ((stressAt s n).mode = .locking → 2016 ≤ occupancy s.log →
              exec (.stressPointDue n) s = .next (zeroed s)))
      ∧ (∀ r, (workOf s n).held = some r → occupancy s.log < 2016 →
          let written := (s.onLog (appendRecord r)).onWork n fun w =>
            { w with held := none, pointCounter := if r.kind = .point then 0 else w.pointCounter }
          ((stressAt s n).mode = .frozen → exec (.heldRecordWrite n) s = .next written)
            ∧ ((stressAt s n).mode = .stalled →
                exec (.heldRecordWrite n) s = .next (runPass (resume n (written.setMode n .running))))))
    ∧ (∀ (s : State) (n : Nat) (p : SettleParams) (v : Int), holdsAnchor s n = true → v ≤ (bindingOf s n).stroke →
    stepOf s n = .holdSettle p →
    let fresh := s.onWork n fun w => { w with settle := some { reference := v, progress := 0, count := 0 } }
    ((stressAt s n).mode ≠ .running → extensionSample n v s = s)
      ∧ ((stressAt s n).mode = .running →
        ((workOf s n).settle = none → (workOf s n).elapsed < p.minimum → extensionSample n v s = s)
        ∧ ((workOf s n).settle = none → p.minimum ≤ (workOf s n).elapsed → extensionSample n v s = fresh)
        ∧ (∀ d, (workOf s n).settle = some d → (v - d.reference).natAbs ≤ p.band → extensionSample n v s = s)
        ∧ (∀ d, (workOf s n).settle = some d → p.band < (v - d.reference).natAbs → extensionSample n v s = fresh)))
    ∧ (∀ (s : State) (n : Nat), (stressAt s n).mode = .running → (workOf s n).outcome = none →
    let w := workOf s n
    let late : Prop := (∃ p, (stepOf s n = .loadTo p ∨ stepOf s n = .unloadTo p) ∧ p.timeout ≤ w.elapsed)
      ∨ ∃ p, stepOf s n = .lockoff p ∧ w.progress = some .approach ∧ (borrowed s n).timeout ≤ w.elapsed
    let full : Prop := ∃ p, stepOf s n = .holdSettle p ∧ p.maximum ≤ w.elapsed
    (late → resume n s = haltRun n .loadTimeout s)
      ∧ (full → resume n s = settleStep 25 n (s, .completes true))
      ∧ (¬late → ¬full → w.startOwing = true →
          resume n s = settleStep 25 n (startJudgment n (s.onWork n fun w => { w with startOwing := false })))
      ∧ (¬late → ¬full → w.startOwing = false → resume n s = chooseStanding n s))

/-! ### The placement unit (06) -/

/-- R115, R165: CONFIG_PLACEMENT, its checks in their order; the nodes it names are owned by the unit, those it named
before are released, and the recorded command of a node that changed is absent. R120, R7: START_PLACE, its checks in
their order, and the run that begins on the anchor. -/
def Obligations.PlacementIsConfiguredAndStarted : Prop :=
  (∀ (s : State) (tag : Nat), takesNow s →
    let released : State :=
      match s.placement.config with
      | some c => (s.setOwner c.winchNode none).setOwner c.pumpNode none
      | none => s
    (∀ cfg, s.placement.mode ≠ .idle → exec (.configPlacement tag cfg) s = .next (refused tag 0x38 .busy s))
      ∧ (s.placement.mode = .idle →
          exec (.configPlacement tag none) s = .next (answered tag 0x38 none []
            (released.onPlacement fun p => { p with config := none, winchCommand := none, pumpCommand := none })))
      ∧ (∀ c : PlacementConfig, s.placement.mode = .idle →
          placementConfigInRange c = false ∨ placementKinds s c = false →
          exec (.configPlacement tag (some c)) s = .next (refused tag 0x38 .badValue s))
      ∧ (∀ c : PlacementConfig, s.placement.mode = .idle → placementConfigInRange c = true →
          placementKinds s c = true →
          let free (a : Nat) : Prop := ownerOf s a = none ∨ ownerOf s a = some .pu
          (¬(free c.winchNode ∧ free c.pumpNode) →
            exec (.configPlacement tag (some c)) s = .next (refused tag 0x38 .inUse s))
          ∧ (free c.winchNode → free c.pumpNode →
              exec (.configPlacement tag (some c)) s = .next (answered tag 0x38 none []
                (((released.setOwner c.winchNode (some .pu)).setOwner c.pumpNode (some .pu)).onPlacement fun p =>
                  { p with
                    config := some c
                    winchCommand :=
                      if s.placement.config.map (·.winchNode) = some c.winchNode then p.winchCommand else none
                    pumpCommand :=
                      if s.placement.config.map (·.pumpNode) = some c.pumpNode then p.pumpCommand else none })))))
    ∧ (∀ (s : State) (tag slot : Nat), takesNow s →
    exec (.startPlace tag slot) s = .next (
      if 95 < slot then refused tag 0x3A .badValue s
      else if s.station.estop = true then refused tag 0x3A .estop s
      else if s.trip.frozen = true then refused tag 0x3A .frozen s
      else if s.ring.state ≠ .up then refused tag 0x3A .busy s
      else if s.station.site = none then refused tag 0x3A .timeUnset s
      else if s.placement.config = none then refused tag 0x3A .notFound s
      else if s.placement.mode ≠ .idle then refused tag 0x3A .busy s
      else if (anchorAt s slot).phase = .defined then answered tag 0x3A none [] (beginRun .winching slot s)
      else if (anchorAt s slot).phase = .placed then answered tag 0x3A none [] (beginRun .grouting slot s)
      else refused tag 0x3A .badPhase s))

/-- R121, R125, R36, R117, R119: everything that the beginning of a run does: the run items, the anchor's phase, the
total set to 0, the START record with the total before (its layout is log 11), and the run command, or the stop where
the run starts starved, presented when it differs from the recorded one. -/
def Obligations.RunsBeginAsOneChange : Prop :=
  ∀ (s : State) (p : RunPhase) (slot : Nat) (c : PlacementConfig), s.placement.config = some c → slot < 96 →
    let t := beginRun p slot s
    let total := match p with
      | .winching => c.payout
      | .grouting => c.flow
    let starved : Bool := match p with
      | .winching => !isFresh s c.payout
      | .grouting => !isFresh s c.flow || !isFresh s c.ret
    let speed := match p with
      | .winching => c.winchSpeed
      | .grouting => c.pumpSpeed
    let drive : Drive := if starved then .stop else .run speed
    let start : LogRecord :=
      { tick := now s, kind := .start, unit := 4, slot := slot, detail := 0
        data := be 2 (designOf s slot).anchorId ++ be 1 (runPhaseCode p) ++ beInt 3 (valueOf s total) ++ be 1 speed }
    t.placement.mode = phaseMode p
      ∧ t.placement.run = some
          { slot := slot, pausedFrom := none, elapsed := 0, speed := speed, starved := starved, pointCounter := 0 }
      ∧ anchorAt t slot = { anchorAt s slot with phase := phaseAnchor p }
      ∧ (∀ i, i ≠ slot → anchorAt t i = anchorAt s i)
      ∧ (∀ m d l, total < 24 → (channelAt s total).config = .counter m d l →
          channelAt t total = { channelAt s total with total := some 0, value := some 0, mark := some .within })
      ∧ (∀ m, m ≠ total → channelAt t m = channelAt s m)
      ∧ t.log = (if occupancy s.log < 2016 then appendRecord start s.log else s.log)
      ∧ (recordedDrive s p = some drive → t.sched = s.sched ∧ recordedDrive t p = some drive)
      ∧ (recordedDrive s p ≠ some drive → queueTakes s (driveNode s p) (driveCommand p drive) = true →
          recordedDrive t p = some drive
            ∧ t.sched = { s.sched with
                queue := queueWith (now s) (driveNode s p) (driveCommand p drive) .pu s.sched.queue })
      ∧ (recordedDrive s p ≠ some drive → queueTakes s (driveNode s p) (driveCommand p drive) = false →
          recordedDrive t p = recordedDrive s p ∧ t.sched = s.sched)
      ∧ t.stress = s.stress ∧ t.gauge = s.gauge ∧ t.trip = s.trip ∧ t.ring = s.ring ∧ t.station = s.station
      ∧ t.classifiers = s.classifiers

/-- R131, R14, R129: everything that the halt of a placement run does. R123, R133: the winch timeout halts the run,
and a point that falls due is written or skipped, its counter back at 0. -/
def Obligations.PlacementRunsAreHaltedAndPointed : Prop :=
  (∀ (s : State) (cause : HaltCause) (c : PlacementConfig) (r : Run),
    s.placement.config = some c → s.placement.run = some r →
    let p := runPhase s
    let node := match p with
      | .winching => c.winchNode
      | .grouting => c.pumpNode
    let stop : Command := match p with
      | .winching => .winchStop
      | .grouting => .pumpStop
    let t := haltPlacementRun cause s
    t.placement.mode = .idle ∧ t.placement.run = none ∧ t.placement.config = some c
      ∧ recordedDrive t p = some .stop
      ∧ (r.slot < 96 → (anchorAt s r.slot).phase = phaseAnchor p →
          anchorAt t r.slot =
            { anchorAt s r.slot with
              phase := .halted, haltCause := some cause
              haltedFrom := some (match p with
                | .winching => .winching
                | .grouting => .grouting) })
      ∧ (∀ i, i ≠ r.slot → anchorAt t i = anchorAt s i)
      ∧ t.sched = { s.sched with
          priority := priorityWith s node stop .pu s.sched.priority
          queue := s.sched.queue.filter fun e => e.node ≠ node }
      ∧ (∃ h : LogRecord, h.tick = now s ∧ h.unit = 4 ∧ h.slot = r.slot ∧ h.detail = causeDetail cause
          ∧ h.kind = (if cause = .estop ∨ cause = .ring then .halt else .fault)
          ∧ t.log = if occupancy s.log + recordLength h ≤ 2048 then appendRecord h s.log
              else { s.log with overrun := true })
      ∧ t.measure = s.measure ∧ t.gauge = s.gauge ∧ t.stress = s.stress ∧ t.trip = s.trip ∧ t.ring = s.ring
      ∧ t.station = s.station ∧ t.classifiers = s.classifiers)
    ∧ (∀ (s : State) (c : PlacementConfig) (r : Run), s.tickOpen = true → s.passDue = false →
    s.placement.config = some c → s.placement.run = some r →
    (s.placement.mode = .winching → c.winchTimeout ≤ r.elapsed →
        exec .winchTimeout s = .next (haltPlacementRun .winchTimeout s))
      ∧ (s.placement.mode = .winching ∨ s.placement.mode = .grouting →
          0 < (classOf s r.slot).pointInterval → (classOf s r.slot).pointInterval ≤ r.pointCounter →
          exec .placementPointDue s = .next
            ((if occupancy s.log < 2016 then
                s.onLog (appendRecord (placementRecord s .point 0 (placementPointData s)))
              else s).onPlacement fun p => { p with run := some { r with pointCounter := 0 } })))

/-- R122, R126, R127, R8, R9, R10: the sample of a phase's own channel ends the run: a payout total at its target
completes winching with the insertion length; a flow total at its target with the return showing completes grouting
with the grout take and the completion minute; and one at its maximum without the return halts the run. R118: the stop
that ends a run is presented, or placed where the queue does not take it (the COMPLETE record's layout is log 11).
R117: a wanted command is presented when it differs from the recorded one. R119: a STALE channel of the phase starves
the run, which wants its stop and judges nothing else. R130: a thaw judges a PAUSED run as a sample of its phase does.
R124, R128, R129: an event of the phase's classifier is recorded, slows the run or halts it, and in PAUSED presents no
command (the EVENT record's layout is log 11). -/
def Obligations.PlacementRunsEndAsJudged : Prop :=
  (∀ (s : State) (c : PlacementConfig) (r : Run), s.placement.config = some c → s.placement.run = some r →
    r.slot < 96 →
    let d := designOf s r.slot
    let flow := valueOf s c.flow
    let unstarved := s.onPlacement fun p => { p with run := some { r with starved := false } }
    (s.placement.mode = .winching → isFresh s c.payout = true → (d.insertionTarget : Int) ≤ valueOf s c.payout →
        let t := placementSample c.payout s
        (anchorAt t r.slot).insertionLength = some (min 65535 (valueOf s c.payout).toNat)
          ∧ ((classOf s r.slot).groutFollows = false →
              (anchorAt t r.slot).phase = .placed ∧ t.placement.mode = .idle ∧ t.placement.run = none)
          ∧ ((classOf s r.slot).groutFollows = true →
              (anchorAt t r.slot).phase = .grouting ∧ t.placement.mode = .grouting
                ∧ t.placement.run.map (·.slot) = some r.slot))
      ∧ (s.placement.mode = .grouting → isFresh s c.flow = true → isFresh s c.ret = true →
          (d.groutTarget : Int) ≤ flow → 1 ≤ valueOf s c.ret →
          let t := placementSample c.flow s
          (anchorAt t r.slot).groutTake = some flow.toNat
            ∧ (anchorAt t r.slot).completionMinute = s.station.site.map (·.1)
            ∧ (anchorAt t r.slot).phase =
                (if s.station.site.isSome = true ∧ (anchorAt s r.slot).design.isSome = true ∧ d.cureMinutes = 0 then
                  .ready else .curing)
            ∧ t.placement.mode = .idle ∧ t.placement.run = none)
      ∧ (s.placement.mode = .grouting → isFresh s c.flow = true → isFresh s c.ret = true →
          (d.groutMax : Int) ≤ flow → valueOf s c.ret < 1 →
          placementSample c.flow s = haltPlacementRun .groutExcess unstarved))
    ∧ (∀ (s : State) (c : PlacementConfig) (r : Run), s.placement.config = some c → s.placement.run = some r →
    r.slot < 96 →
    let flow := valueOf s c.flow
    let length := min 65535 (valueOf s c.payout).toNat
    let stops (p : RunPhase) (node : Nat) (stop : Command) (data : List Byte) (t : State) : Prop :=
      recordedDrive t p = some .stop
        ∧ t.sched = (if queueTakes s node stop = true then
            { s.sched with queue := queueWith (now s) node stop .pu s.sched.queue }
          else
            { s.sched with
              priority := priorityWith s node stop .pu s.sched.priority
              queue := s.sched.queue.filter fun e => e.node ≠ node })
        ∧ t.log = (if occupancy s.log < 2016 then
            appendRecord { tick := now s, kind := .complete, unit := 4, slot := r.slot, detail := 0, data := data } s.log
          else s.log)
    (s.placement.mode = .winching → isFresh s c.payout = true →
        ((designOf s r.slot).insertionTarget : Int) ≤ valueOf s c.payout →
        recordedDrive (placementSample c.payout s) .winching = some .stop
          ∧ ((classOf s r.slot).groutFollows = false →
            stops .winching c.winchNode .winchStop
              (be 1 (runPhaseCode .winching) ++ be 2 length ++ be 2 r.elapsed) (placementSample c.payout s)))
      ∧ (s.placement.mode = .grouting → isFresh s c.flow = true → isFresh s c.ret = true →
          ((designOf s r.slot).groutTarget : Int) ≤ flow → 1 ≤ valueOf s c.ret →
          stops .grouting c.pumpNode .pumpStop
            (be 1 (runPhaseCode .grouting) ++ be 3 flow.toNat ++ be 4 (s.station.site.elim 0 fun p => p.1.toNat)
              ++ be 2 r.elapsed) (placementSample c.flow s)))
    ∧ ((∀ (s : State) (p : RunPhase) (d : Drive),
    let node := driveNode s p
    let command := driveCommand p d
    (recordedDrive s p = some d → wantDrive p d s = s)
      ∧ (recordedDrive s p ≠ some d → queueTakes s node command = false → wantDrive p d s = s)
      ∧ (recordedDrive s p ≠ some d → queueTakes s node command = true →
          wantDrive p d s = (present node command .pu s).onPlacement fun u =>
            match p with
            | .winching => { u with winchCommand := some d }
            | .grouting => { u with pumpCommand := some d }))
    ∧ (∀ (s : State) (c : PlacementConfig) (r : Run) (m : Nat), s.placement.config = some c →
        s.placement.run = some r →
    let d := designOf s r.slot
    let flow := valueOf s c.flow
    let starve (b : Bool) : State := s.onPlacement fun p => { p with run := some { r with starved := b } }
    let resumed (p : RunPhase) : State :=
      s.onPlacement fun u => { u with mode := phaseMode p, run := some { r with pausedFrom := none } }
    (s.placement.mode = .winching →
        (m ≠ c.payout → placementSample m s = s ∧ placementStale m s = s)
        ∧ (isFresh s c.payout = false →
            placementSample c.payout s = wantDrive .winching .stop (starve true)
              ∧ placementStale c.payout s = wantDrive .winching .stop (starve true))
        ∧ (isFresh s c.payout = true → valueOf s c.payout < d.insertionTarget →
            placementSample c.payout s = wantDrive .winching (.run r.speed) (starve false)))
      ∧ (s.placement.mode = .grouting →
        (m ≠ c.flow → m ≠ c.ret → placementSample m s = s ∧ placementStale m s = s)
        ∧ placementSample c.ret s = placementSample c.flow s
        ∧ (m = c.flow ∨ m = c.ret → isFresh s c.flow = false ∨ isFresh s c.ret = false →
            placementSample m s = wantDrive .grouting .stop (starve true)
              ∧ placementStale m s = wantDrive .grouting .stop (starve true))
        ∧ (isFresh s c.flow = true → isFresh s c.ret = true → ¬((d.groutTarget : Int) ≤ flow ∧ 1 ≤ valueOf s c.ret) →
            ¬((d.groutMax : Int) ≤ flow ∧ valueOf s c.ret < 1) →
            placementSample c.flow s = wantDrive .grouting (.run r.speed) (starve false)))
      ∧ (s.placement.mode = .paused ∨ s.placement.mode = .idle → placementSample m s = s ∧ placementStale m s = s)
      ∧ (s.placement.mode ≠ .paused → thawPlacement s = s)
      ∧ (s.placement.mode = .paused → r.pausedFrom = some .winching →
          thawPlacement s = placementSample c.payout (resumed .winching))
      ∧ (s.placement.mode = .paused → r.pausedFrom = some .grouting →
          thawPlacement s = placementSample c.flow (resumed .grouting))))
    ∧ (∀ (s : State) (c : PlacementConfig) (r : Run) (x : Nat) (k : EventKind), s.placement.config = some c →
    s.placement.run = some r →
    let p := runPhase s
    let watcher := match p with
      | .winching => c.tensionX
      | .grouting => c.pressureX
    let speed : Nat := match k, p with
      | .sustained, .winching => 1
      | .sustained, .grouting => max 1 (r.speed - 2)
      | _, _ => r.speed
    let detail : Nat := match k with
      | .spike => 40
      | .surge => 41
      | .sustained => 42
      | .overlong => 43
    let slowed := s.onPlacement fun u => { u with run := some { r with speed := speed } }
    let told := writeOrDrop
      { tick := now s, kind := .event, unit := 4, slot := r.slot, detail := detail
        data := be 1 x ++ be 2 r.elapsed ++ be 1 speed } slowed
    let starved : Bool := match p with
      | .winching => !isFresh s c.payout
      | .grouting => !isFresh s c.flow || !isFresh s c.ret
    (s.placement.mode = .idle ∨ watcher ≠ some x → placementEvent x k s = s)
      ∧ (s.placement.mode ≠ .idle → watcher = some x → k = .overlong →
          placementEvent x k s = haltPlacementRun (if p = .winching then .snag else .blockage) s)
      ∧ (s.placement.mode = .paused → watcher = some x → k ≠ .overlong → placementEvent x k s = told)
      ∧ (s.placement.mode = .winching ∨ s.placement.mode = .grouting → watcher = some x → k ≠ .overlong →
          placementEvent x k s = wantDrive p (if starved = true then .stop else .run speed)
            (told.onPlacement fun u => { u with run := some { r with speed := speed, starved := starved } })))

/-! ### Classifiers and trip counters (07) -/

/-- R135: CONFIG_CLASSIFIER makes the classifier QUIET under its new configuration, with no event. R136, R138: a fresh
sample of the watched channel starts an excursion at or beyond the level, and ends one that has come back past the
level by more than the hysteresis, with the event of the table. R137, R140: at a tick, an excursion that has lasted
t_hold is declared SUSTAINED, and a declared one that has lasted t_long stalls OVERLONG; the event goes to the
placement unit and to the trip counters, in that order (log 3). -/
def Obligations.ClassifiersFollowTheirChannel : Prop :=
  (∀ (s : State) (tag x : Nat) (cfg : Option ClassifierConfig), takesNow s →
    exec (.configClassifier tag x cfg) s = .next (
      if 3 < x then refused tag 0x40 .badValue s
      else if classifierInUse s x = true then refused tag 0x40 .inUse s
      else if ∃ c ∈ cfg.toList, ¬(c.watched ≤ 23 ∧ -8388608 ≤ c.level ∧ c.level ≤ 16777215 ∧ c.hysteresis ≤ 8388607
          ∧ c.tSpike < c.tHold ∧ c.tHold < c.tLong ∧ c.tLong ≤ 65535) then refused tag 0x40 .badValue s
      else answered tag 0x40 none [] (s.onClassifier x fun _ => { config := cfg, mode := .quiet, start := none })))
    ∧ (∀ (s : State) (x m : Nat) (v : Int) (c : ClassifierConfig),
    (classifierAt s x).config = some c → c.watched = m →
    let beyond : Prop := match c.side with
      | .above => c.level ≤ v
      | .below => v ≤ c.level
    let back : Prop := match c.side with
      | .above => v < c.level - c.hysteresis
      | .below => c.level + c.hysteresis < v
    let lasted := (now s - (classifierAt s x).start.getD 0).toNat
    let quieted := s.onClassifier x fun k => { k with mode := .quiet, start := none }
    let deliver (k : EventKind) (u : State) : State := observe (.event x k) (placementEvent x k u)
    ((classifierAt s x).mode = .quiet → beyond →
        classifierSample m v s x = s.onClassifier x fun k => { k with mode := .excursion, start := some (now s) })
      ∧ ((classifierAt s x).mode = .quiet → ¬beyond → classifierSample m v s x = s)
      ∧ ((classifierAt s x).mode ≠ .quiet → ¬back → classifierSample m v s x = s)
      ∧ ((classifierAt s x).mode = .excursion → back → lasted < c.tSpike → c.spikeReject = false →
          classifierSample m v s x = deliver .spike quieted)
      ∧ ((classifierAt s x).mode = .excursion → back → lasted < c.tSpike → c.spikeReject = true →
          classifierSample m v s x = quieted)
      ∧ ((classifierAt s x).mode = .excursion → back → c.tSpike ≤ lasted →
          classifierSample m v s x = deliver .surge quieted)
      ∧ ((classifierAt s x).mode = .declared ∨ (classifierAt s x).mode = .stalled → back →
          classifierSample m v s x = quieted))
    ∧ (∀ (s : State) (x : Nat) (c : ClassifierConfig), x < 4 → s.tickOpen = true → (classifierAt s x).config = some c →
    let lasted := (now s - (classifierAt s x).start.getD 0).toNat
    ((classifierAt s x).mode = .excursion → c.tHold ≤ lasted → ∃ t,
        exec (.sustained x) s = .next t
          ∧ t = runPass (observe (.event x .sustained) (placementEvent x .sustained
              (s.onClassifier x fun k => { k with mode := .declared })))
          ∧ classifierAt t x = { classifierAt s x with mode := .declared })
      ∧ ((classifierAt s x).mode = .declared → c.tLong ≤ lasted → ∃ t,
          exec (.overlong x) s = .next t
            ∧ t = runPass (observe (.event x .overlong) (placementEvent x .overlong
                (s.onClassifier x fun k => { k with mode := .stalled })))
            ∧ classifierAt t x = { classifierAt s x with mode := .stalled }))

/-- R143, R144, R145, R146: an observation is counted by every enabled counter whose source matches it while the part
is not frozen; a count past 65,535 is 0 with the overflow mark; a CHANNEL counter keeps whether the sample qualified
even while the part is frozen; an overflow of a freeze-enabled counter freezes the part, the lowest numbered one
named; and an observation without such an overflow changes nothing but the counters. R146, R87, R129, R107, R176:
becoming frozen makes every RUNNING or STALLED channel FROZEN with JACK_HOLD in the priority list and recorded, and a
placement run PAUSED with the stop of its phase in the list and recorded (SC0 to SC3 and then the placement unit,
DESIGN CHOICE, log 3), and leaves no entry of a stopped node in the queue; a LOCKING channel marks the freeze; one
FREEZE record with the counters' values and marks (its layout is log 11) is written as a reserve record; and nothing
else changes. -/
def Obligations.ObservationsCountAndFreezeThePart : Prop :=
  (∀ (o : Observation) (s : State),
    let qualified (t : Int) (inv : Bool) (v : Int) : Bool := if inv then decide (v < t) else decide (t ≤ v)
    let counts (c : Counter) : Bool :=
      c.enabled &&
        match c.source, o with
        | some (.channel m t inv edge), .sample m' v => m == m' && qualified t inv v && (!edge || !c.previous)
        | some (.events x mask), .event x' k => x == x' && mask.testBit (eventIndex k)
        | some .ringError, .ringError => true
        | some .gaugeFault, .gaugeFault => true
        | _, _ => false
    let judged (c : Counter) : Option Bool :=
      match c.source, o with
      | some (.channel m t inv _), .sample m' v => if c.enabled = true ∧ m = m' then some (qualified t inv v) else none
      | _, _ => none
    let overflows (q : Nat) : Prop :=
      (counterAt s q).freezeEnable = true ∧ counts (counterAt s q) = true ∧ (counterAt s q).value = 65535
    (∀ q, q < 8 →
        let c := counterAt s q
        let c' := counterAt (observe o s) q
        (s.trip.frozen = true ∨ counts c = false → c'.value = c.value ∧ c'.overflow = c.overflow)
          ∧ (s.trip.frozen = false → counts c = true → c.value < 65535 →
              c'.value = c.value + 1 ∧ c'.overflow = c.overflow)
          ∧ (s.trip.frozen = false → counts c = true → c.value = 65535 → c'.value = 0 ∧ c'.overflow = true)
          ∧ c' = { c with previous := (judged c).getD c.previous, value := c'.value, overflow := c'.overflow })
      ∧ ((observe o s).trip.frozen = true ↔ s.trip.frozen = true
          ∨ ∃ q, q < 8 ∧ overflows q)
      ∧ (∀ q, q < 8 → s.trip.frozen = false → overflows q → (∀ p, p < q → ¬overflows p) →
          observe o s = becomeFrozen (48 + q)
            { s with trip := { s.trip with counters := (observe o s).trip.counters } })
      ∧ (s.trip.frozen = true ∨ (∀ q, q < 8 → ¬overflows q) →
          observe o s = { s with trip := { s.trip with counters := (observe o s).trip.counters } }))
    ∧ (∀ (s : State) (detail : Nat),
    let t := becomeFrozen detail s
    let stopped : List Nat :=
      [0, 1, 2, 3].filter fun n => (stressAt s n).mode == .running || (stressAt s n).mode == .stalled
    let stops : List PriorityEntry :=
      stopped.map (fun n => { node := (bindingOf s n).jack, command := .jackHold, origin := .sc n })
        ++ match s.placement.mode with
          | .winching => [{ node := (placementConfig s).winchNode, command := .winchStop, origin := .pu }]
          | .grouting => [{ node := (placementConfig s).pumpNode, command := .pumpStop, origin := .pu }]
          | _ => []
    let r : LogRecord :=
      { tick := now s, kind := .freeze, unit := 5, slot := 255, detail := detail, data := be 1 0 ++ counterFigures s }
    t = { s with trip := { s.trip with frozen := true }, stress := t.stress, sched := t.sched
                 placement := t.placement, log := t.log }
      ∧ (∀ n, n < 4 → (stressAt s n).mode = .running ∨ (stressAt s n).mode = .stalled →
          stressAt t n =
            { stressAt s n with mode := .frozen, work := { workOf s n with commanded := some .hold } })
      ∧ (∀ n, n < 4 → (stressAt s n).mode = .locking →
          stressAt t n = { stressAt s n with work := { workOf s n with deferredFreeze := true } })
      ∧ (∀ n, (stressAt s n).mode = .idle ∨ (stressAt s n).mode = .unbound ∨ (stressAt s n).mode = .frozen →
          stressAt t n = stressAt s n)
      ∧ (s.placement.mode = .winching → t.placement =
          { s.placement with
            mode := .paused, winchCommand := some .stop
            run := s.placement.run.map fun r => { r with pausedFrom := some .winching } })
      ∧ (s.placement.mode = .grouting → t.placement =
          { s.placement with
            mode := .paused, pumpCommand := some .stop
            run := s.placement.run.map fun r => { r with pausedFrom := some .grouting } })
      ∧ (s.placement.mode = .idle ∨ s.placement.mode = .paused → t.placement = s.placement)
      ∧ t.sched = { s.sched with
          priority := stops.foldl (fun p x => priorityWith s x.node x.command x.origin p) s.sched.priority
          queue := s.sched.queue.filter fun e => stops.all fun x => x.node != e.node }
      ∧ (∀ x ∈ stops, (ownerOf s x.node).isSome = true → (∀ y ∈ stops, y.node = x.node → y = x) →
          x ∈ t.sched.priority)
      ∧ t.log = if occupancy s.log + recordLength r ≤ 2048 then appendRecord r s.log
          else { s.log with overrun := true })

/-- R142: LOAD_TRIP takes the configuration and the preload, clears previous-qualified and keeps the overflow mark,
and freezes the part where that leaves a freeze-enabled counter overflowed. R147, R148: FREEZE sets the station-freeze
mark and freezes a part that is not frozen, its record under detail 20, which is the model's reading of the cause
STATION (DEDUCED, log 11); THAW is refused while a freeze-enabled counter is overflowed, and otherwise clears the mark
and unfreezes a frozen part: SC0 to SC3 and then the placement unit take the thaw (this order is DESIGN CHOICE, log
3), one hand-out pass is made, and one UNFROZEN record with the counters' figures is written after them (that it comes
last is DEDUCED, log 20, its layout log 11). R88: a FROZEN channel with a held record is STALLED after the thaw, and one
without resumes. -/
def Obligations.TripRequestsLoadAndFreeze : Prop :=
  (∀ (s : State) (tag q : Nat) (cfg : TripConfig), takesNow s →
    let loaded : State := s.onTrip fun t =>
      { t with
        counters := put t.counters q
          { enabled := cfg.enabled, source := some cfg.source, freezeEnable := cfg.freezeEnable, value := cfg.preload
            overflow := (counterAt s q).overflow, previous := false } }
    (7 < q ∨ tripConfigInRange cfg = false → exec (.loadTrip tag q cfg) s = .next (refused tag 0x42 .badValue s))
      ∧ (q ≤ 7 → tripConfigInRange cfg = true → cfg.freezeEnable = true → (counterAt s q).overflow = true →
          s.trip.frozen = false →
          exec (.loadTrip tag q cfg) s = .next (runPass (answered tag 0x42 none [] (becomeFrozen (48 + q) loaded))))
      ∧ (q ≤ 7 → tripConfigInRange cfg = true →
          cfg.freezeEnable = false ∨ (counterAt s q).overflow = false ∨ s.trip.frozen = true →
          exec (.loadTrip tag q cfg) s = .next (answered tag 0x42 none [] loaded)))
    ∧ (∀ (s : State) (tag : Nat), takesNow s →
    (s.trip.frozen = true → exec (.freeze tag) s = .next (answered tag 0x45 none []
        (s.onTrip fun t => { t with stationFreeze := true })))
      ∧ (s.trip.frozen = false → exec (.freeze tag) s = .next (runPass (answered tag 0x45 none []
          (becomeFrozen (causeDetail .station) (s.onTrip fun t => { t with stationFreeze := true })))))
      ∧ ((∃ q, q < 8 ∧ (counterAt s q).freezeEnable = true ∧ (counterAt s q).overflow = true) →
          exec (.thaw tag) s = .next (refused tag 0x46 .frozen s))
      ∧ ((∀ q, q < 8 → (counterAt s q).freezeEnable = true → (counterAt s q).overflow = false) →
          (s.trip.frozen = false → exec (.thaw tag) s = .next (answered tag 0x46 none []
              (s.onTrip fun t => { t with stationFreeze := false })))
            ∧ (s.trip.frozen = true →
              let thawed := thawPlacement ([0, 1, 2, 3].foldl thawStress
                (s.onTrip fun t => { t with frozen := false, stationFreeze := false }))
              exec (.thaw tag) s = .next (answered tag 0x46 none [] (writeReserve
                { tick := now s, kind := .freeze, unit := 5, slot := 255, detail := 0
                  data := be 1 1 ++ counterFigures s } (afterPass thawed.startPass))))
            ∧ (s.trip.frozen = true → ∃ t, exec (.thaw tag) s = .next t ∧ t.trip.frozen = false
                ∧ t.trip.stationFreeze = false ∧ t.trip.counters = s.trip.counters
                ∧ (∀ n, n < 4 → (stressAt s n).mode = .frozen → (workOf s n).held.isSome = true →
                    (stressAt t n).mode = .stalled ∧ (workOf t n).held = (workOf s n).held)
                ∧ t.ring.responses = s.ring.responses ++ [{ tag := tag, code := 0x46, reason := none, body := [] }])))
    ∧ (∀ (s : State) (n : Nat),
    ((stressAt s n).mode ≠ .frozen → thawStress s n = s)
      ∧ ((stressAt s n).mode = .frozen → (workOf s n).held = none →
          thawStress s n = resume n (s.onStress n fun c => { c with mode := .running }))
      ∧ ((stressAt s n).mode = .frozen → (workOf s n).held ≠ none →
          thawStress s n = wantMotion n .hold (s.onStress n fun c => { c with mode := .stalled })))

/-- R149: CLEAR_TRIP clears the overflow marks of the counters named and changes nothing else: values, configuration,
previous-qualified and the frozen item stand. -/
def Obligations.ClearTripClearsTheMarks : Prop :=
  ∀ (s : State) (tag mask : Nat), takesNow s → ∃ b : Trip,
    exec (.clearTrip tag mask) s = .next (answered tag 0x43 none [] { s with trip := b })
      ∧ b.frozen = s.trip.frozen ∧ b.stationFreeze = s.trip.stationFreeze
      ∧ ∀ q, q < 8 → look b.counters q =
          { counterAt s q with overflow := (counterAt s q).overflow && !mask.testBit q }

/-! ### The ring and the scheduler (08, 09) -/

/-- R174, R176: what a presentation makes of the command queue, and a placed halt of the priority list and the queue;
the entry that leaves a full list is the oldest one of a node without an owner. R177: after the halt sweep every owned
node has its halt in the priority list, JACK_HOLD for a stressing channel's node and the stop of the placement unit's,
and no entry in the queue, from which nothing else goes; the placement unit's recorded commands for nodes that it owns
become the stop (R117, log 23); and the queue, the list and these commands apart the part is as it was. -/
def Obligations.CommandsAreQueuedAndHaltsSwept : Prop :=
  (∀ (s : State) (node : Nat) (c : Command) (o : Owner),
    let key (e : QueueEntry) : Prop := e.node = node ∧ commandClass e.command = commandClass c
    let q := s.sched.queue
    let entry : QueueEntry := { node := node, command := c, origin := o, enqueued := now s }
    let halt : PriorityEntry := { node := node, command := c, origin := o }
    (s.ring.state ≠ .up ∨ ((∀ e ∈ q, ¬key e) ∧ 16 ≤ q.length) →
        queueTakes s node c = false ∧ present node c o s = s)
      ∧ (s.ring.state = .up → (∃ e ∈ q, key e) → queueTakes s node c = true ∧
          ∃ q', present node c o s = { s with sched := { s.sched with queue := q' } } ∧ q'.length = q.length
            ∧ ∀ (i : Nat) (e : QueueEntry), q[i]? = some e →
                (key e → q'[i]? = some { e with command := c, origin := o }) ∧ (¬key e → q'[i]? = some e))
      ∧ (s.ring.state = .up → (∀ e ∈ q, ¬key e) → q.length < 16 → queueTakes s node c = true ∧
          present node c o s = { s with sched := { s.sched with queue := q ++ [entry] } })
      ∧ (placeHalt node c o s).sched.queue = q.filter (fun e => e.node ≠ node)
      ∧ ((∃ e ∈ s.sched.priority, e.node = node) →
          (placeHalt node c o s).sched.priority = s.sched.priority.map fun e => if e.node = node then halt else e)
      ∧ ((∀ e ∈ s.sched.priority, e.node ≠ node) → s.sched.priority.length < 8 →
          (placeHalt node c o s).sched.priority = s.sched.priority ++ [halt])
      ∧ (∀ front back e, s.sched.priority = front ++ e :: back → (∀ k ∈ s.sched.priority, k.node ≠ node) →
          8 ≤ s.sched.priority.length → (∀ k ∈ front, ownerOf s k.node ≠ none) → ownerOf s e.node = none →
          (placeHalt node c o s).sched.priority = front ++ back ++ [halt]))
    ∧ (∀ s : State,
    let t := haltSweep s
    let ownsWinch : Prop := ∃ c, s.placement.config = some c ∧ ownerOf s c.winchNode = some .pu
    let ownsPump : Prop :=
      ∃ c, s.placement.config = some c ∧ ownerOf s c.pumpNode = some .pu ∧ c.pumpNode ≠ c.winchNode
    (∀ a o, ownerOf s a = some o →
        (∃ e ∈ t.sched.priority, e.node = a ∧ e.origin = o ∧ e.command = haltOf s a o)
          ∧ ∀ e ∈ t.sched.queue, e.node ≠ a)
      ∧ t.sched.queue = s.sched.queue.filter (fun e => (ownerOf s e.node).isNone)
      ∧ (ownsWinch → t.placement.winchCommand = some .stop)
      ∧ (¬ownsWinch → t.placement.winchCommand = s.placement.winchCommand)
      ∧ (ownsPump → t.placement.pumpCommand = some .stop)
      ∧ (¬ownsPump → t.placement.pumpCommand = s.placement.pumpCommand)
      ∧ (∀ a n, haltOf s a (.sc n) = .jackHold)
      ∧ (∀ c a, s.placement.config = some c → haltOf s a .pu = if a = c.winchNode then .winchStop else .pumpStop)
      ∧ t = { s with
          sched := { s.sched with queue := t.sched.queue, priority := t.sched.priority }
          placement := { s.placement with
            winchCommand := t.placement.winchCommand, pumpCommand := t.placement.pumpCommand } })

/-- R166, R173, R168: CONFIG_RING, CONFIG_SCHEDULE and LOAD_POLL: the ranges, and the item that each sets; a loaded
poll entry is due at once, and the polls of the entry already in flight no longer touch it, those in transmission
neither (DEDUCED, log 19). R152, R158: the forwarding path sends the oldest frame of the store whole (log 9); and an
own frame whose transmission has ended is entered in the in-flight table with its send time and its expiry by the ring
timeout that stands then (DESIGN CHOICE, log 26), unless it was discarded meanwhile (DEDUCED, log 8). That
FRAME_TRANSMITTED without an own frame in transmission, and FORWARD_TRANSMIT with nothing to forward, change nothing
is the model's choice (DESIGN CHOICE, log 14), and the ring clock as an operand is its reading too (DEDUCED, log 6).
-/
def Obligations.RingConfigurationAndPortBMoves : Prop :=
  (∀ (s : State) (tag : Nat), takesNow s →
    (∀ timeout, exec (.configRing tag timeout) s = .next (
        if 1 ≤ timeout ∧ timeout ≤ 50 then answered tag 0x48 none [] (s.onRing fun r => { r with timeout := timeout })
        else refused tag 0x48 .badValue s))
      ∧ (∀ p : ScheduleParams, exec (.configSchedule tag p) s = .next (
          if 1 ≤ p.high ∧ p.high ≤ 16 ∧ p.low < p.high ∧ 1 ≤ p.commandStarve ∧ p.commandStarve ≤ 50
              ∧ 1 ≤ p.pollStarve ∧ p.pollStarve ≤ 50 then
            answered tag 0x53 none [] (s.onSched fun d => { d with params := p })
          else refused tag 0x53 .badValue s))
      ∧ (∀ e cfg, 31 < e → exec (.loadPoll tag e cfg) s = .next (refused tag 0x51 .badValue s))
      ∧ (∀ e c, e ≤ 31 → pollConfigInRange c = false →
          exec (.loadPoll tag e (some c)) s = .next (refused tag 0x51 .badValue s))
      ∧ (∀ e c, e ≤ 31 → pollConfigInRange c = true →
          exec (.loadPoll tag e (some c)) s = .next (answered tag 0x51 none []
            ((detachPolls e s).onSched fun d =>
              { d with polls := put d.polls e (some { config := c, nextDue := now s, inFlight := false }) })))
      ∧ (∀ e, e ≤ 31 → exec (.loadPoll tag e none) s = .next (answered tag 0x51 none []
          ((detachPolls e s).onSched fun d => { d with polls := put d.polls e none }))))
    ∧ (∀ s : State, quiet s = true →
    (∀ bs rest, s.ring.transmitter = none → s.ring.store = bs :: rest →
        exec .forwardTransmit s = .next (s.onRing fun r => { r with store := rest, portB := bs }))
      ∧ (s.ring.transmitter ≠ none ∨ s.ring.store = [] → exec .forwardTransmit s = .next s)
      ∧ (∀ clock x, s.ring.transmitter = some x → x.discarded = false →
          exec (.frameTransmitted clock) s = .next (s.onRing fun r =>
            { r with
              clock := clock, transmitter := none, portB := x.frame
              inFlight := r.inFlight ++
                [{ tag := x.tag, kind := x.kind, dest := x.dest, sent := clock
                   expiry := clock + BitVec.ofNat 32 r.timeout, about := x.about }] }))
      ∧ (∀ clock x, s.ring.transmitter = some x → x.discarded = true →
          exec (.frameTransmitted clock) s = .next
            (s.onRing fun r => { r with clock := clock, transmitter := none, portB := x.frame }))
      ∧ (∀ clock, s.ring.transmitter = none → exec (.frameTransmitted clock) s = .next s))
    ∧ (∀ (s : State) (e : Nat),
    let freed (p : Particulars) : Particulars :=
      match p with
      | .poll e' slots d => if e' = e then .poll e' slots true else .poll e' slots d
      | p => p
    detachPolls e s = s.onRing fun r =>
      { r with
        inFlight := r.inFlight.map fun f => { f with about := freed f.about }
        transmitter := r.transmitter.map fun x => { x with about := freed x.about } })

/-- R172: the mode judgment of an insertion opportunity. R169, R170: in SAMPLING, or in ISSUING with no command
waiting, with no halt waiting and no response passed over twice, the due poll entry of the greatest lateness is sent,
the lower number of two; its next-due tick moves by its period and its in-flight mark is set. -/
def Obligations.ModesAreJudgedAndPollsSent : Prop :=
  (∀ s : State,
    let d := s.sched
    let late : Prop := ∃ e p, e < 32 ∧ pollAt s e = some p ∧ p.inFlight = false
      ∧ (now s - p.nextDue).toNat < 2 ^ 31 ∧ d.params.pollStarve ≤ (now s - p.nextDue).toNat
    let waits : Prop := ∃ e, d.queue.head? = some e ∧ d.params.commandStarve ≤ (now s - e.enqueued).toNat
    (d.mode = .sampling → (d.params.high ≤ d.queue.length ∨ waits) →
        judgeMode s = s.onSched fun d => { d with mode := .issuing, toIssuing := d.toIssuing + 1 })
      ∧ (d.mode = .sampling → ¬(d.params.high ≤ d.queue.length ∨ waits) → judgeMode s = s)
      ∧ (d.mode = .issuing → (d.queue.length ≤ d.params.low ∨ late) →
          judgeMode s = s.onSched fun d => { d with mode := .sampling, toSampling := d.toSampling + 1 })
      ∧ (d.mode = .issuing → ¬(d.queue.length ≤ d.params.low ∨ late) → judgeMode s = s))
    ∧ (∀ (s : State) (e : Nat) (p : Poll), quiet s = true → s.ring.transmitter = none → s.ring.store = [] →
    s.ring.state = .up → s.ring.inFlight.length < 4 →
    (judgeMode s).sched.mode = .sampling ∨ s.sched.queue = [] → s.sched.priority = [] → s.sched.passedOver < 2 →
    e < 32 → pollAt s e = some p → p.inFlight = false →
    (now s - p.nextDue).toNat < 2 ^ 31 →
    (∀ i q, i < 32 → i ≠ e → pollAt s i = some q → q.inFlight = false → (now s - q.nextDue).toNat < 2 ^ 31 →
      (now s - q.nextDue).toNat < (now s - p.nextDue).toNat
        ∨ ((now s - q.nextDue).toNat = (now s - p.nextDue).toNat ∧ e < i)) →
    ∃ t, exec .insertionOpportunity s = .next t
      ∧ pollAt t e = some { p with nextDue := now s + BitVec.ofNat 32 p.config.period, inFlight := true }
      ∧ (∀ i, i ≠ e → pollAt t i = pollAt s i)
      ∧ t.ring.transmitter = some
          { frame := ownFrame p.config.node 1 (nextTag s.ring.inFlight s.ring.tagCounter)
              (be 1 p.config.kind ++ be 1 p.config.slots.length ++ List.replicate (4 * p.config.slots.length) 0)
            tag := nextTag s.ring.inFlight s.ring.tagCounter, kind := .poll, dest := p.config.node
            about := .poll e p.config.slots false, discarded := false }
      ∧ t.sched.passedOver = (if s.ring.responses = [] then s.sched.passedOver else s.sched.passedOver + 1))

/-- R152, R158, R163, R170, R171: what an insertion opportunity does: nothing while port B is taken or four own frames
are in flight; a due probe out of UP; in UP, after the mode judgment, the front halt before all else, with the
last-sent record of its class and its tag; with no halt waiting, the front command of the queue, in ISSUING and in
SAMPLING where no poll is due and no response has been passed over twice; the front response when it has been passed
over twice in SAMPLING or when no other item waits; and nothing when nothing waits. R167, R170: what the last-sent
record of a sent command holds. -/
def Obligations.InsertionSendsTheFirstOfTheOrder : Prop :=
  (∀ s : State, quiet s = true →
    let tag := nextTag s.ring.inFlight s.ring.tagCounter
    let sent (kind : FrameKind) (code dest : Nat) (pay : List Byte) (about : Particulars) (u : State) : State :=
      u.onRing fun r =>
        { r with
          tagCounter := (tag + 1) % 256
          transmitter := some
            { frame := ownFrame dest code tag pay, tag := tag, kind := kind, dest := dest, about := about
              discarded := false } }
    let j := judgeMode s
    (s.ring.transmitter ≠ none ∨ s.ring.store ≠ [] → exec .insertionOpportunity s = .next s)
      ∧ (s.ring.transmitter = none → s.ring.store = [] → s.ring.state ≠ .up →
          (s.ring.probeDue = false → exec .insertionOpportunity s = .next s)
            ∧ (s.ring.probeDue = true → exec .insertionOpportunity s = .next
                (sent .probe 5 0 [] .none (s.onRing fun r => { r with probeDue := false }))))
      ∧ (s.ring.transmitter = none → s.ring.store = [] → s.ring.state = .up →
          (4 ≤ s.ring.inFlight.length → exec .insertionOpportunity s = .next s)
            ∧ (s.ring.inFlight.length < 4 →
                (∀ e rest, s.sched.priority = e :: rest →
                  exec .insertionOpportunity s = .next
                    (passOver (sent .command 2 e.node (commandBytes e.command) (.command e.origin e.command true)
                      (recordSent e.node e.command e.origin tag
                        (j.onSched fun d => { d with priority := rest })))))
                ∧ (∀ e rest, s.sched.priority = [] → j.sched.mode = .issuing → s.sched.queue = e :: rest →
                  exec .insertionOpportunity s = .next
                    (passOver (sent .command 2 e.node (commandBytes e.command) (.command e.origin e.command false)
                      (recordSent e.node e.command e.origin tag (j.onSched fun d => { d with queue := rest })))))
                ∧ (∀ e rest, s.sched.priority = [] → j.sched.mode = .sampling → s.sched.queue = e :: rest →
                  s.sched.passedOver ≠ 2 ∨ s.ring.responses = [] →
                  (∀ e p, pollAt s e = some p → p.inFlight = true ∨ 2 ^ 31 ≤ (now s - p.nextDue).toNat) →
                  exec .insertionOpportunity s = .next
                    (passOver (sent .command 2 e.node (commandBytes e.command) (.command e.origin e.command false)
                      (recordSent e.node e.command e.origin tag (j.onSched fun d => { d with queue := rest })))))
                ∧ (∀ r rest, s.sched.priority = [] → s.ring.responses = r :: rest →
                  (s.sched.passedOver = 2 ∧ j.sched.mode = .sampling)
                    ∨ (s.sched.queue = [] ∧ (s.sched.passedOver = 2 ∨ ∀ e p, pollAt s e = some p →
                        p.inFlight = true ∨ 2 ^ 31 ≤ (now s - p.nextDue).toNat)) →
                  exec .insertionOpportunity s = .next
                    (sent .mgmtResp 4 s.station.address (responsePayload r) .none
                      ((j.onRing fun g => { g with responses := rest }).onSched fun d => { d with passedOver := 0 })))
                ∧ (s.sched.priority = [] → s.sched.queue = [] → s.ring.responses = [] →
                  (∀ e p, pollAt s e = some p → p.inFlight = true ∨ 2 ^ 31 ≤ (now s - p.nextDue).toNat) →
                  exec .insertionOpportunity s = .next j))))
    ∧ (∀ (s : State) (node tag : Nat) (c : Command) (o : Owner), 1 ≤ node → node ≤ 62 →
    let t := recordSent node c o tag s
    lastSentAt t node (commandClass c) = some { command := c, origin := o, tag := tag, tick := now s }
      ∧ (∀ a k, 1 ≤ a → a ≠ node ∨ k ≠ commandClass c → lastSentAt t a k = lastSentAt s a k)
      ∧ t = { s with sched := { s.sched with lastSent := t.sched.lastSent } })

/-- R155, R162, R180, R84, R132: a loss of signal in UP breaks the ring: every own frame is discarded, a probe is due,
the queue and the failure counts are empty, and every unit that holds an anchor is idle, its anchor HALTED with cause
RING. In DOWN and BROKEN a loss of signal changes nothing. -/
def Obligations.LossOfSignalBreaksTheRing : Prop :=
  ∀ s : State, quiet s = true →
    (s.ring.state ≠ .up → exec .lossOfSignal s = .next s)
      ∧ (s.ring.state = .up → ∃ t, exec .lossOfSignal s = .next t
          ∧ t.ring.state = .broken ∧ t.ring.lossCount = 0 ∧ t.ring.inFlight = [] ∧ t.ring.probeDue = true
          ∧ t.ring.responses = s.ring.responses ∧ t.ring.owners = s.ring.owners ∧ t.ring.store = s.ring.store
          ∧ t.sched.queue = [] ∧ t.sched.passedOver = 0 ∧ (∀ a, failuresOf t a = 0)
          ∧ t.sched.lastSent = s.sched.lastSent
          ∧ (∀ e p, pollAt s e = some p → pollAt t e = some { p with inFlight := false })
          ∧ (∀ n, n < 4 → holdsAnchor s n = true → (stressAt t n).mode = .idle ∧ workOf t n = Work.clear
              ∧ (slotOf s n < 96 → (anchorAt t (slotOf s n)).phase = .halted
                  ∧ (anchorAt t (slotOf s n)).haltCause = some .ring))
          ∧ (∀ n, holdsAnchor s n = false → stressAt t n = stressAt s n)
          ∧ (∀ r, s.placement.mode ≠ .idle → s.placement.run = some r → t.placement.mode = .idle
              ∧ t.placement.run = none ∧ (r.slot < 96 → (anchorAt t r.slot).phase = .halted
                ∧ (anchorAt t r.slot).haltCause = some .ring))
          ∧ t.measure = s.measure ∧ t.trip = s.trip ∧ t.station = s.station)

/-- R160, R161, R163: the expiry of an own frame's entry removes it as a loss: in UP the loss count advances and the
loss is handled by its kind, and the third in a row breaks the ring instead; out of UP a lost probe makes the next one
due. That ENTRY_EXPIRY of a tag not in flight changes nothing is the model's choice (DESIGN CHOICE, log 14), as is the
ring clock that an expiry sets (DEDUCED, log 6). R178, R179: a failed command below the third failure raises its
node's count and is re-entered unless it is superseded: a halt in the priority list, any other command at the back of
the queue, or, where the queue is full, dropped, with the originator's record of its class absent; the third failure
in a row sets the count to 0 and presents NODE_ABSENT to the node's owner. A taken command sets the count to 0. -/
def Obligations.LossesAreHandledByKind : Prop :=
  (∀ (s : State) (tag : Nat), quiet s = true →
    (s.ring.inFlight.find? (·.tag == tag) = none → exec (.entryExpiry tag) s = .next s)
      ∧ ∀ f, s.ring.inFlight.find? (·.tag == tag) = some f →
          let gone := s.onRing fun r =>
            { r with clock := f.expiry, inFlight := r.inFlight.filter fun g => g.tag ≠ f.tag }
          let counted := gone.onRing fun r => { r with lossCount := r.lossCount + 1 }
          (s.ring.state = .up → f.kind ≠ .probe → 2 ≤ s.ring.lossCount →
              exec (.entryExpiry tag) s = .next (runPass (breakRing gone)))
            ∧ (s.ring.state = .up → f.kind = .mgmtResp → f.about = .none → s.ring.lossCount < 2 →
                exec (.entryExpiry tag) s = .next counted)
            ∧ (∀ e slots, s.ring.state = .up → f.kind = .poll → f.about = .poll e slots false → s.ring.lossCount < 2 →
                exec (.entryExpiry tag) s = .next (counted.onPoll e fun p => { p with inFlight := false }))
            ∧ (∀ e slots, s.ring.state = .up → f.kind = .poll → f.about = .poll e slots true → s.ring.lossCount < 2 →
                exec (.entryExpiry tag) s = .next counted)
            ∧ (∀ o c pri, s.ring.state = .up → f.kind = .command → f.about = .command o c pri → s.ring.lossCount < 2 →
                exec (.entryExpiry tag) s = .next (runPass (reportFailed f.dest f.tag c o pri counted)))
            ∧ (s.ring.state ≠ .up → f.kind = .probe → f.about = .none →
                exec (.entryExpiry tag) s = .next (gone.onRing fun r => { r with probeDue := true })))
    ∧ (∀ (s : State) (node tag : Nat) (c : Command) (o : Owner) (pri : Bool), 1 ≤ node → node ≤ 62 →
    let raised := s.onSched fun d => { d with failures := put d.failures (node - 1) (failuresOf s node + 1) }
    let zeroed := s.onSched fun d => { d with failures := put d.failures (node - 1) 0 }
    let superseded : Prop :=
      (∃ e ∈ s.sched.queue, e.node = node ∧ commandClass e.command = commandClass c)
        ∨ (∃ e ∈ s.sched.priority, e.node = node)
        ∨ ¬ ∃ r, lastSentAt s node (commandClass c) = some r ∧ r.tag = tag
    (failuresOf s node < 2 → superseded → reportFailed node tag c o pri s = raised)
      ∧ (failuresOf s node < 2 → ¬superseded → pri = true →
          reportFailed node tag c o pri s = placeHalt node c o raised)
      ∧ (failuresOf s node < 2 → ¬superseded → pri = false → s.sched.queue.length < 16 →
          reportFailed node tag c o pri s = raised.onSched fun d =>
            { d with queue := d.queue ++ [{ node := node, command := c, origin := o, enqueued := now s }] })
      ∧ (failuresOf s node < 2 → ¬superseded → pri = false → 16 ≤ s.sched.queue.length →
          (∀ n, o = .sc n → commandClass c = .motion → (bindingOf s n).jack = node →
              reportFailed node tag c o pri s = raised.onWork n fun w => { w with commanded := none })
            ∧ (∀ k, o = .pu → commandClass c = .winch → s.placement.config = some k → k.winchNode = node →
              reportFailed node tag c o pri s = raised.onPlacement fun p => { p with winchCommand := none })
            ∧ (∀ k, o = .pu → commandClass c = .pump → s.placement.config = some k → k.pumpNode = node →
              reportFailed node tag c o pri s = raised.onPlacement fun p => { p with pumpCommand := none })
            ∧ (commandClass c = .seat → reportFailed node tag c o pri s = raised))
      ∧ (∀ n, 2 ≤ failuresOf s node → ownerOf s node = some (.sc n) →
          reportFailed node tag c o pri s = haltStress n .nodeAbsent zeroed)
      ∧ (2 ≤ failuresOf s node → ownerOf s node = some .pu →
          reportFailed node tag c o pri s = haltPlacement .nodeAbsent zeroed)
      ∧ (2 ≤ failuresOf s node → ownerOf s node = none → reportFailed node tag c o pri s = zeroed)
      ∧ reportTaken node s = zeroed ∧ failuresOf zeroed node = 0)

/-- R153, R154, R156: the disposition of a frame at port A that is no request of the station: a malformed or bad
frame, a late own frame (of no entry by tag, kind and destination) and an orphan are removed with one RING_ERROR, and
a bad frame that still names an own entry by its source and tag is the loss of that entry as well, handled by its kind
(R160, R161), after the RING_ERROR (DESIGN CHOICE, log 3); a foreign COMMAND that is guarded is forwarded with GUARDED
set as well; and every other foreign frame is forwarded with MASTER_PASSED set. R157, R190: a MGMT_REQ to address 0
from the station address, not yet TAKEN, is taken while fewer than 4 responses wait: its request is acted on, its
response queued and the frame forwarded with TAKEN and MASTER_PASSED set; a LOAD_PART frame acts as its row (R192); a
code or a body that spells no request is answered BAD_VALUE (logs 12 and 33), an empty payload under code 0 (DESIGN
CHOICE, log 13); otherwise it is forwarded with MASTER_PASSED set, its other marks as they came (DEDUCED, log 29, for TAKEN),
and nothing else is done. That a forwarded frame always finds room in the store is the model's choice (DESIGN CHOICE,
log 35), and the ring clock as an operand of the arrival is its reading (DEDUCED, log 6). -/
def Obligations.FramesAreDisposedOf : Prop :=
  (∀ (s : State) (clock : Word32) (bs : List Byte), quiet s = true →
    let at' := s.onRing fun r => { r with clock := clock }
    let good : Prop := malformed bs = false ∧ crcGood bs = true
    let source := byteAt bs 1
    let foreign : Prop := good ∧ source ≠ 0 ∧ source ≠ 63 ∧ (bs[3]?.getD 0) &&& 4 = 0
    let request : Prop := byteAt bs 2 = 3 ∧ byteAt bs 0 = 0
    let guards : Prop := byteAt bs 2 = 2 ∧ haltPayload (payload bs) = false
      ∧ (ownerOf s (byteAt bs 0) ≠ none ∨ (byteAt bs 0 = 63 ∧ ∃ a, a ≤ 62 ∧ ownerOf s a ≠ none))
    (¬good → (bs.length < 5 ∨ source ≠ 0 ∨ ∀ f ∈ s.ring.inFlight, f.tag ≠ byteAt bs 4) →
        exec (.frameArrival clock bs) s = .next (runPass (observe .ringError at')))
      ∧ (∀ f, ¬good → 5 ≤ bs.length → source = 0 → s.ring.inFlight.find? (·.tag == byteAt bs 4) = some f →
          let seen := observe .ringError at'
          let gone := seen.onRing fun r => { r with inFlight := r.inFlight.filter fun g => g.tag ≠ f.tag }
          let counted := gone.onRing fun r => { r with lossCount := r.lossCount + 1 }
          (s.ring.state = .up → f.kind ≠ .probe → 2 ≤ s.ring.lossCount →
              exec (.frameArrival clock bs) s = .next (runPass (breakRing gone)))
            ∧ (s.ring.state = .up → f.kind ≠ .probe → s.ring.lossCount < 2 →
                (f.about = .none → exec (.frameArrival clock bs) s = .next (runPass counted))
                ∧ (∀ e slots, f.about = .poll e slots false → exec (.frameArrival clock bs) s = .next
                    (runPass (counted.onPoll e fun p => { p with inFlight := false })))
                ∧ (∀ e slots, f.about = .poll e slots true →
                    exec (.frameArrival clock bs) s = .next (runPass counted))
                ∧ (∀ o c pri, f.about = .command o c pri → exec (.frameArrival clock bs) s = .next
                    (runPass (reportFailed f.dest f.tag c o pri counted))))
            ∧ (s.ring.state ≠ .up → f.kind = .probe → f.about = .none → exec (.frameArrival clock bs) s = .next
                (runPass (gone.onRing fun r => { r with probeDue := true }))))
      ∧ (good → source = 0 → (∀ f ∈ s.ring.inFlight,
            f.tag ≠ byteAt bs 4 ∨ frameKindCode f.kind ≠ byteAt bs 2 ∨ f.dest ≠ byteAt bs 0) →
          exec (.frameArrival clock bs) s = .next (runPass (observe .ringError at')))
      ∧ (good → source = 63 ∨ (source ≠ 0 ∧ (bs[3]?.getD 0) &&& 4 ≠ 0) →
          exec (.frameArrival clock bs) s = .next (runPass (observe .ringError at')))
      ∧ (foreign → guards → exec (.frameArrival clock bs) s = .next
          (at'.onRing fun r => { r with store := r.store ++ [remark 6 bs] }))
      ∧ (foreign → ¬request → ¬guards → exec (.frameArrival clock bs) s = .next
          (at'.onRing fun r => { r with store := r.store ++ [remark 4 bs] })))
    ∧ (∀ (s : State) (clock : Word32) (bs : List Byte), quiet s = true →
    malformed bs = false → crcGood bs = true → byteAt bs 0 = 0 → byteAt bs 2 = 3 → byteAt bs 1 ≠ 0 → byteAt bs 1 ≠ 63 →
    (bs[3]?.getD 0) &&& 4 = 0 →
    let at' := s.onRing fun r => { r with clock := clock }
    let takes : Prop := byteAt bs 1 = s.station.address ∧ (bs[3]?.getD 0) &&& 1 = 0 ∧ s.ring.responses.length < 4
    let code := byteAt (payload bs) 0
    (¬takes → exec (.frameArrival clock bs) s = .next
        (at'.onRing fun r => { r with store := r.store ++ [remark 4 bs] }))
      ∧ (∀ r : Request, takes → byteAt (payload bs) 0 = requestCode r →
          decodeRequest (requestCode r) ((payload bs).drop 1) = some r → ∃ t u,
          exec (rowOf (byteAt bs 4) r) at' = .next u ∧ exec (.frameArrival clock bs) s = .next t
            ∧ t = { u with ring := { u.ring with store := u.ring.store ++ [remark 5 bs] } })
      ∧ (takes →
          (if code = 0x63 then takePart ((payload bs).drop 1) = none else decodeRequest code ((payload bs).drop 1) = none) →
          exec (.frameArrival clock bs) s = .next ((refused (byteAt bs 4) code .badValue at').onRing fun r =>
            { r with store := r.store ++ [remark 5 bs] }))
      ∧ (∀ target part last bytes, takes → code = 0x63 →
          takePart ((payload bs).drop 1) = some (target, part, last, bytes) → ∃ t u,
          exec (.loadPart (byteAt bs 4) target part last bytes) at' = .next u ∧ exec (.frameArrival clock bs) s = .next t
            ∧ t = { u with ring := { u.ring with store := u.ring.store ++ [remark 5 bs] } })
      ∧ (takes → payload bs = [] →
          exec (.frameArrival clock bs) s = .next ((refused (byteAt bs 4) 0 .badValue at').onRing fun r =>
            { r with store := r.store ++ [remark 5 bs] })))

/-- R159, R164, R178: the return of an own frame: its entry is removed and the loss count is 0; a poll that was TAKEN
delivers its mapped slots in order by the mapping it was sent with, each a change of its own (log 3), with the end of a
measurement that it starts with a T of 0 (R49), and clears its entry's in-flight mark unless LOAD_POLL has loaded the entry since (R168); and a wrong slot count or length is one
RING_ERROR; a command is reported as taken, or as failed; a probe out of UP raises the ring, with the halt sweep and a
hand-out pass. The ring clock as an operand of the arrival is the model's reading (DEDUCED, log 6). -/
def Obligations.ReturnsAreJudgedByKind : Prop :=
  ∀ (s : State) (clock : Word32) (bs : List Byte) (f : InFlight), quiet s = true →
    malformed bs = false → crcGood bs = true → byteAt bs 1 = 0 → matchingEntry s bs = some f →
    let gone := s.onRing fun r =>
      { r with clock := clock, inFlight := r.inFlight.filter (fun g => g.tag ≠ f.tag), lossCount := 0 }
    let taken : Prop := (bs[3]?.getD 0) &&& 1 ≠ 0
    (∀ o c pri, f.about = .command o c pri → taken →
        exec (.frameArrival clock bs) s = .next (reportTaken f.dest gone))
      ∧ (∀ o c pri, f.about = .command o c pri → ¬taken →
          exec (.frameArrival clock bs) s = .next (runPass (reportFailed f.dest f.tag c o pri gone)))
      ∧ (f.about = .none → f.kind ≠ .probe → exec (.frameArrival clock bs) s = .next gone)
      ∧ (f.about = .none → f.kind = .probe → s.ring.state ≠ .up →
          exec (.frameArrival clock bs) s = .next (afterPass
            (haltSweep (gone.onRing fun r => { r with state := .up, probeDue := false })).startPass))
      ∧ (∀ e slots loaded, f.about = .poll e slots loaded → ¬taken →
          exec (.frameArrival clock bs) s = .next
            (if loaded = true then gone else gone.onPoll e fun p => { p with inFlight := false }))
      ∧ (∀ e slots loaded, f.about = .poll e slots loaded → taken →
          let ended := if loaded = true then gone else gone.onPoll e fun p => { p with inFlight := false }
          (byteAt (payload bs) 1 = slots.length → (payload bs).length = 2 + 4 * slots.length →
              exec (.frameArrival clock bs) s = .next (runPass (slots.zipIdx.foldl (fun u p =>
                match p.1 with
                | some m => runPass (endEmpty (deliver m (slotValue (payload bs) p.2) u))
                | none => u) ended)))
            ∧ (byteAt (payload bs) 1 ≠ slots.length ∨ (payload bs).length ≠ 2 + 4 * slots.length →
              exec (.frameArrival clock bs) s = .next (runPass (observe .ringError ended))))

/-! ### The test log (10) -/

/-- R184, R185: an ordinary record is taken while the log holds fewer than 2016 entries and is otherwise dropped by
the writers that drop; a reserve record is taken where it fits into 2048 and otherwise sets OVERRUN; a record that is
taken has its entries at the back, head first, under consecutive numbers, the number of continuations and 7 data bytes
in the head, 8 more in each continuation, padded with 0 (section 8.8). R188, R186, R189: TRIM_LOG frees through the
end of the record that holds the named entry, so the log begins with a head again, and answers the new oldest number
and occupancy; SET_WATERMARK sets the watermark in its range; both judge the attention mark at once; CLEAR_OVERRUN
clears the OVERRUN mark. That TRIM_LOG presents no held record in its own change, but through HELD_RECORD_WRITE right
after it, is the model's choice (DESIGN CHOICE, log 2). -/
def Obligations.LogTakesTrimsAndMarks : Prop :=
  (∀ (s : State) (r : LogRecord), logInOrder s.log →
    let k := 1 + (min 63 r.data.length - 7 + 7) / 8
    let byte (j : Nat) : Byte := if j < 63 then r.data[j]?.getD 0 else 0
    (s.log.entries.length < 2016 → writeOrDrop r s = s.onLog (appendRecord r))
      ∧ (2016 ≤ s.log.entries.length → writeOrDrop r s = s)
      ∧ (s.log.entries.length + k ≤ 2048 → writeReserve r s = s.onLog (appendRecord r))
      ∧ (2048 < s.log.entries.length + k → writeReserve r s = s.onLog fun l => { l with overrun := true })
      ∧ (∃ new : List LogEntry, (appendRecord r s.log).entries = s.log.entries ++ new ∧ new.length = k
          ∧ (∀ i e, new[i]? = some e →
              e.seq = s.log.next + BitVec.ofNat 32 i ∧ e.tick = r.tick ∧ e.unit = r.unit ∧ e.slot = r.slot
                ∧ e.data.length = 8 ∧ (e.kind = 15 ↔ i ≠ 0) ∧ (i ≠ 0 → e.detail = i)
                ∧ (i = 0 → e.kind = recordKindCode r.kind ∧ e.detail = r.detail
                  ∧ e.data = BitVec.ofNat 8 (k - 1) :: (List.range 7).map byte)
                ∧ (i ≠ 0 → e.data = (List.range 8).map fun j => byte (7 + 8 * (i - 1) + j)))
          ∧ (appendRecord r s.log).next = s.log.next + BitVec.ofNat 32 k))
    ∧ (∀ (s : State) (tag : Nat), takesNow s → logInOrder s.log →
    (∀ seq : Word32, s.log.entries.length ≤ (seq - s.log.oldest).toNat →
        exec (.trimLog tag seq) s = .next (refused tag 0x59 .notFound s))
      ∧ (∀ seq : Word32, (seq - s.log.oldest).toNat < s.log.entries.length → ∃ rest kept : List LogEntry,
          s.log.entries.drop ((seq - s.log.oldest).toNat + 1) = rest ++ kept
            ∧ (∀ e ∈ rest, e.kind = 15) ∧ (∀ e, kept.head? = some e → e.kind ≠ 15)
            ∧ (let oldest := s.log.oldest + BitVec.ofNat 32 (s.log.entries.length - kept.length)
              exec (.trimLog tag seq) s = .next (answered tag 0x59 none (be 4 oldest.toNat ++ be 2 kept.length)
                (s.onLog fun l =>
                  { l with
                    entries := kept, oldest := oldest, attention := decide (l.watermark ≤ kept.length) }))))
      ∧ (∀ w, exec (.setWatermark tag w) s = .next (
          if 1 ≤ w ∧ w ≤ 2016 then
            answered tag 0x5A none [] (s.onLog fun l =>
              { l with watermark := w, attention := decide (w ≤ l.entries.length) })
          else refused tag 0x5A .badValue s))
      ∧ exec (.clearOverrun tag) s = .next (answered tag 0x5B none [] (s.onLog fun l => { l with overrun := false })))

/-! ### Time, emergency stop, restart and long bodies (11) -/

/-- R194: the tick advance: the counts that every block keeps for it. R69, R77, R80, R102: the step elapsed, the
interval progress, the point counter and the lock window of a stressing channel, in each state that holds an anchor,
and the command choice that follows where the tick does not end the step (R68, R89, log 16). R123, R133, R119: the run
elapsed and the point counter of a placement run (0 with a point interval of 0, DESIGN CHOICE, log 28), its starvation
and its command. The judgments that the rules make at a tick stay open, to be carried out next (log 2), the order SC0
to SC3, PU of the command choices is log 3, and the ring clock's 100 times a tick is log 6. R195, R194, R10: SET_TIME
and the advance of the site minute set the time and make the cure evaluation: every CURING anchor whose completion
minute and cure minutes, added exactly, are reached becomes READY, and no other record changes; with an entry into
READY one hand-out pass is made. -/
def Obligations.TimeAdvancesAndCures : Prop :=
  (∀ s : State, quiet s = true →
    let counted : State :=
      { s with
        station := { s.station with
          tick := s.station.tick + 1, site := s.station.site.map fun p => (p.1, p.2 + 1) }
        ring := { s.ring with clock := BitVec.ofNat 32 (100 * (s.station.tick + 1).toNat) } }
    (∃ t, exec .tickAdvance s = .next t
        ∧ t = runPass { tickPlacement ([0, 1, 2, 3].foldl tickStress counted) with tickOpen := true }
        ∧ ReaderFrame { counted with tickOpen := true } t)
      ∧ (∀ n, n < 4 → holdsAnchor s n = true → (∀ p, stepOf s n ≠ .lockoff p) →
          (workOf (tickStress s n) n).elapsed = min 4294967295 ((workOf s n).elapsed + 1)
            ∧ (workOf (tickStress s n) n).pointCounter =
                (if ((stressAt s n).mode = .running ∨ (stressAt s n).mode = .locking) ∧ 0 < pointInterval s n then
                  min 65535 ((workOf s n).pointCounter + 1) else (workOf s n).pointCounter))
      ∧ (∀ n, n < 4 → (stressAt s n).mode = .locking → (workOf s n).progress ≠ some .approach →
          (workOf (tickStress s n) n).window = (workOf s n).window - 1)
      ∧ (∀ n, holdsAnchor s n = false → tickStress s n = s))
    ∧ (∀ (s : State) (n : Nat), holdsAnchor s n = true →
    let w := workOf s n
    let mode := (stressAt s n).mode
    let elapsed := min 4294967295 (w.elapsed + 1)
    let ticked := s.onWork n fun w =>
      { w with
        elapsed := elapsed
        pointCounter := if (mode = .running ∨ mode = .locking) ∧ 0 < pointInterval s n then
          min 65535 (w.pointCounter + 1) else w.pointCounter
        settle := if mode = .running then w.settle.map fun d => { d with progress := d.progress + 1 } else w.settle
        window := if mode = .locking then w.window - 1 else w.window }
    let ends : Prop :=
      (∃ p, (stepOf s n = .loadTo p ∨ stepOf s n = .unloadTo p) ∧ p.timeout ≤ elapsed)
        ∨ (∃ p, stepOf s n = .lockoff p ∧ w.progress = some .approach ∧ (borrowed s n).timeout ≤ elapsed)
        ∨ ∃ p, stepOf s n = .holdSettle p
          ∧ (p.maximum ≤ elapsed ∨ ∃ d, w.settle = some d ∧ p.interval ≤ d.progress + 1 ∧ p.limit ≤ d.count + 1)
    (mode = .running → ends → tickStress s n = ticked)
      ∧ (mode = .running → ¬ends → tickStress s n = chooseStanding n ticked)
      ∧ (mode = .locking → w.window ≤ 1 → tickStress s n = ticked)
      ∧ (mode = .locking → 1 < w.window → tickStress s n = chooseStanding n ticked)
      ∧ (mode = .stalled → tickStress s n = wantMotion n .hold ticked)
      ∧ (mode = .frozen → tickStress s n = ticked))
    ∧ (∀ (s : State) (c : PlacementConfig) (r : Run), s.placement.config = some c → s.placement.run = some r →
    let elapsed := min 65535 (r.elapsed + 1)
    let counted (starved : Bool) : State := s.onPlacement fun u =>
      { u with run := some { r with
          elapsed := elapsed, starved := starved
          pointCounter := if (classOf s r.slot).pointInterval = 0 then 0 else min 65535 (r.pointCounter + 1) } }
    (s.placement.mode = .winching → c.winchTimeout ≤ elapsed → tickPlacement s = counted r.starved)
      ∧ (s.placement.mode = .winching → elapsed < c.winchTimeout → tickPlacement s =
          if isFresh s c.payout = true then wantDrive .winching (.run r.speed) (counted false)
          else wantDrive .winching .stop (counted true))
      ∧ (s.placement.mode = .grouting → tickPlacement s =
          if isFresh s c.flow = true ∧ isFresh s c.ret = true then wantDrive .grouting (.run r.speed) (counted false)
          else wantDrive .grouting .stop (counted true))
      ∧ (s.placement.mode = .paused ∨ s.placement.mode = .idle → tickPlacement s = s))
    ∧ ((∀ s : State,
      let t := cureAll s
      let ready (slot : Nat) : Prop :=
        slot < 96 ∧ (anchorAt s slot).phase = .curing ∧ ∃ minute sub done d, s.station.site = some (minute, sub)
          ∧ (anchorAt s slot).completionMinute = some done ∧ (anchorAt s slot).design = some d
          ∧ done.toNat + d.cureMinutes ≤ minute.toNat
      (∀ slot, ready slot → anchorAt t slot = { anchorAt s slot with phase := .ready })
        ∧ (∀ slot, ¬ready slot → anchorAt t slot = anchorAt s slot)
        ∧ (t.passDue = true ↔ s.passDue = true ∨ ∃ slot, ready slot)
        ∧ ∃ slots, t = { s with anchorTable := { s.anchorTable with slots := slots }, passDue := t.passDue })
    ∧ (∀ (s : State) (tag : Nat) (minute : Word32), takesNow s →
        exec (.setTime tag minute) s = .next (runPass (answered tag 0x61 none []
          (cureAll (s.onStation fun t => { t with site := some (minute, 0) })))))
    ∧ (∀ (s : State) (minute : Word32) (sub : Nat), s.station.site = some (minute, sub) → 600 ≤ sub →
        exec .siteMinuteAdvance s = .next (runPass
          (cureAll (s.onStation fun t => { t with site := some (minute + 1, 0) })))))

/-- R196, R84, R132, R177: the assertion of the line latches ESTOP: every run halts with cause ESTOP (SC0 to SC3 and
then the placement unit, then the sweep, then the record, DESIGN CHOICE, log 3), every owned node has its unit's halt,
with the unit as originator, in the priority list and no entry in the queue, one HALT record with the number of swept
nodes is written as a reserve record after the halts' own, and no hand-out is made; while ESTOP is latched only the
line state changes. R197: CLEAR_ESTOP is refused while the line is asserted, and otherwise releases a latched ESTOP,
with a hand-out pass. -/
def Obligations.EstopHaltsEveryRunAndIsCleared : Prop :=
  (∀ s : State, quiet s = true →
    let swept := (List.range 62).countP fun i => (ownerOf s (i + 1)).isSome
    let r : LogRecord :=
      { tick := now s, kind := .halt, unit := 6, slot := 255, detail := 30, data := be 1 swept }
    let latched := s.onStation fun t => { t with line := true, estop := true }
    let halted := haltPlacement .estop ([0, 1, 2, 3].foldl (fun u n => haltStress n .estop u) latched)
    exec .estopLineDeasserted s = .next (s.onStation fun t => { t with line := false })
      ∧ (s.station.estop = true → exec .estopAsserted s = .next (s.onStation fun t => { t with line := true }))
      ∧ (s.station.estop = false → ∃ t, exec .estopAsserted s = .next t
          ∧ t.station = { s.station with line := true, estop := true }
          ∧ (∀ n, n < 4 → holdsAnchor s n = true → (stressAt t n).mode = .idle ∧ workOf t n = Work.clear
              ∧ (slotOf s n < 96 → (anchorAt t (slotOf s n)).phase = .halted
                  ∧ (anchorAt t (slotOf s n)).haltCause = some .estop))
          ∧ (∀ r, s.placement.mode ≠ .idle → s.placement.run = some r → t.placement.mode = .idle
              ∧ t.placement.run = none ∧ (r.slot < 96 → (anchorAt t r.slot).haltCause = some .estop))
          ∧ (∀ a o, ownerOf s a = some o →
              (∃ e ∈ t.sched.priority, e.node = a ∧ e.origin = o ∧ e.command = haltOf s a o)
                ∧ ∀ e ∈ t.sched.queue, e.node ≠ a)
          ∧ t = { haltSweep halted with
              passDue := false
              log := if occupancy halted.log + recordLength r ≤ 2048 then appendRecord r halted.log
                else { halted.log with overrun := true } }
          ∧ t.ring = s.ring ∧ t.trip = s.trip ∧ t.measure = s.measure ∧ t.sched.polls = s.sched.polls))
    ∧ (∀ (s : State) (tag : Nat), takesNow s →
    exec (.clearEstop tag) s = .next (
      if s.station.line = true then refused tag 0x65 .estop s
      else if s.station.estop = true then
        afterPass (answered tag 0x65 none [] (s.onStation fun t => { t with estop := false }).startPass)
      else answered tag 0x65 none [] s))

/-- R198, R16, R56, R59, R61, R114, R134, R141, R151, R157, R158, R161, R162, R167, R182, R194: what a RESTART leaves
of every block: the runs' anchors HALTED and every other record kept; the converter idle, a measurement in service
ended ABORTED (its T is log 27), the other last results kept, stored times and pending requests gone and the survey
ticks set anew; channels, placement unit, classifiers and counters at rest under their configurations; the log with
one HALT record of the halted anchors, or OVERRUN (its layout is log 11); the own frames discarded, one in
transmission as log 8 says; the halt of every owned node as the only command that waits; the response of the RESTART
as the only one; and no pass made. -/
def Obligations.RestartLeavesEveryBlockAsItsRule : Prop :=
  ∀ (s : State) (tag : Nat), takesNow s → ∃ t, exec (.restart tag) s = .next t
    ∧ (∀ slot, slot < 96 →
        (∀ h, ((anchorAt s slot).phase = .winching ∧ h = .winching) ∨ ((anchorAt s slot).phase = .grouting ∧ h = .grouting)
            ∨ ((anchorAt s slot).phase = .stressing ∧ h = .stressing) →
          anchorAt t slot =
            { anchorAt s slot with phase := .halted, haltedFrom := some h, haltCause := some .restart })
        ∧ ((anchorAt s slot).phase ≠ .winching → (anchorAt s slot).phase ≠ .grouting →
            (anchorAt s slot).phase ≠ .stressing → anchorAt t slot = anchorAt s slot))
    ∧ t.anchorTable.classes = s.anchorTable.classes ∧ t.anchorTable.order = s.anchorTable.order
    ∧ t.anchorTable.exclusion = s.anchorTable.exclusion ∧ t.measure = s.measure
    ∧ (s.gauge.cell = none → t.gauge = { s.gauge with cells := t.gauge.cells })
    ∧ (s.gauge.cell ≠ none → t.gauge =
        { s.gauge with
          phase := .idle, cell := none, inService := none, timeT := none, reused := false, cells := t.gauge.cells })
    ∧ (∀ c, c < 4 → cellAt t c =
        { config := (cellAt s c).config, storedT := none, pending := none
          nextSurvey :=
            match (cellAt s c).config with
            | some k => if k.surveyPeriod = 0 then none else some (now s + BitVec.ofNat 32 k.surveyPeriod)
            | none => none
          last :=
            if s.gauge.cell = some c then some
              { outcome := .aborted, endTick := now s, reused := s.gauge.reused, t := s.gauge.timeT, m := none
                g := none, saturated := none, served := s.gauge.inService.getD (newRequest 0) }
            else (cellAt s c).last })
    ∧ (∀ n, n < 4 → (stressAt t n).binding = (stressAt s n).binding ∧ (stressAt t n).autoTake = (stressAt s n).autoTake
        ∧ ((stressAt s n).mode = .unbound → stressAt t n = stressAt s n)
        ∧ ((stressAt s n).mode ≠ .unbound → (stressAt t n).mode = .idle ∧ workOf t n = Work.clear))
    ∧ t.placement.mode = .idle ∧ t.placement.run = none ∧ t.placement.config = s.placement.config
    ∧ (∀ x, x < 4 → classifierAt t x = { config := (classifierAt s x).config, mode := .quiet, start := none })
    ∧ t.trip.frozen = false ∧ t.trip.stationFreeze = false
    ∧ (∀ q, q < 8 → counterAt t q = { counterAt s q with value := 0, overflow := false, previous := false })
    ∧ (let runs := slots96.filter fun i =>
          (anchorAt s i).phase == .winching || (anchorAt s i).phase == .grouting || (anchorAt s i).phase == .stressing
        let entry (i : Nat) : List Byte := be 1 i ++ be 1 (match (anchorAt s i).phase with
          | .winching => 0
          | .grouting => 1
          | _ => 2)
        t.log = (writeReserve
          { tick := now s, kind := .halt, unit := 6, slot := 255, detail := 32
            data := be 1 runs.length ++ runs.flatMap entry } s).log)
    ∧ t.ring = { s.ring with
        inFlight := [], lossCount := 0, probeDue := !(s.ring.state == .up)
        responses := [{ tag := tag, code := 0x62, reason := none, body := [] }]
        transmitter := s.ring.transmitter.map fun x => { x with discarded := true } }
    ∧ t.sched = { s.sched with
        mode := .sampling, passedOver := 0, queue := [], failures := Vector.replicate 62 0
        polls := s.sched.polls.map fun p => p.map fun p => { p with inFlight := false }
        priority := nodes62.filterMap fun a => (ownerOf s a).map fun o =>
          { node := a, command := haltOf s a o, origin := o } }
    ∧ t.station = { s.station with assembly := none, longResponse := [] }
    ∧ t.tickOpen = false ∧ t.passDue = false ∧ t.pending = s.pending

/-- R192, R190: LOAD_PART collects a body part by part and hands the whole over as if it had arrived so, under the
target's code; a wrong part discards the assembly. READ_PART answers from the kept body. A code that no block owns,
and a body that its items do not fit, is refused BAD_VALUE. That READ_PART judges the part number before an empty
store is the model's choice (DESIGN CHOICE, log 31). -/
def Obligations.LongBodiesAreAssembledAndRead : Prop :=
  ∀ (s : State) (tag : Nat), takesNow s →
    (∀ target part last bytes, target = 0x63 ∨ target = 0x64 ∨ ownedCode target = false →
        exec (.loadPart tag target part last bytes) s = .next (refused tag 0x63 .badValue s))
      ∧ (∀ target part last bytes, target ≠ 0x63 → target ≠ 0x64 → ownedCode target = true → part ≤ 255 →
          bytes.length ≤ 119 →
          let emptied := s.onStation fun t => { t with assembly := none }
          (part ≠ 0 → (∀ a, s.station.assembly = some a → a.code ≠ target ∨ a.nextPart ≠ part) →
              exec (.loadPart tag target part last bytes) s = .next (refused tag 0x63 .badValue emptied))
            ∧ ∀ body, (part = 0 ∧ body = bytes)
                ∨ (part ≠ 0 ∧ ∃ a, s.station.assembly = some a ∧ a.code = target ∧ a.nextPart = part
                  ∧ body = a.bytes ++ bytes) →
                (1024 < body.length →
                    exec (.loadPart tag target part last bytes) s = .next (refused tag 0x63 .full emptied))
                  ∧ (body.length ≤ 1024 → last = false →
                    exec (.loadPart tag target part last bytes) s = .next (answered tag 0x63 none []
                      (s.onStation fun t =>
                        { t with assembly := some { code := target, bytes := body, nextPart := part + 1 } })))
                  ∧ (∀ r, body.length ≤ 1024 → last = true → decodeRequest target body = some r →
                    exec (.loadPart tag target part last bytes) s = exec (rowOf tag r) emptied)
                  ∧ (body.length ≤ 1024 → last = true → decodeRequest target body = none →
                    exec (.loadPart tag target part last bytes) s = .next (refused tag target .badValue emptied)))
      ∧ (∀ part, exec (.readPart tag part) s = .next (
          if part < 1 ∨ 255 < part then refused tag 0x64 .badValue s
          else if s.station.longResponse = [] then refused tag 0x64 .notFound s
          else answered tag 0x64 none ((s.station.longResponse.drop (120 * part)).take 120) s))
      ∧ (∀ code body, spellsRequest code body = false →
          exec (.unownedRequestCode tag code body) s = .next (refused tag code .badValue s))
end

