-- ==== Sys2Proof/Laws/State.lean ====
section
/-! SUPPORT. One lemma for each field of the state and each update of a block: what the update leaves as it was, and
what the updated block becomes. Later proofs unfold no update. -/

namespace Sys2Proof.Machine

open Sys2Proof

variable (s : State)

/-! ### `State.onAnchorTable` -/

@[simp] theorem State.onAnchorTable_anchorTable (f) : (s.onAnchorTable f).anchorTable = f s.anchorTable := rfl
@[simp] theorem State.onAnchorTable_measure (f) : (s.onAnchorTable f).measure = s.measure := rfl
@[simp] theorem State.onAnchorTable_gauge (f) : (s.onAnchorTable f).gauge = s.gauge := rfl
@[simp] theorem State.onAnchorTable_stress (f) : (s.onAnchorTable f).stress = s.stress := rfl
@[simp] theorem State.onAnchorTable_placement (f) : (s.onAnchorTable f).placement = s.placement := rfl
@[simp] theorem State.onAnchorTable_classifiers (f) : (s.onAnchorTable f).classifiers = s.classifiers := rfl
@[simp] theorem State.onAnchorTable_trip (f) : (s.onAnchorTable f).trip = s.trip := rfl
@[simp] theorem State.onAnchorTable_log (f) : (s.onAnchorTable f).log = s.log := rfl
@[simp] theorem State.onAnchorTable_ring (f) : (s.onAnchorTable f).ring = s.ring := rfl
@[simp] theorem State.onAnchorTable_sched (f) : (s.onAnchorTable f).sched = s.sched := rfl
@[simp] theorem State.onAnchorTable_station (f) : (s.onAnchorTable f).station = s.station := rfl
@[simp] theorem State.onAnchorTable_tickOpen (f) : (s.onAnchorTable f).tickOpen = s.tickOpen := rfl
@[simp] theorem State.onAnchorTable_passDue (f) : (s.onAnchorTable f).passDue = s.passDue := rfl
@[simp] theorem State.onAnchorTable_pending (f) : (s.onAnchorTable f).pending = s.pending := rfl

/-! ### `State.onMeasure` -/

@[simp] theorem State.onMeasure_anchorTable (f) : (s.onMeasure f).anchorTable = s.anchorTable := rfl
@[simp] theorem State.onMeasure_measure (f) : (s.onMeasure f).measure = f s.measure := rfl
@[simp] theorem State.onMeasure_gauge (f) : (s.onMeasure f).gauge = s.gauge := rfl
@[simp] theorem State.onMeasure_stress (f) : (s.onMeasure f).stress = s.stress := rfl
@[simp] theorem State.onMeasure_placement (f) : (s.onMeasure f).placement = s.placement := rfl
@[simp] theorem State.onMeasure_classifiers (f) : (s.onMeasure f).classifiers = s.classifiers := rfl
@[simp] theorem State.onMeasure_trip (f) : (s.onMeasure f).trip = s.trip := rfl
@[simp] theorem State.onMeasure_log (f) : (s.onMeasure f).log = s.log := rfl
@[simp] theorem State.onMeasure_ring (f) : (s.onMeasure f).ring = s.ring := rfl
@[simp] theorem State.onMeasure_sched (f) : (s.onMeasure f).sched = s.sched := rfl
@[simp] theorem State.onMeasure_station (f) : (s.onMeasure f).station = s.station := rfl
@[simp] theorem State.onMeasure_tickOpen (f) : (s.onMeasure f).tickOpen = s.tickOpen := rfl
@[simp] theorem State.onMeasure_passDue (f) : (s.onMeasure f).passDue = s.passDue := rfl
@[simp] theorem State.onMeasure_pending (f) : (s.onMeasure f).pending = s.pending := rfl

/-! ### `State.onGauge` -/

@[simp] theorem State.onGauge_anchorTable (f) : (s.onGauge f).anchorTable = s.anchorTable := rfl
@[simp] theorem State.onGauge_measure (f) : (s.onGauge f).measure = s.measure := rfl
@[simp] theorem State.onGauge_gauge (f) : (s.onGauge f).gauge = f s.gauge := rfl
@[simp] theorem State.onGauge_stress (f) : (s.onGauge f).stress = s.stress := rfl
@[simp] theorem State.onGauge_placement (f) : (s.onGauge f).placement = s.placement := rfl
@[simp] theorem State.onGauge_classifiers (f) : (s.onGauge f).classifiers = s.classifiers := rfl
@[simp] theorem State.onGauge_trip (f) : (s.onGauge f).trip = s.trip := rfl
@[simp] theorem State.onGauge_log (f) : (s.onGauge f).log = s.log := rfl
@[simp] theorem State.onGauge_ring (f) : (s.onGauge f).ring = s.ring := rfl
@[simp] theorem State.onGauge_sched (f) : (s.onGauge f).sched = s.sched := rfl
@[simp] theorem State.onGauge_station (f) : (s.onGauge f).station = s.station := rfl
@[simp] theorem State.onGauge_tickOpen (f) : (s.onGauge f).tickOpen = s.tickOpen := rfl
@[simp] theorem State.onGauge_passDue (f) : (s.onGauge f).passDue = s.passDue := rfl
@[simp] theorem State.onGauge_pending (f) : (s.onGauge f).pending = s.pending := rfl

/-! ### `State.onStress` -/

@[simp] theorem State.onStress_anchorTable (n) (f) : (s.onStress n f).anchorTable = s.anchorTable := rfl
@[simp] theorem State.onStress_measure (n) (f) : (s.onStress n f).measure = s.measure := rfl
@[simp] theorem State.onStress_gauge (n) (f) : (s.onStress n f).gauge = s.gauge := rfl
@[simp] theorem State.onStress_stress (n) (f) : (s.onStress n f).stress = put s.stress n (f (look s.stress n)) := rfl
@[simp] theorem State.onStress_placement (n) (f) : (s.onStress n f).placement = s.placement := rfl
@[simp] theorem State.onStress_classifiers (n) (f) : (s.onStress n f).classifiers = s.classifiers := rfl
@[simp] theorem State.onStress_trip (n) (f) : (s.onStress n f).trip = s.trip := rfl
@[simp] theorem State.onStress_log (n) (f) : (s.onStress n f).log = s.log := rfl
@[simp] theorem State.onStress_ring (n) (f) : (s.onStress n f).ring = s.ring := rfl
@[simp] theorem State.onStress_sched (n) (f) : (s.onStress n f).sched = s.sched := rfl
@[simp] theorem State.onStress_station (n) (f) : (s.onStress n f).station = s.station := rfl
@[simp] theorem State.onStress_tickOpen (n) (f) : (s.onStress n f).tickOpen = s.tickOpen := rfl
@[simp] theorem State.onStress_passDue (n) (f) : (s.onStress n f).passDue = s.passDue := rfl
@[simp] theorem State.onStress_pending (n) (f) : (s.onStress n f).pending = s.pending := rfl

/-! ### `State.onPlacement` -/

@[simp] theorem State.onPlacement_anchorTable (f) : (s.onPlacement f).anchorTable = s.anchorTable := rfl
@[simp] theorem State.onPlacement_measure (f) : (s.onPlacement f).measure = s.measure := rfl
@[simp] theorem State.onPlacement_gauge (f) : (s.onPlacement f).gauge = s.gauge := rfl
@[simp] theorem State.onPlacement_stress (f) : (s.onPlacement f).stress = s.stress := rfl
@[simp] theorem State.onPlacement_placement (f) : (s.onPlacement f).placement = f s.placement := rfl
@[simp] theorem State.onPlacement_classifiers (f) : (s.onPlacement f).classifiers = s.classifiers := rfl
@[simp] theorem State.onPlacement_trip (f) : (s.onPlacement f).trip = s.trip := rfl
@[simp] theorem State.onPlacement_log (f) : (s.onPlacement f).log = s.log := rfl
@[simp] theorem State.onPlacement_ring (f) : (s.onPlacement f).ring = s.ring := rfl
@[simp] theorem State.onPlacement_sched (f) : (s.onPlacement f).sched = s.sched := rfl
@[simp] theorem State.onPlacement_station (f) : (s.onPlacement f).station = s.station := rfl
@[simp] theorem State.onPlacement_tickOpen (f) : (s.onPlacement f).tickOpen = s.tickOpen := rfl
@[simp] theorem State.onPlacement_passDue (f) : (s.onPlacement f).passDue = s.passDue := rfl
@[simp] theorem State.onPlacement_pending (f) : (s.onPlacement f).pending = s.pending := rfl

/-! ### `State.onClassifier` -/

@[simp] theorem State.onClassifier_anchorTable (x) (f) : (s.onClassifier x f).anchorTable = s.anchorTable := rfl
@[simp] theorem State.onClassifier_measure (x) (f) : (s.onClassifier x f).measure = s.measure := rfl
@[simp] theorem State.onClassifier_gauge (x) (f) : (s.onClassifier x f).gauge = s.gauge := rfl
@[simp] theorem State.onClassifier_stress (x) (f) : (s.onClassifier x f).stress = s.stress := rfl
@[simp] theorem State.onClassifier_placement (x) (f) : (s.onClassifier x f).placement = s.placement := rfl
@[simp] theorem State.onClassifier_classifiers (x) (f) :
    (s.onClassifier x f).classifiers = put s.classifiers x (f (look s.classifiers x)) := rfl
@[simp] theorem State.onClassifier_trip (x) (f) : (s.onClassifier x f).trip = s.trip := rfl
@[simp] theorem State.onClassifier_log (x) (f) : (s.onClassifier x f).log = s.log := rfl
@[simp] theorem State.onClassifier_ring (x) (f) : (s.onClassifier x f).ring = s.ring := rfl
@[simp] theorem State.onClassifier_sched (x) (f) : (s.onClassifier x f).sched = s.sched := rfl
@[simp] theorem State.onClassifier_station (x) (f) : (s.onClassifier x f).station = s.station := rfl
@[simp] theorem State.onClassifier_tickOpen (x) (f) : (s.onClassifier x f).tickOpen = s.tickOpen := rfl
@[simp] theorem State.onClassifier_passDue (x) (f) : (s.onClassifier x f).passDue = s.passDue := rfl
@[simp] theorem State.onClassifier_pending (x) (f) : (s.onClassifier x f).pending = s.pending := rfl

/-! ### `State.onTrip` -/

@[simp] theorem State.onTrip_anchorTable (f) : (s.onTrip f).anchorTable = s.anchorTable := rfl
@[simp] theorem State.onTrip_measure (f) : (s.onTrip f).measure = s.measure := rfl
@[simp] theorem State.onTrip_gauge (f) : (s.onTrip f).gauge = s.gauge := rfl
@[simp] theorem State.onTrip_stress (f) : (s.onTrip f).stress = s.stress := rfl
@[simp] theorem State.onTrip_placement (f) : (s.onTrip f).placement = s.placement := rfl
@[simp] theorem State.onTrip_classifiers (f) : (s.onTrip f).classifiers = s.classifiers := rfl
@[simp] theorem State.onTrip_trip (f) : (s.onTrip f).trip = f s.trip := rfl
@[simp] theorem State.onTrip_log (f) : (s.onTrip f).log = s.log := rfl
@[simp] theorem State.onTrip_ring (f) : (s.onTrip f).ring = s.ring := rfl
@[simp] theorem State.onTrip_sched (f) : (s.onTrip f).sched = s.sched := rfl
@[simp] theorem State.onTrip_station (f) : (s.onTrip f).station = s.station := rfl
@[simp] theorem State.onTrip_tickOpen (f) : (s.onTrip f).tickOpen = s.tickOpen := rfl
@[simp] theorem State.onTrip_passDue (f) : (s.onTrip f).passDue = s.passDue := rfl
@[simp] theorem State.onTrip_pending (f) : (s.onTrip f).pending = s.pending := rfl

/-! ### `State.onLog` -/

@[simp] theorem State.onLog_anchorTable (f) : (s.onLog f).anchorTable = s.anchorTable := rfl
@[simp] theorem State.onLog_measure (f) : (s.onLog f).measure = s.measure := rfl
@[simp] theorem State.onLog_gauge (f) : (s.onLog f).gauge = s.gauge := rfl
@[simp] theorem State.onLog_stress (f) : (s.onLog f).stress = s.stress := rfl
@[simp] theorem State.onLog_placement (f) : (s.onLog f).placement = s.placement := rfl
@[simp] theorem State.onLog_classifiers (f) : (s.onLog f).classifiers = s.classifiers := rfl
@[simp] theorem State.onLog_trip (f) : (s.onLog f).trip = s.trip := rfl
@[simp] theorem State.onLog_log (f) : (s.onLog f).log = f s.log := rfl
@[simp] theorem State.onLog_ring (f) : (s.onLog f).ring = s.ring := rfl
@[simp] theorem State.onLog_sched (f) : (s.onLog f).sched = s.sched := rfl
@[simp] theorem State.onLog_station (f) : (s.onLog f).station = s.station := rfl
@[simp] theorem State.onLog_tickOpen (f) : (s.onLog f).tickOpen = s.tickOpen := rfl
@[simp] theorem State.onLog_passDue (f) : (s.onLog f).passDue = s.passDue := rfl
@[simp] theorem State.onLog_pending (f) : (s.onLog f).pending = s.pending := rfl

/-! ### `State.onRing` -/

@[simp] theorem State.onRing_anchorTable (f) : (s.onRing f).anchorTable = s.anchorTable := rfl
@[simp] theorem State.onRing_measure (f) : (s.onRing f).measure = s.measure := rfl
@[simp] theorem State.onRing_gauge (f) : (s.onRing f).gauge = s.gauge := rfl
@[simp] theorem State.onRing_stress (f) : (s.onRing f).stress = s.stress := rfl
@[simp] theorem State.onRing_placement (f) : (s.onRing f).placement = s.placement := rfl
@[simp] theorem State.onRing_classifiers (f) : (s.onRing f).classifiers = s.classifiers := rfl
@[simp] theorem State.onRing_trip (f) : (s.onRing f).trip = s.trip := rfl
@[simp] theorem State.onRing_log (f) : (s.onRing f).log = s.log := rfl
@[simp] theorem State.onRing_ring (f) : (s.onRing f).ring = f s.ring := rfl
@[simp] theorem State.onRing_sched (f) : (s.onRing f).sched = s.sched := rfl
@[simp] theorem State.onRing_station (f) : (s.onRing f).station = s.station := rfl
@[simp] theorem State.onRing_tickOpen (f) : (s.onRing f).tickOpen = s.tickOpen := rfl
@[simp] theorem State.onRing_passDue (f) : (s.onRing f).passDue = s.passDue := rfl
@[simp] theorem State.onRing_pending (f) : (s.onRing f).pending = s.pending := rfl

/-! ### `State.onSched` -/

@[simp] theorem State.onSched_anchorTable (f) : (s.onSched f).anchorTable = s.anchorTable := rfl
@[simp] theorem State.onSched_measure (f) : (s.onSched f).measure = s.measure := rfl
@[simp] theorem State.onSched_gauge (f) : (s.onSched f).gauge = s.gauge := rfl
@[simp] theorem State.onSched_stress (f) : (s.onSched f).stress = s.stress := rfl
@[simp] theorem State.onSched_placement (f) : (s.onSched f).placement = s.placement := rfl
@[simp] theorem State.onSched_classifiers (f) : (s.onSched f).classifiers = s.classifiers := rfl
@[simp] theorem State.onSched_trip (f) : (s.onSched f).trip = s.trip := rfl
@[simp] theorem State.onSched_log (f) : (s.onSched f).log = s.log := rfl
@[simp] theorem State.onSched_ring (f) : (s.onSched f).ring = s.ring := rfl
@[simp] theorem State.onSched_sched (f) : (s.onSched f).sched = f s.sched := rfl
@[simp] theorem State.onSched_station (f) : (s.onSched f).station = s.station := rfl
@[simp] theorem State.onSched_tickOpen (f) : (s.onSched f).tickOpen = s.tickOpen := rfl
@[simp] theorem State.onSched_passDue (f) : (s.onSched f).passDue = s.passDue := rfl
@[simp] theorem State.onSched_pending (f) : (s.onSched f).pending = s.pending := rfl

/-! ### `State.onStation` -/

@[simp] theorem State.onStation_anchorTable (f) : (s.onStation f).anchorTable = s.anchorTable := rfl
@[simp] theorem State.onStation_measure (f) : (s.onStation f).measure = s.measure := rfl
@[simp] theorem State.onStation_gauge (f) : (s.onStation f).gauge = s.gauge := rfl
@[simp] theorem State.onStation_stress (f) : (s.onStation f).stress = s.stress := rfl
@[simp] theorem State.onStation_placement (f) : (s.onStation f).placement = s.placement := rfl
@[simp] theorem State.onStation_classifiers (f) : (s.onStation f).classifiers = s.classifiers := rfl
@[simp] theorem State.onStation_trip (f) : (s.onStation f).trip = s.trip := rfl
@[simp] theorem State.onStation_log (f) : (s.onStation f).log = s.log := rfl
@[simp] theorem State.onStation_ring (f) : (s.onStation f).ring = s.ring := rfl
@[simp] theorem State.onStation_sched (f) : (s.onStation f).sched = s.sched := rfl
@[simp] theorem State.onStation_station (f) : (s.onStation f).station = f s.station := rfl
@[simp] theorem State.onStation_tickOpen (f) : (s.onStation f).tickOpen = s.tickOpen := rfl
@[simp] theorem State.onStation_passDue (f) : (s.onStation f).passDue = s.passDue := rfl
@[simp] theorem State.onStation_pending (f) : (s.onStation f).pending = s.pending := rfl

/-! ### `State.startPass` -/

@[simp] theorem State.startPass_anchorTable : (s.startPass).anchorTable = s.anchorTable := rfl
@[simp] theorem State.startPass_measure : (s.startPass).measure = s.measure := rfl
@[simp] theorem State.startPass_gauge : (s.startPass).gauge = s.gauge := rfl
@[simp] theorem State.startPass_stress : (s.startPass).stress = s.stress := rfl
@[simp] theorem State.startPass_placement : (s.startPass).placement = s.placement := rfl
@[simp] theorem State.startPass_classifiers : (s.startPass).classifiers = s.classifiers := rfl
@[simp] theorem State.startPass_trip : (s.startPass).trip = s.trip := rfl
@[simp] theorem State.startPass_log : (s.startPass).log = s.log := rfl
@[simp] theorem State.startPass_ring : (s.startPass).ring = s.ring := rfl
@[simp] theorem State.startPass_sched : (s.startPass).sched = s.sched := rfl
@[simp] theorem State.startPass_station : (s.startPass).station = s.station := rfl
@[simp] theorem State.startPass_tickOpen : (s.startPass).tickOpen = s.tickOpen := rfl
@[simp] theorem State.startPass_passDue : (s.startPass).passDue = true := rfl
@[simp] theorem State.startPass_pending : (s.startPass).pending = s.pending := rfl

/-! ### `State.onAnchor` -/

@[simp] theorem State.onAnchor_measure (i) (f) : (s.onAnchor i f).measure = s.measure := rfl
@[simp] theorem State.onAnchor_gauge (i) (f) : (s.onAnchor i f).gauge = s.gauge := rfl
@[simp] theorem State.onAnchor_stress (i) (f) : (s.onAnchor i f).stress = s.stress := rfl
@[simp] theorem State.onAnchor_placement (i) (f) : (s.onAnchor i f).placement = s.placement := rfl
@[simp] theorem State.onAnchor_classifiers (i) (f) : (s.onAnchor i f).classifiers = s.classifiers := rfl
@[simp] theorem State.onAnchor_trip (i) (f) : (s.onAnchor i f).trip = s.trip := rfl
@[simp] theorem State.onAnchor_log (i) (f) : (s.onAnchor i f).log = s.log := rfl
@[simp] theorem State.onAnchor_ring (i) (f) : (s.onAnchor i f).ring = s.ring := rfl
@[simp] theorem State.onAnchor_sched (i) (f) : (s.onAnchor i f).sched = s.sched := rfl
@[simp] theorem State.onAnchor_station (i) (f) : (s.onAnchor i f).station = s.station := rfl
@[simp] theorem State.onAnchor_tickOpen (i) (f) : (s.onAnchor i f).tickOpen = s.tickOpen := rfl
@[simp] theorem State.onAnchor_passDue (i) (f) : (s.onAnchor i f).passDue = s.passDue := rfl
@[simp] theorem State.onAnchor_pending (i) (f) : (s.onAnchor i f).pending = s.pending := rfl

/-! ### `State.onChannel` -/

@[simp] theorem State.onChannel_anchorTable (m) (f) : (s.onChannel m f).anchorTable = s.anchorTable := rfl
@[simp] theorem State.onChannel_gauge (m) (f) : (s.onChannel m f).gauge = s.gauge := rfl
@[simp] theorem State.onChannel_stress (m) (f) : (s.onChannel m f).stress = s.stress := rfl
@[simp] theorem State.onChannel_placement (m) (f) : (s.onChannel m f).placement = s.placement := rfl
@[simp] theorem State.onChannel_classifiers (m) (f) : (s.onChannel m f).classifiers = s.classifiers := rfl
@[simp] theorem State.onChannel_trip (m) (f) : (s.onChannel m f).trip = s.trip := rfl
@[simp] theorem State.onChannel_log (m) (f) : (s.onChannel m f).log = s.log := rfl
@[simp] theorem State.onChannel_ring (m) (f) : (s.onChannel m f).ring = s.ring := rfl
@[simp] theorem State.onChannel_sched (m) (f) : (s.onChannel m f).sched = s.sched := rfl
@[simp] theorem State.onChannel_station (m) (f) : (s.onChannel m f).station = s.station := rfl
@[simp] theorem State.onChannel_tickOpen (m) (f) : (s.onChannel m f).tickOpen = s.tickOpen := rfl
@[simp] theorem State.onChannel_passDue (m) (f) : (s.onChannel m f).passDue = s.passDue := rfl
@[simp] theorem State.onChannel_pending (m) (f) : (s.onChannel m f).pending = s.pending := rfl

/-! ### `State.onCell` -/

@[simp] theorem State.onCell_anchorTable (c) (f) : (s.onCell c f).anchorTable = s.anchorTable := rfl
@[simp] theorem State.onCell_measure (c) (f) : (s.onCell c f).measure = s.measure := rfl
@[simp] theorem State.onCell_stress (c) (f) : (s.onCell c f).stress = s.stress := rfl
@[simp] theorem State.onCell_placement (c) (f) : (s.onCell c f).placement = s.placement := rfl
@[simp] theorem State.onCell_classifiers (c) (f) : (s.onCell c f).classifiers = s.classifiers := rfl
@[simp] theorem State.onCell_trip (c) (f) : (s.onCell c f).trip = s.trip := rfl
@[simp] theorem State.onCell_log (c) (f) : (s.onCell c f).log = s.log := rfl
@[simp] theorem State.onCell_ring (c) (f) : (s.onCell c f).ring = s.ring := rfl
@[simp] theorem State.onCell_sched (c) (f) : (s.onCell c f).sched = s.sched := rfl
@[simp] theorem State.onCell_station (c) (f) : (s.onCell c f).station = s.station := rfl
@[simp] theorem State.onCell_tickOpen (c) (f) : (s.onCell c f).tickOpen = s.tickOpen := rfl
@[simp] theorem State.onCell_passDue (c) (f) : (s.onCell c f).passDue = s.passDue := rfl
@[simp] theorem State.onCell_pending (c) (f) : (s.onCell c f).pending = s.pending := rfl

/-! ### `State.onWork` -/

@[simp] theorem State.onWork_anchorTable (n) (f) : (s.onWork n f).anchorTable = s.anchorTable := rfl
@[simp] theorem State.onWork_measure (n) (f) : (s.onWork n f).measure = s.measure := rfl
@[simp] theorem State.onWork_gauge (n) (f) : (s.onWork n f).gauge = s.gauge := rfl
@[simp] theorem State.onWork_placement (n) (f) : (s.onWork n f).placement = s.placement := rfl
@[simp] theorem State.onWork_classifiers (n) (f) : (s.onWork n f).classifiers = s.classifiers := rfl
@[simp] theorem State.onWork_trip (n) (f) : (s.onWork n f).trip = s.trip := rfl
@[simp] theorem State.onWork_log (n) (f) : (s.onWork n f).log = s.log := rfl
@[simp] theorem State.onWork_ring (n) (f) : (s.onWork n f).ring = s.ring := rfl
@[simp] theorem State.onWork_sched (n) (f) : (s.onWork n f).sched = s.sched := rfl
@[simp] theorem State.onWork_station (n) (f) : (s.onWork n f).station = s.station := rfl
@[simp] theorem State.onWork_tickOpen (n) (f) : (s.onWork n f).tickOpen = s.tickOpen := rfl
@[simp] theorem State.onWork_passDue (n) (f) : (s.onWork n f).passDue = s.passDue := rfl
@[simp] theorem State.onWork_pending (n) (f) : (s.onWork n f).pending = s.pending := rfl

/-! ### `State.setMode` -/

@[simp] theorem State.setMode_anchorTable (n) (m) : (s.setMode n m).anchorTable = s.anchorTable := rfl
@[simp] theorem State.setMode_measure (n) (m) : (s.setMode n m).measure = s.measure := rfl
@[simp] theorem State.setMode_gauge (n) (m) : (s.setMode n m).gauge = s.gauge := rfl
@[simp] theorem State.setMode_placement (n) (m) : (s.setMode n m).placement = s.placement := rfl
@[simp] theorem State.setMode_classifiers (n) (m) : (s.setMode n m).classifiers = s.classifiers := rfl
@[simp] theorem State.setMode_trip (n) (m) : (s.setMode n m).trip = s.trip := rfl
@[simp] theorem State.setMode_log (n) (m) : (s.setMode n m).log = s.log := rfl
@[simp] theorem State.setMode_ring (n) (m) : (s.setMode n m).ring = s.ring := rfl
@[simp] theorem State.setMode_sched (n) (m) : (s.setMode n m).sched = s.sched := rfl
@[simp] theorem State.setMode_station (n) (m) : (s.setMode n m).station = s.station := rfl
@[simp] theorem State.setMode_tickOpen (n) (m) : (s.setMode n m).tickOpen = s.tickOpen := rfl
@[simp] theorem State.setMode_passDue (n) (m) : (s.setMode n m).passDue = s.passDue := rfl
@[simp] theorem State.setMode_pending (n) (m) : (s.setMode n m).pending = s.pending := rfl

/-! ### `State.onRun` -/

@[simp] theorem State.onRun_anchorTable (f) : (s.onRun f).anchorTable = s.anchorTable := rfl
@[simp] theorem State.onRun_measure (f) : (s.onRun f).measure = s.measure := rfl
@[simp] theorem State.onRun_gauge (f) : (s.onRun f).gauge = s.gauge := rfl
@[simp] theorem State.onRun_stress (f) : (s.onRun f).stress = s.stress := rfl
@[simp] theorem State.onRun_classifiers (f) : (s.onRun f).classifiers = s.classifiers := rfl
@[simp] theorem State.onRun_trip (f) : (s.onRun f).trip = s.trip := rfl
@[simp] theorem State.onRun_log (f) : (s.onRun f).log = s.log := rfl
@[simp] theorem State.onRun_ring (f) : (s.onRun f).ring = s.ring := rfl
@[simp] theorem State.onRun_sched (f) : (s.onRun f).sched = s.sched := rfl
@[simp] theorem State.onRun_station (f) : (s.onRun f).station = s.station := rfl
@[simp] theorem State.onRun_tickOpen (f) : (s.onRun f).tickOpen = s.tickOpen := rfl
@[simp] theorem State.onRun_passDue (f) : (s.onRun f).passDue = s.passDue := rfl
@[simp] theorem State.onRun_pending (f) : (s.onRun f).pending = s.pending := rfl

/-! ### `State.onPoll` -/

@[simp] theorem State.onPoll_anchorTable (e) (f) : (s.onPoll e f).anchorTable = s.anchorTable := rfl
@[simp] theorem State.onPoll_measure (e) (f) : (s.onPoll e f).measure = s.measure := rfl
@[simp] theorem State.onPoll_gauge (e) (f) : (s.onPoll e f).gauge = s.gauge := rfl
@[simp] theorem State.onPoll_stress (e) (f) : (s.onPoll e f).stress = s.stress := rfl
@[simp] theorem State.onPoll_placement (e) (f) : (s.onPoll e f).placement = s.placement := rfl
@[simp] theorem State.onPoll_classifiers (e) (f) : (s.onPoll e f).classifiers = s.classifiers := rfl
@[simp] theorem State.onPoll_trip (e) (f) : (s.onPoll e f).trip = s.trip := rfl
@[simp] theorem State.onPoll_log (e) (f) : (s.onPoll e f).log = s.log := rfl
@[simp] theorem State.onPoll_ring (e) (f) : (s.onPoll e f).ring = s.ring := rfl
@[simp] theorem State.onPoll_station (e) (f) : (s.onPoll e f).station = s.station := rfl
@[simp] theorem State.onPoll_tickOpen (e) (f) : (s.onPoll e f).tickOpen = s.tickOpen := rfl
@[simp] theorem State.onPoll_passDue (e) (f) : (s.onPoll e f).passDue = s.passDue := rfl
@[simp] theorem State.onPoll_pending (e) (f) : (s.onPoll e f).pending = s.pending := rfl

end Sys2Proof.Machine
end

