-- ==== Sys2Proof/Laws/Items.lean ====
section
/-! SUPPORT. Reading a numbered item after an update of one: the item updated, and every other item. -/

namespace Sys2Proof.Machine

open Sys2Proof

/-! ### Indexed collections -/

section
variable {α β : Type} [Inhabited α] [Inhabited β] {n : Nat} (v : Vector α n)

theorem look_of_lt (i : Nat) (h : i < n) : look v i = v[i] := by simp [look, h]

theorem look_of_le (i : Nat) (h : n ≤ i) : look v i = default := by
  simp [look, Vector.getElem?_eq_none h]

theorem look_put_same (i : Nat) (a : α) (h : i < n) : look (put v i a) i = a := by
  simp [look, put, h]

@[simp] theorem look_put_other (i j : Nat) (a : α) (h : ¬i = j) : look (put v i a) j = look v j := by
  simp [look, put, h]

omit [Inhabited α] in
theorem put_of_le (i : Nat) (a : α) (h : n ≤ i) : put v i a = v := by
  apply Vector.ext
  intro j hj
  simp only [put, Vector.getElem_setIfInBounds]
  split
  · omega
  · rfl

theorem look_put (i j : Nat) (a : α) : look (put v i a) j = if i = j ∧ i < n then a else look v j := by
  by_cases h : i = j
  · subst h
    by_cases hi : i < n
    · simp [look_put_same, hi]
    · simp [put_of_le v i a (by omega), hi]
  · simp [h]

@[simp] theorem put_look (i : Nat) : put v i (look v i) = v := by
  by_cases hi : i < n
  · apply Vector.ext
    intro j hj
    simp only [put, Vector.getElem_setIfInBounds, look_of_lt v i hi]
    split
    · subst_vars; rfl
    · rfl
  · exact put_of_le v i _ (by omega)

theorem look_map (f : α → β) (i : Nat) (h : i < n) : look (v.map f) i = f (look v i) := by
  simp [look, h]

@[simp] theorem look_replicate (a : α) (i : Nat) (h : i < n) : look (Vector.replicate n a) i = a := by
  simp [look, h]

end

/-! ### Numbered items of the state -/

variable (s : State)

theorem anchorAt_onAnchor (i j : Nat) (f : Anchor → Anchor) :
    anchorAt (s.onAnchor i f) j = if i = j ∧ i < 96 then f (anchorAt s i) else anchorAt s j :=
  look_put s.anchorTable.slots i j _

theorem channelAt_onChannel (i j : Nat) (f : Channel → Channel) :
    channelAt (s.onChannel i f) j = if i = j ∧ i < 24 then f (channelAt s i) else channelAt s j :=
  look_put s.measure.channels i j _

theorem cellAt_onCell (i j : Nat) (f : Cell → Cell) :
    cellAt (s.onCell i f) j = if i = j ∧ i < 4 then f (cellAt s i) else cellAt s j :=
  look_put s.gauge.cells i j _

theorem stressAt_onStress (i j : Nat) (f : Stress → Stress) :
    stressAt (s.onStress i f) j = if i = j ∧ i < 4 then f (stressAt s i) else stressAt s j :=
  look_put s.stress i j _

theorem classifierAt_onClassifier (i j : Nat) (f : Classifier → Classifier) :
    classifierAt (s.onClassifier i f) j = if i = j ∧ i < 4 then f (classifierAt s i) else classifierAt s j :=
  look_put s.classifiers i j _

/-! ### Reads of the state through its blocks -/

section
variable {s} {t : State}

theorem anchorAt_of_slots (h : t.anchorTable.slots = s.anchorTable.slots) (i : Nat) :
    anchorAt t i = anchorAt s i := by simp [anchorAt, h]

theorem channelAt_of_measure (h : t.measure = s.measure) (m : Nat) : channelAt t m = channelAt s m := by
  simp [channelAt, h]

theorem stressAt_of_stress (h : t.stress = s.stress) (n : Nat) : stressAt t n = stressAt s n := by
  simp [stressAt, h]

theorem ownerOf_of_owners (h : t.ring.owners = s.ring.owners) (a : Nat) : ownerOf t a = ownerOf s a := by
  simp [ownerOf, h]

theorem counterAt_of_trip (h : t.trip = s.trip) (q : Nat) : counterAt t q = counterAt s q := by
  simp [counterAt, h]

end

end Sys2Proof.Machine
end

