-- ==== Sys2Proof/Laws/Taking.lean ====
section
/-! SUPPORT. What carrying out what is due does to a quiet state, and with it the shapes of the meanings: an event
on a quiet state, and a request that is taken. -/

namespace Sys2Proof.Machine

open Sys2Proof Sys2Proof.Config

variable {s : State}

/-! ### A quiet state -/

theorem quiet_nextDue (h : quiet s = true) : nextDue s = none := by
  simp only [quiet, Bool.and_eq_true, Option.isNone_iff_eq_none] at h
  exact h.1.1

theorem quiet_tickOpen (h : quiet s = true) : s.tickOpen = false := by
  simp only [quiet, Bool.and_eq_true, Bool.not_eq_true'] at h
  exact h.1.2

theorem quiet_passDue (h : quiet s = true) : s.passDue = false := by
  simp only [quiet, Bool.and_eq_true, Bool.not_eq_true'] at h
  exact h.2

theorem settleLoop_of_nothing_due (fuel : Nat) (h : nextDue s = none) : settleLoop fuel s = s := by
  cases fuel with
  | zero => rfl
  | succ k => simp [settleLoop, h]

/-- Carrying out what is due changes nothing when nothing is. -/
theorem settle_of_quiet (h : quiet s = true) : settle s = s := by
  have hs := settleLoop_of_nothing_due settleFuel (quiet_nextDue h)
  have ht := quiet_tickOpen h
  simp only [settle, hs]
  cases s
  simp_all

/-! ### Hand-out passes -/

theorem runPass_of_none (h : s.passDue = false) : runPass s = s := by simp [runPass, h]

theorem runPass_of_due (h : s.passDue = true) : runPass s = afterPass s := by simp [runPass, h, afterPass]

/-- A pass under a condition that keeps it closed hands nothing out. -/
theorem handOut_of_closed (h : passOpen s = false) : handOut s = s := by simp [handOut, h]

theorem passLoop_of_none (fuel : Nat) (h : nextHandOut s = none) : passLoop fuel s = s := by
  cases fuel with
  | zero => rfl
  | succ k => simp [passLoop, h]

/-- A pass that finds no eligible entry, or no channel that can receive, hands nothing out. -/
theorem handOut_of_nothing (h : nextHandOut s = none) : handOut s = s := by
  simp only [handOut, passLoop_of_none _ h]
  split <;> rfl

/-! ### Responses -/

/-- A response in the queue, with the passed-over count and the long-response store. -/
theorem queueResponse_eq (tag code : Nat) (r : Reply) (s : State) :
    queueResponse tag code r s = answered tag code r.reason r.body s := by
  simp only [queueResponse, keepLong, answered, responseBody, longBody]
  by_cases h1 : 120 < r.body.length <;> by_cases h2 : s.ring.responses = [] <;>
    simp [h1, h2, State.onStation, State.onSched, State.onRing]

@[simp] theorem answered_passDue (tag code : Nat) (reason : Option Reason) (body : List Byte) (s : State) :
    (answered tag code reason body s).passDue = s.passDue := rfl

/-- The response of a request that started no pass. -/
theorem respond_of_none {tag code : Nat} {r : State × Reply} (h : r.1.passDue = false) :
    respond tag code r = answered tag code r.2.reason r.2.body r.1 := by
  simp only [respond, queueResponse_eq]
  exact runPass_of_none h

/-- The response of a request that started a pass. -/
theorem respond_of_due {tag code : Nat} {r : State × Reply} (h : r.1.passDue = true) :
    respond tag code r = afterPass (answered tag code r.2.reason r.2.body r.1) := by
  simp only [respond, queueResponse_eq]
  exact runPass_of_due h

/-! ### Meanings on a quiet state -/

/-- An event on a quiet state. -/
theorem event_of_quiet {act : State → State} (h : quiet s = true) : event act s = .next (runPass (act s)) := by
  simp [event, settle_of_quiet h]

/-- A request that is taken. -/
theorem request_of_takesNow {tag code : Nat} {act : State → State × Reply} (h : takesNow s) :
    request tag code act s = .next (respond tag code (act s)) := by
  simp [request, settle_of_quiet h.1, h.2]

end Sys2Proof.Machine
end

