-- ==== Sys2Proof/Laws/Converter.lean ====
section
/-! SUPPORT. The search of the gauge converter (R47) and the ends of sensing phases with a T of 0 (R49): what each can do
and what it leaves as it was. -/

namespace Sys2Proof.Machine

open Sys2Proof Sys2Proof.Config

variable {s : State}

/-! ### The search (R47) -/

theorem searchCells_of_busy (h : s.gauge.phase ≠ .idle) : searchCells s = s := by simp [searchCells, h]

theorem searchCells_of_none (h : nextRequest s = none) : searchCells s = s := by
  unfold searchCells; split <;> simp [h]

theorem searchCells_of_next {c : Nat} {r : CellRequest} (hi : s.gauge.phase = .idle)
    (h : nextRequest s = some (c, r)) : searchCells s = startOn c r s := by simp [searchCells, hi, h]

/-- All that the search can do: leave the state, at work or with nothing to find, or start a measurement. -/
theorem searchCells_cases (s : State) :
    (searchCells s = s ∧ (s.gauge.phase ≠ .idle ∨ nextRequest s = none))
      ∨ ∃ c r, s.gauge.phase = .idle ∧ nextRequest s = some (c, r) ∧ searchCells s = startOn c r s := by
  by_cases hi : s.gauge.phase = .idle
  · match h : nextRequest s with
    | none => exact .inl ⟨searchCells_of_none h, .inr rfl⟩
    | some (c, r) => exact .inr ⟨c, r, hi, rfl, searchCells_of_next hi h⟩
  · exact .inl ⟨searchCells_of_busy hi, .inl hi⟩

/-- What the start of a measurement touches beside the converter: nothing. -/
theorem startOn_frame (c : Nat) (r : CellRequest) (s : State) :
    startOn c r s = { s with gauge := (startOn c r s).gauge } := by
  unfold startOn; dsimp only; split <;> rfl

/-- What the search touches beside the converter: nothing. -/
theorem searchCells_frame (s : State) : searchCells s = { s with gauge := (searchCells s).gauge } := by
  obtain ⟨h, -⟩ | ⟨c, r, -, -, h⟩ := searchCells_cases s
  · rw [h]
  · rw [h]; exact startOn_frame c r s

@[simp] theorem searchCells_passDue (s : State) : (searchCells s).passDue = s.passDue := by rw [searchCells_frame]

@[simp] theorem searchCells_tickOpen (s : State) : (searchCells s).tickOpen = s.tickOpen := by rw [searchCells_frame]

@[simp] theorem searchCells_station (s : State) : (searchCells s).station = s.station := by rw [searchCells_frame]

@[simp] theorem searchCells_stress (s : State) : (searchCells s).stress = s.stress := by rw [searchCells_frame]

@[simp] theorem searchCells_ring (s : State) : (searchCells s).ring = s.ring := by rw [searchCells_frame]

@[simp] theorem searchCells_measure (s : State) : (searchCells s).measure = s.measure := by rw [searchCells_frame]

/-! ### A T of 0 (R49) -/

theorem endEmptyFor_of_none (fuel : Nat) (h : emptySensing s = none) : endEmptyFor fuel s = s := by
  cases fuel <;> simp [endEmptyFor, h]

theorem endEmpty_of_none (h : emptySensing s = none) : endEmpty s = s := endEmptyFor_of_none _ h

/-- Outside a sensing phase with a T of 0 there is none to end. -/
theorem emptySensing_of_phase (h : s.gauge.phase ≠ .sensing) : emptySensing s = none := by simp [emptySensing, h]

/-- A sensing phase with a T of 0 is the first row that falls due. -/
theorem nextDue_of_emptySensing {c : Nat} (h : emptySensing s = some c) : nextDue s = some .emptySensing := by
  simp [nextDue, allDue, isDue, h]

/-- A quiet state holds no sensing phase with a T of 0. -/
theorem endEmpty_of_quiet (h : quiet s = true) : endEmpty s = s := by
  refine endEmpty_of_none ?_
  match he : emptySensing s with
  | none => rfl
  | some c => exact absurd ((nextDue_of_emptySensing he).symm.trans (quiet_nextDue h)) nofun

end Sys2Proof.Machine
end

