-- ==== Sys2Proof/Laws/Frames.lean ====
section
/-! SUPPORT. What the running of a test leaves as it was. The stressing channels' acts, with the halts, records,
commands and cell requests that they make, touch the anchors' phases and results, the order list, the requests of the
cells, the channels' states and working data, the queue, the priority list, the log and the placement unit's recorded
commands, and nothing else: `TestFrame`. -/

namespace Sys2Proof.Machine

open Sys2Proof Sys2Proof.Config

/-! ### The converter in a frame -/

theorem sameConverter.phase {g h : Gauge} (hs : sameConverter g h) : h.phase = g.phase := by
  unfold sameConverter at hs
  have hp := congrArg Gauge.phase hs
  exact hp

theorem sameConverter.trans {g h k : Gauge} (hs : sameConverter g h) (hk : sameConverter h k) : sameConverter g k := by
  unfold sameConverter at *
  rw [← hk] at hs
  exact hs

/-- A converter that stands as it stood, or has started a measurement when IDLE, does so through two acts: a measurement
that one of them starts is not ended by the other. -/
theorem converter_trans {g h k : Gauge} (hh : ¬(g.phase = .idle ∧ h.phase ≠ .idle) → sameConverter g h)
    (hk : ¬(h.phase = .idle ∧ k.phase ≠ .idle) → sameConverter h k) :
    ¬(g.phase = .idle ∧ k.phase ≠ .idle) → sameConverter g k := by
  intro hn
  by_cases h1 : h.phase = .idle
  · by_cases h0 : g.phase = .idle
    · exact (hh fun c => c.2 h1).trans (hk fun c => hn ⟨h0, c.2⟩)
    · exact absurd ((hh fun c => h0 c.1).phase.symm.trans h1) h0
  · have k1 := hk fun c => h1 c.1
    exact (hh fun c => hn ⟨c.1, fun k0 => h1 (k1.phase.symm.trans k0)⟩).trans k1

namespace TestFrame

theorem refl (s : State) : TestFrame s s := by
  constructor <;> intros <;> rfl

theorem trans {s t u : State} (h : TestFrame s t) (k : TestFrame t u) : TestFrame s u where
  classes := k.classes.trans h.classes
  order := k.order.trans h.order
  exclusion := k.exclusion.trans h.exclusion
  design i := (k.design i).trans (h.design i)
  measure := k.measure.trans h.measure
  converter := converter_trans h.converter k.converter
  config c := (k.config c).trans (h.config c)
  storedT c := (k.storedT c).trans (h.storedT c)
  nextSurvey c := (k.nextSurvey c).trans (h.nextSurvey c)
  last c := (k.last c).trans (h.last c)
  binding n := (k.binding n).trans (h.binding n)
  autoTake n := (k.autoTake n).trans (h.autoTake n)
  unitMode := k.unitMode.trans h.unitMode
  unitConfig := k.unitConfig.trans h.unitConfig
  unitRun := k.unitRun.trans h.unitRun
  classifiers := k.classifiers.trans h.classifiers
  trip := k.trip.trans h.trip
  ring := k.ring.trans h.ring
  mode := k.mode.trans h.mode
  toIssuing := k.toIssuing.trans h.toIssuing
  toSampling := k.toSampling.trans h.toSampling
  params := k.params.trans h.params
  polls := k.polls.trans h.polls
  lastSent := k.lastSent.trans h.lastSent
  failures := k.failures.trans h.failures
  passedOver := k.passedOver.trans h.passedOver
  station := k.station.trans h.station
  tickOpen := k.tickOpen.trans h.tickOpen
  pending := k.pending.trans h.pending

/-- One more act behind those that a frame covers. -/
theorem after {s t u : State} (k : TestFrame t u) (h : TestFrame s t) : TestFrame s u := h.trans k

end TestFrame

/-! ### The updates a test makes -/

section
variable (s : State) (n : Nat)

theorem frame_onStress (f : Stress → Stress) (hb : ∀ c, (f c).binding = c.binding := by intro _; rfl)
    (ha : ∀ c, (f c).autoTake = c.autoTake := by intro _; rfl) : TestFrame s (s.onStress n f) where
  binding i := by
    rw [stressAt_onStress]; split
    · rename_i h; rw [hb, h.1]
    · rfl
  autoTake i := by
    rw [stressAt_onStress]; split
    · rename_i h; rw [ha, h.1]
    · rfl
  classes := rfl
  order := List.Sublist.refl _
  exclusion := rfl
  design _ := rfl
  measure := rfl
  converter _ := rfl
  config _ := rfl
  storedT _ := rfl
  nextSurvey _ := rfl
  last _ := rfl
  unitMode := rfl
  unitConfig := rfl
  unitRun := rfl
  classifiers := rfl
  trip := rfl
  ring := rfl
  mode := rfl
  toIssuing := rfl
  toSampling := rfl
  params := rfl
  polls := rfl
  lastSent := rfl
  failures := rfl
  passedOver := rfl
  station := rfl
  tickOpen := rfl
  pending := rfl

theorem frame_onWork (f : Work → Work) : TestFrame s (s.onWork n f) :=
  frame_onStress s n _

theorem frame_setMode (m : StressMode) : TestFrame s (s.setMode n m) :=
  frame_onStress s n _

theorem frame_onAnchor (f : Anchor → Anchor) (hd : ∀ a, (f a).design = a.design := by intro _; rfl) :
    TestFrame s (s.onAnchor n f) := by
  have h : ∀ i, (anchorAt (s.onAnchor n f) i).design = (anchorAt s i).design := by
    intro i
    rw [anchorAt_onAnchor]; split
    · rename_i h; rw [hd, h.1]
    · rfl
  constructor <;> first | exact h | (intros; rfl)

theorem frame_onLog (f : TestLog → TestLog) : TestFrame s (s.onLog f) := by
  constructor <;> intros <;> rfl

theorem frame_startPass : TestFrame s s.startPass := by
  constructor <;> intros <;> rfl

/-- A test's change of the order list. -/
theorem frame_onOrder (f : List Nat → List Nat) (hf : ∀ l, (f l).Sublist l) :
    TestFrame s (s.onAnchorTable fun t => { t with order := f t.order }) := by
  constructor <;> intros <;> first | rfl | exact hf _

/-- A test's change of the queue and of the priority list. -/
theorem frame_onLists (q : List QueueEntry → List QueueEntry) (p : List PriorityEntry → List PriorityEntry) :
    TestFrame s (s.onSched fun d => { d with priority := p d.priority, queue := q d.queue }) := by
  constructor <;> intros <;> rfl

/-- A test's change of a cell's pending request. -/
theorem frame_onPending (c : Nat) (f : Option CellRequest → Option CellRequest) :
    TestFrame s (s.onCell c fun x => { x with pending := f x.pending }) := by
  have h : ∀ i, cellAt (s.onCell c fun x => { x with pending := f x.pending }) i
      = if c = i ∧ c < 4 then { cellAt s c with pending := f (cellAt s c).pending } else cellAt s i :=
    fun i => cellAt_onCell s c i _
  constructor <;> first
    | (intro i; rw [h]; split
       · rename_i hi; rw [← hi.1]
       · rfl)
    | (intros; rfl)

/-- A test's change of the requesters in service. -/
theorem frame_onInService (f : Option CellRequest → Option CellRequest) :
    TestFrame s (s.onGauge fun g => { g with inService := f g.inService }) := by
  constructor <;> intros <;> rfl

end

/-! ### The shared operations -/

section
variable (s : State) (n : Nat)

theorem frame_writeReserve (r : LogRecord) : TestFrame s (writeReserve r s) := by
  unfold writeReserve; split <;> exact frame_onLog s _

theorem frame_writeOrDrop (r : LogRecord) : TestFrame s (writeOrDrop r s) := by
  unfold writeOrDrop; split
  · exact frame_onLog s _
  · exact TestFrame.refl s

theorem frame_present (node : Nat) (c : Command) (o : Owner) : TestFrame s (present node c o s) := by
  unfold present; split
  · exact frame_onLists s (queueWith (now s) node c o) id
  · exact TestFrame.refl s

theorem frame_recordStop (node : Nat) (c : Command) (o : Owner) : TestFrame s (recordStop node c o s) := by
  unfold recordStop; split
  · split
    · constructor <;> intros <;> rfl
    · exact TestFrame.refl s
  · split
    · constructor <;> intros <;> rfl
    · exact TestFrame.refl s
  · exact TestFrame.refl s

theorem frame_placeHalt (node : Nat) (c : Command) (o : Owner) : TestFrame s (placeHalt node c o s) :=
  (frame_onLists s (fun q => q.filter fun e => !(e.node == node)) (priorityWith s node c o)).trans
    (frame_recordStop _ node c o)

/-- R47: an IDLE converter that starts a measurement touches its own items, the requesters in service and the request of
the cell. -/
theorem frame_start (c : Nat) (r : CellRequest) (h : s.gauge.phase = .idle) : TestFrame s (startOn c r s) := by
  have h1 : TestFrame s (s.onCell c fun x => { x with pending := none }) := frame_onPending s c fun _ => none
  have h2 : (startOn c r s).gauge.phase ≠ .idle := by
    unfold startOn; dsimp only; split <;> exact nofun
  unfold startOn at h2 ⊢
  dsimp only at h2 ⊢
  constructor <;> first
    | exact fun hn => absurd ⟨h, h2⟩ hn
    | (split <;> first
        | exact h1.order
        | exact h1.design
        | exact h1.config
        | exact h1.storedT
        | exact h1.nextSurvey
        | exact h1.last
        | (intros; rfl))

theorem frame_searchCells : TestFrame s (searchCells s) := by
  unfold searchCells; split
  · split
    · exact frame_start s _ _ ‹_›
    · exact TestFrame.refl s
  · exact TestFrame.refl s

theorem frame_joinRequest (c : Nat) (f : CellRequest → CellRequest) : TestFrame s (joinRequest c f s) :=
  (frame_onPending s c fun p => some (f (p.getD (newRequest (now s))))).trans (frame_searchCells _)

theorem frame_withdrawRequest (c : Nat) : TestFrame s (withdrawRequest c n s) := by
  have h := frame_onPending s c fun p => p.bind fun r =>
    if r.waiting.contains n then withdrawPending n r else some r
  unfold withdrawRequest
  dsimp only
  split
  · exact h.trans (frame_onInService _ _)
  · exact h

theorem frame_haltAnchor (slot : Nat) (cause : HaltCause) : TestFrame s (haltAnchor slot cause s) :=
  frame_onAnchor s slot _

theorem frame_verdictAnchor (slot : Nat) (cause : Option RejectCause) :
    TestFrame s (verdictAnchor slot cause s) :=
  frame_onAnchor s slot _

theorem frame_admitAnchor (slot : Nat) : TestFrame s (admitAnchor slot s) :=
  (frame_onAnchor s slot (fun a => { a with phase := .stressing }) fun _ => rfl).trans
    (frame_onOrder _ (fun l => l.filter fun e => !(e == slot)) fun _ => List.filter_sublist)

end

/-! ### Holding and halting -/

section
variable (s : State) (n : Nat)

theorem frame_wantMotion (m : Motion) : TestFrame s (wantMotion n m s) := by
  unfold wantMotion; split
  · exact TestFrame.refl s
  · split
    · exact (frame_present s _ _ _).trans (frame_onWork _ n _)
    · exact TestFrame.refl s

theorem frame_holdByPriority : TestFrame s (holdByPriority n s) :=
  (frame_placeHalt s _ _ _).trans (frame_onWork _ n _)

theorem frame_stall (r : LogRecord) : TestFrame s (stall n r s) := by
  unfold stall
  exact (frame_wantMotion _ n _).after (frame_onStress s n _)

theorem frame_writeOrHold (r : LogRecord) : TestFrame s (writeOrHold n r s) := by
  unfold writeOrHold; split
  · exact frame_onLog s _
  · exact frame_stall s n r

theorem frame_leaveAnchor : TestFrame s (leaveAnchor n s) := by
  unfold leaveAnchor
  exact (frame_startPass _).after (frame_onStress s n _)

theorem frame_haltRun (cause : HaltCause) : TestFrame s (haltRun n cause s) :=
  (frame_placeHalt s _ _ _).trans <| (frame_withdrawRequest _ n _).trans <|
    (frame_writeReserve _ _).trans <| (frame_haltAnchor _ _ _).trans (frame_leaveAnchor _ n)

theorem frame_haltStress (cause : HaltCause) : TestFrame s (haltStress n cause s) := by
  unfold haltStress; split
  · exact frame_haltRun s n cause
  · exact TestFrame.refl s

theorem frame_freezeStress : TestFrame s (freezeStress s n) := by
  unfold freezeStress; split
  · exact (frame_setMode s n _).trans (frame_holdByPriority _ n)
  · exact (frame_setMode s n _).trans (frame_holdByPriority _ n)
  · exact frame_onWork s n _
  · exact TestFrame.refl s
  · exact TestFrame.refl s
  · exact TestFrame.refl s

end

/-- A frame kept by each of a list's acts is kept by all of them in turn. -/
theorem frame_foldl {α : Type} (f : State → α → State) (hf : ∀ s a, TestFrame s (f s a)) :
    ∀ (l : List α) (s : State), TestFrame s (l.foldl f s)
  | [], s => TestFrame.refl s
  | a :: l, s => (hf s a).trans (frame_foldl f hf l (f s a))

theorem frame_haltAllStress (s : State) (cause : HaltCause) : TestFrame s (haltAllStress cause s) :=
  frame_foldl (fun s n => haltStress n cause s) (fun s n => frame_haltStress s n cause) channels4 s

/-! ### The step machine -/

section
variable (s : State) (n : Nat)

theorem frame_openWindow (p : LockParams) : TestFrame s (openWindow n p s) := by
  unfold openWindow; dsimp only
  split
  · exact (frame_writeOrDrop _ _).after (frame_onStress s n _)
  · exact (frame_haltRun _ n _).after ((frame_writeOrDrop _ _).after (frame_onStress s n _))

theorem frame_presentSeat : TestFrame s (presentSeat n s) := by
  unfold presentSeat; split
  · split
    · exact (frame_present s _ _ _).trans (frame_openWindow _ n _)
    · exact TestFrame.refl s
  · exact TestFrame.refl s

theorem frame_chooseDirection (f : Int) (ok : Bool) : TestFrame s (chooseDirection n f ok s) := by
  unfold chooseDirection; split
  · split
    · exact frame_onWork s n _
    · exact TestFrame.refl s
  · exact TestFrame.refl s

theorem frame_choose (f : Int) (ok : Bool) : TestFrame s (choose n f ok s) := by
  unfold choose; dsimp only
  refine (frame_chooseDirection s n f ok).trans ?_
  split
  · exact (frame_wantMotion _ n _).trans (frame_presentSeat _ n)
  · exact frame_presentSeat _ n

theorem frame_chooseStanding : TestFrame s (chooseStanding n s) := by
  unfold chooseStanding; dsimp only; split
  · exact frame_choose s n _ _
  · exact TestFrame.refl s

theorem frame_judgeOutcome (o : OutcomeRecord) : TestFrame s (judgeOutcome n o s).1 := by
  unfold judgeOutcome
  split
  · split
    · exact frame_haltStress s n _
    · dsimp only; split
      · dsimp only; exact frame_onAnchor s _ _
      · dsimp only; exact (frame_haltStress _ n _).after (frame_onAnchor s _ _)
  · split
    · exact frame_haltStress s n _
    · dsimp only; split
      · dsimp only; exact frame_onAnchor s _ _
      · split <;> (dsimp only; exact frame_onAnchor s _ _)
  · exact TestFrame.refl s

theorem frame_recordOutcome (o : CellOutcome) (r : Option CellReading) :
    TestFrame s (recordOutcome n o r s).1 := by
  unfold recordOutcome; dsimp only; split
  · exact (frame_judgeOutcome _ n _).after (frame_onWork s n _)
  · dsimp only; exact frame_onWork s n _

theorem frame_requestCell : TestFrame s (requestCell n s).1 := by
  unfold requestCell; dsimp only; split
  · exact frame_recordOutcome s n _ _
  · dsimp only; exact (frame_joinRequest _ _ _).after (frame_onWork s n _)

theorem frame_giveVerdict : TestFrame s (giveVerdict n s) := by
  unfold giveVerdict; dsimp only
  refine TestFrame.trans ?_ ((frame_writeReserve _ _).trans
    ((frame_verdictAnchor _ _ _).trans (frame_leaveAnchor _ n)))
  split
  · exact TestFrame.refl s
  · exact frame_placeHalt s _ _ _

theorem frame_enterStep (k : Nat) : TestFrame s (enterStep n k s) := by
  unfold enterStep; dsimp only
  exact (frame_onWork _ n _).after (frame_onWork s n _)

theorem frame_startChoice : TestFrame s (startChoice n s) := by
  unfold startChoice; dsimp only; split
  · refine (frame_choose _ n _ _).after ?_
    unfold holdAtStart; split
    · exact (frame_onWork _ n _).after (frame_chooseDirection s n _ _)
    · exact frame_chooseDirection s n _ _
  · exact TestFrame.refl s

theorem frame_apparentStep : TestFrame s (apparentStep n s).1 := by
  unfold apparentStep; dsimp only; split
  · exact frame_onAnchor s _ _
  · exact TestFrame.refl s

theorem frame_startJudgment : TestFrame s (startJudgment n s).1 := by
  unfold startJudgment; split
  · exact frame_startChoice s n
  · exact frame_startChoice s n
  · exact frame_startChoice s n
  · exact frame_startChoice s n
  · exact frame_apparentStep s n
  · exact (frame_wantMotion s n _).trans (frame_requestCell _ n)
  · exact frame_startChoice s n
  · exact frame_giveVerdict s n

theorem frame_endStep (e : StepEnd) : TestFrame s (endStep n e s) := by
  unfold endStep; dsimp only
  exact (frame_writeOrHold s n _).trans ((frame_onWork _ n _).trans (frame_enterStep _ n _))

end

theorem frame_settleStep (n : Nat) :
    ∀ (fuel : Nat) (p : State × StepEnd), TestFrame p.1 (settleStep fuel n p)
  | 0, (s, _) => TestFrame.refl s
  | fuel + 1, (s, e) => by
    unfold settleStep; dsimp only; split
    · exact TestFrame.refl s
    · refine (frame_endStep s n e).trans ?_
      split
      · exact (frame_startJudgment _ n).trans (frame_settleStep n fuel _)
      · exact frame_onWork _ n _

/-! ### Samples, ticks, resume and the start of a test -/

section
variable (s : State) (n : Nat)

theorem frame_setOvershoot (b : Bool) : TestFrame s (setOvershoot n b s) := by
  unfold setOvershoot; split
  · exact frame_onWork s n _
  · exact TestFrame.refl s

theorem frame_judgeMove (load : Bool) (f : Int) (ok : Bool) : TestFrame s (judgeMove n load f ok s).1 := by
  unfold judgeMove; dsimp only; split
  · dsimp only; exact frame_onWork s n _
  · dsimp only; exact (frame_setOvershoot s n _).trans (frame_choose _ n _ _)

theorem frame_judgeApproach (p : LockParams) (f : Int) (ok : Bool) : TestFrame s (judgeApproach n p f ok s) := by
  unfold judgeApproach; split
  · exact frame_choose s n _ _
  · dsimp only
    generalize hs : (if ok = true then (chooseDirection n f ok s).onWork n fun w =>
      { w with approachPoint := some (f, valueOf s (bindingOf s n).extension) } else chooseDirection n f ok s) = s2
    have h2 : TestFrame s s2 := by
      rw [← hs]; split
      · exact (frame_onWork _ n _).after (frame_chooseDirection s n f ok)
      · exact frame_chooseDirection s n f ok
    split
    · exact (frame_choose _ n _ _).after ((frame_onWork _ n _).after h2)
    · exact (frame_choose _ n _ _).after ((frame_setOvershoot _ n _).after h2)

theorem frame_judgeForce (f : Int) (ok : Bool) : TestFrame s (judgeForce n f ok s).1 := by
  unfold judgeForce; split
  · exact frame_judgeMove s n _ _ _
  · exact frame_judgeMove s n _ _ _
  · split
    · exact frame_judgeApproach s n _ _ _
    · exact frame_choose s n _ _
  · exact frame_choose s n _ _
  · exact frame_choose s n _ _
  · exact frame_choose s n _ _
  · exact frame_choose s n _ _
  · exact frame_choose s n _ _

theorem frame_closeWindow (f : Int) : TestFrame s (closeWindow n f s).1 := by
  unfold closeWindow; dsimp only
  generalize hs : wantMotion n .hold _ = s3
  have h3 : TestFrame s s3 := by
    rw [← hs]
    exact (frame_wantMotion _ n _).after ((frame_writeOrDrop _ _).after (frame_onStress s n _))
  have h4 : TestFrame s
      (if ((workOf s n).deferredFreeze && s.trip.frozen) = true then freezeStress s3 n else s3) := by
    split
    · exact (frame_freezeStress _ n).after h3
    · exact h3
  split
  · exact (frame_haltStress _ n _).after h4
  · exact (frame_requestCell _ n).after h4

theorem frame_judgeLocking (f : Int) (k : Mark) : TestFrame s (judgeLocking n f k s).1 := by
  unfold judgeLocking; split
  · split
    · exact frame_closeWindow s n _
    · exact frame_choose s n _ _
  · exact TestFrame.refl s

theorem frame_forceSample (f : Int) (k : Mark) : TestFrame s (forceSample n f k s) := by
  unfold forceSample; split
  · exact TestFrame.refl s
  · split
    · exact frame_haltRun s n _
    · split
      · exact (frame_judgeForce s n _ _).trans (frame_settleStep n _ _)
      · exact (frame_judgeLocking s n _ _).trans (frame_settleStep n _ _)
      · exact TestFrame.refl s
      · exact TestFrame.refl s
      · exact TestFrame.refl s
      · exact TestFrame.refl s

theorem frame_creepSample (p : CreepParams) (v : Int) : TestFrame s (creepSample n p v s).1 := by
  unfold creepSample; dsimp only
  split
  · split
    · dsimp only; exact frame_onWork s n _
    · exact TestFrame.refl s
  · split
    · split <;> (dsimp only; exact (frame_onAnchor _ _ _).after (frame_onWork s n _))
    · exact TestFrame.refl s
  · split
    · exact TestFrame.refl s
    · split
      · split <;> (dsimp only; exact (frame_onAnchor _ _ _).after (frame_onWork s n _))
      · exact TestFrame.refl s

theorem frame_judgeExtension (v : Int) : TestFrame s (judgeExtension n v s).1 := by
  unfold judgeExtension; split
  · dsimp only; exact frame_onWork s n _
  · exact frame_creepSample s n _ _
  all_goals exact TestFrame.refl s

theorem frame_extensionSample (v : Int) : TestFrame s (extensionSample n v s) := by
  unfold extensionSample; split
  · exact TestFrame.refl s
  · split
    · exact frame_haltRun s n _
    · split
      · exact (frame_judgeExtension s n _).trans (frame_settleStep n _ _)
      · exact TestFrame.refl s

theorem frame_seatSample (v : Int) : TestFrame s (seatSample n v s) := by
  unfold seatSample; split
  · split
    · dsimp only; split
      · unfold completeSeating; dsimp only
        exact (frame_wantMotion _ n _).after ((frame_writeOrDrop _ _).after (frame_onWork s n _))
      · exact frame_onWork s n _
    · exact TestFrame.refl s
  · exact TestFrame.refl s

theorem frame_stressSample (m : Nat) (v : Int) (k : Mark) : TestFrame s (stressSample m n v k s) := by
  unfold stressSample; dsimp only; split
  · exact TestFrame.refl s
  · have h1 : TestFrame s (if (bindingOf s n).force = m then forceSample n v k s else s) := by
      split
      · exact frame_forceSample s n v k
      · exact TestFrame.refl s
    generalize (if (bindingOf s n).force = m then forceSample n v k s else s) = s1 at h1 ⊢
    have h2 : TestFrame s1 (if (bindingOf s n).extension = m then extensionSample n v s1 else s1) := by
      split
      · exact frame_extensionSample s1 n v
      · exact TestFrame.refl s1
    generalize (if (bindingOf s n).extension = m then extensionSample n v s1 else s1) = s2 at h2 ⊢
    split
    · exact h1.trans (h2.trans (frame_seatSample s2 n v))
    · exact h1.trans h2

theorem frame_stressStale (m : Nat) : TestFrame s (stressStale m n s) := by
  unfold stressStale; split
  · exact frame_haltRun s n _
  · exact TestFrame.refl s

theorem frame_tickStress : TestFrame s (tickStress s n) := by
  unfold tickStress; split
  · exact TestFrame.refl s
  · dsimp only
    split
    · split
      · exact frame_onWork s n _
      · exact (frame_chooseStanding _ n).after (frame_onWork s n _)
    · split
      · exact frame_onWork s n _
      · exact (frame_chooseStanding _ n).after (frame_onWork s n _)
    · exact (frame_wantMotion _ n _).after (frame_onWork s n _)
    all_goals exact frame_onWork s n _

theorem frame_countInterval : TestFrame s (countInterval n s) := by
  unfold countInterval; dsimp only; split
  · refine (frame_settleStep n _ (_, _)).after ?_
    dsimp only; exact frame_onWork s n _
  · exact frame_onWork s n _

theorem frame_completeUnsettled : TestFrame s (completeUnsettled n s) := frame_settleStep n _ (s, _)

theorem frame_stressPoint : TestFrame s (stressPoint n s) := by
  unfold stressPoint; split
  · exact (frame_onLog s _).trans (frame_onWork _ n _)
  · split
    · exact frame_stall s n _
    · exact frame_onWork s n _

theorem frame_resume : TestFrame s (resume n s) := by
  unfold resume; split
  · exact (frame_judgeOutcome s n _).trans (frame_settleStep n _ _)
  · split
    · exact frame_haltStress s n _
    · split
      · exact frame_completeUnsettled s n
      · split
        · exact (frame_onWork s n _).trans ((frame_startJudgment _ n).trans (frame_settleStep n _ _))
        · exact frame_chooseStanding s n

theorem frame_thawStress : TestFrame s (thawStress s n) := by
  unfold thawStress; split
  · split
    · exact (frame_setMode s n _).trans (frame_wantMotion _ n _)
    · exact (frame_setMode s n _).trans (frame_resume _ n)
  · exact TestFrame.refl s

theorem frame_heldWritten (r : LogRecord) : TestFrame s (heldWritten n r s) := by
  unfold heldWritten; dsimp only; split
  · exact (frame_onLog s _).trans ((frame_onWork _ n _).trans ((frame_setMode _ n _).trans (frame_resume _ n)))
  · exact (frame_onLog s _).trans (frame_onWork _ n _)

theorem frame_startTest (slot : Nat) : TestFrame s (startTest n slot s) := by
  unfold startTest; dsimp only
  generalize hs : enterStep n 1 _ = s2
  have h2 : TestFrame s s2 := by
    rw [← hs]
    exact (frame_enterStep _ n 1).after ((frame_writeOrHold _ n _).after (frame_onStress s n _))
  split
  · exact (frame_haltRun _ n _).after h2
  · split
    · exact (frame_settleStep n _ _).after ((frame_startJudgment _ n).after h2)
    · exact (frame_onWork _ n _).after h2

theorem frame_cellOutcome (o : CellOutcome) (r : Option CellReading) : TestFrame s (cellOutcome o r s n) := by
  unfold cellOutcome; split
  · exact (frame_recordOutcome s n _ _).trans (frame_settleStep n _ _)
  · exact TestFrame.refl s

theorem frame_admit (slot : Nat) : TestFrame s (admitTo n slot s) :=
  (frame_admitAnchor s slot).trans (frame_startTest _ n slot)

end

/-! ### Hand-out passes -/

theorem frame_passLoop : ∀ (fuel : Nat) (s : State), TestFrame s (passLoop fuel s)
  | 0, s => TestFrame.refl s
  | fuel + 1, s => by
    unfold passLoop; split
    · exact (frame_admit s _ _).trans (frame_passLoop fuel _)
    · exact TestFrame.refl s

theorem frame_handOut (s : State) : TestFrame s (handOut s) := by
  unfold handOut; split
  · exact frame_passLoop _ s
  · exact TestFrame.refl s

theorem frame_afterPass (s : State) : TestFrame s (afterPass s) :=
  (frame_handOut s).trans (by constructor <;> intros <;> rfl)

theorem frame_runPass (s : State) : TestFrame s (runPass s) := by
  unfold runPass; split
  · exact frame_afterPass s
  · exact TestFrame.refl s

end Sys2Proof.Machine
end

