-- ==== Sys2Proof/Laws/Log.lean ====
section
/-! SUPPORT. The store of the test log: every operation keeps it in order (`logInOrder`), and the reset state has it
so. -/

namespace Sys2Proof.Machine

open Sys2Proof Sys2Proof.Config

variable {l : TestLog}

/-- R182: in a store in order the occupancy is the number of entries. -/
theorem occupancy_of_inOrder (h : logInOrder l) : occupancy l = l.entries.length := by
  obtain ⟨h1, h2, -⟩ := h
  simp only [occupancy, h2]
  have : l.oldest + BitVec.ofNat 32 l.entries.length - l.oldest = BitVec.ofNat 32 l.entries.length := by
    rw [BitVec.add_comm]; exact BitVec.add_sub_cancel _ _
  rw [this, BitVec.toNat_ofNat]
  omega

/-- Section 10.2: a record takes at most 8 entries. -/
theorem recordLength_le (r : LogRecord) : recordLength r ≤ 8 := by
  have : (recordData r).length ≤ 63 := by simp [recordData]
  unfold recordLength
  omega

theorem recordEntries_length (seq : Word32) (r : LogRecord) : (recordEntries seq r).length = recordLength r := by
  have : 1 ≤ recordLength r := by unfold recordLength; omega
  simp [recordEntries]; omega

theorem recordEntries_seq (seq : Word32) (r : LogRecord) (i : Nat) (h : i < recordLength r) :
    ((recordEntries seq r)[i]?.map (·.seq)) = some (seq + BitVec.ofNat 32 i) := by
  cases i with
  | zero => simp [recordEntries]
  | succ k =>
    have : k < recordLength r - 1 := by omega
    simp [recordEntries, this]

theorem recordKindCode_ne (k : RecordKind) : recordKindCode k ≠ 15 := by cases k <;> decide

/-- R183, R184: a record for which there is room keeps the store in order. -/
theorem appendRecord_inOrder (r : LogRecord) (h : logInOrder l) (room : occupancy l + recordLength r ≤ 2048) :
    logInOrder (appendRecord r l) := by
  have ho := occupancy_of_inOrder h
  obtain ⟨h1, h2, h3, h4, -⟩ := h
  have hl := recordEntries_length l.next r
  have h0 : 1 ≤ recordLength r := by unfold recordLength; omega
  have hnext : l.next + BitVec.ofNat 32 (recordLength r)
      = l.oldest + BitVec.ofNat 32 (l.entries.length + recordLength r) := by
    rw [h2, BitVec.add_assoc]
    congr 1
    exact (BitVec.ofNat_add ..).symm
  refine ⟨?_, ?_, ?_, ?_, ?_⟩
  · simp only [appendRecord, judgeAttention, List.length_append, hl]; omega
  · simp only [appendRecord, judgeAttention, List.length_append, hl]; exact hnext
  · intro i hi
    simp only [appendRecord, judgeAttention, List.length_append, hl] at hi ⊢
    by_cases hlt : i < l.entries.length
    · rw [List.getElem?_append_left hlt]; exact h3 i hlt
    · rw [List.getElem?_append_right (by omega), recordEntries_seq _ _ _ (by omega), h2, BitVec.add_assoc]
      congr 2
      rw [← BitVec.ofNat_add]
      congr 1; omega
  · intro e he
    simp only [appendRecord, judgeAttention] at he
    cases hes : l.entries with
    | nil =>
      rw [hes] at he
      simp only [recordEntries, List.nil_append, List.head?_cons, Option.some.injEq] at he
      subst he
      exact recordKindCode_ne _
    | cons a rest => rw [hes] at he; exact h4 e (by rw [hes]; simpa using he)
  · simp only [appendRecord, judgeAttention, List.length_append, hl, occupancy, hnext]
    congr 2
    have : l.oldest + BitVec.ofNat 32 (l.entries.length + recordLength r) - l.oldest
        = BitVec.ofNat 32 (l.entries.length + recordLength r) := by
      rw [BitVec.add_comm]; exact BitVec.add_sub_cancel _ _
    rw [this, BitVec.toNat_ofNat]
    omega

/-- R184: a reserve record keeps the store in order, written or refused. -/
theorem writeReserve_inOrder (r : LogRecord) {s : State} (h : logInOrder s.log) :
    logInOrder (writeReserve r s).log := by
  unfold writeReserve; split
  · rename_i hr; exact appendRecord_inOrder r h hr
  · exact h

/-- R184: an ordinary record that the log takes keeps the store in order. -/
theorem ordinary_inOrder (r : LogRecord) (h : logInOrder l) (room : ordinaryRoom l = true) :
    logInOrder (appendRecord r l) := by
  simp only [ordinaryRoom, logOrdinary, decide_eq_true_eq] at room
  have := recordLength_le r
  exact appendRecord_inOrder r h (by omega)

theorem writeOrDrop_inOrder (r : LogRecord) {s : State} (h : logInOrder s.log) :
    logInOrder (writeOrDrop r s).log := by
  unfold writeOrDrop; split
  · rename_i hr; exact ordinary_inOrder r h hr
  · exact h

/-- R188: what a trim keeps is the back of the store, from a head on. -/
theorem keptEntries_spec (i : Nat) (es : List LogEntry) :
    (∃ k, keptEntries i es = es.drop k ∧ k ≤ es.length)
      ∧ (∀ e, (keptEntries i es).head? = some e → e.kind ≠ 15) := by
  refine ⟨?_, ?_⟩
  · have h : (keptEntries i es) <:+ es := (List.dropWhile_suffix _).trans (List.drop_suffix _ _)
    exact ⟨es.length - (keptEntries i es).length, List.suffix_iff_eq_drop.mp h, by omega⟩
  · intro e he hk
    have := List.head?_dropWhile_not continues (es.drop (i + 1))
    simp only [keptEntries] at he
    rw [he] at this
    simp [continues, hk] at this

/-- R188: a trim keeps the store in order. -/
theorem trimTo_inOrder (seq : Word32) (h : logInOrder l) : logInOrder (trimTo seq l) := by
  obtain ⟨⟨k, hk, hle⟩, hh⟩ := keptEntries_spec (seq - l.oldest).toNat l.entries
  obtain ⟨h1, h2, h3, -, -⟩ := h
  have hlen : (l.entries.drop k).length = l.entries.length - k := List.length_drop
  have hnext : l.next = l.oldest + BitVec.ofNat 32 k + BitVec.ofNat 32 (l.entries.length - k) := by
    rw [h2, BitVec.add_assoc, ← BitVec.ofNat_add]
    congr 2; omega
  have hold : l.entries.length - (l.entries.length - k) = k := by omega
  refine ⟨?_, ?_, ?_, ?_, ?_⟩
  · simp only [trimTo, judgeAttention, hk, hlen]; omega
  · simp only [trimTo, judgeAttention, hk, hlen, hold]; exact hnext
  · intro i hi
    simp only [trimTo, judgeAttention, hk, hlen] at hi
    simp only [trimTo, judgeAttention, hk, hlen, hold, List.getElem?_drop]
    rw [h3 (k + i) (by omega), BitVec.add_assoc, ← BitVec.ofNat_add]
  · intro e he
    simp only [trimTo, judgeAttention] at he
    exact hh e he
  · simp only [trimTo, judgeAttention, hk, hlen, hold, occupancy]
    congr 2
    rw [hnext]
    have : l.oldest + BitVec.ofNat 32 k + BitVec.ofNat 32 (l.entries.length - k) - (l.oldest + BitVec.ofNat 32 k)
        = BitVec.ofNat 32 (l.entries.length - k) := by
      rw [BitVec.add_comm]; exact BitVec.add_sub_cancel _ _
    rw [this, BitVec.toNat_ofNat]
    omega

/-- The log of the reset state is in order. -/
theorem reset_logInOrder : logInOrder State.reset.log := by
  refine ⟨by decide, by decide, ?_, ?_, by decide⟩
  · intro i hi; exact absurd hi (by simp [State.reset, State.power])
  · intro e he; simp [State.reset, State.power] at he

end Sys2Proof.Machine
end

