-- ==== Sys2Proof/Laws/Readers.lean ====
section
/-! SUPPORT. What the readers of a channel leave as it was: the placement unit, the classifiers and the trip counters
beside the stressing channels (`ReaderFrame`). -/

namespace Sys2Proof.Machine

open Sys2Proof Sys2Proof.Config

namespace ReaderFrame

theorem refl (s : State) : ReaderFrame s s := by constructor <;> intros <;> rfl

theorem trans {s t u : State} (h : ReaderFrame s t) (k : ReaderFrame t u) : ReaderFrame s u where
  classes := k.classes.trans h.classes
  order := k.order.trans h.order
  exclusion := k.exclusion.trans h.exclusion
  design i := (k.design i).trans (h.design i)
  tables := k.tables.trans h.tables
  kind i := (k.kind i).trans (h.kind i)
  lastRaw i := (k.lastRaw i).trans (h.lastRaw i)
  saturated i := (k.saturated i).trans (h.saturated i)
  stamp i := (k.stamp i).trans (h.stamp i)
  fresh i := (k.fresh i).trans (h.fresh i)
  converter := converter_trans h.converter k.converter
  config i := (k.config i).trans (h.config i)
  storedT i := (k.storedT i).trans (h.storedT i)
  nextSurvey i := (k.nextSurvey i).trans (h.nextSurvey i)
  last i := (k.last i).trans (h.last i)
  binding i := (k.binding i).trans (h.binding i)
  autoTake i := (k.autoTake i).trans (h.autoTake i)
  unitConfig := k.unitConfig.trans h.unitConfig
  watch i := (k.watch i).trans (h.watch i)
  enabled i := (k.enabled i).trans (h.enabled i)
  source i := (k.source i).trans (h.source i)
  freezeEnable i := (k.freezeEnable i).trans (h.freezeEnable i)
  stationFreeze := k.stationFreeze.trans h.stationFreeze
  ring := k.ring.trans h.ring
  mode := k.mode.trans h.mode
  toIssuing := k.toIssuing.trans h.toIssuing
  toSampling := k.toSampling.trans h.toSampling
  params := k.params.trans h.params
  polls := k.polls.trans h.polls
  lastSent := k.lastSent.trans h.lastSent
  failures := k.failures.trans h.failures
  passedOver := k.passedOver.trans h.passedOver
  station := k.station.trans h.station
  tickOpen := k.tickOpen.trans h.tickOpen
  pending := k.pending.trans h.pending

/-- One more act behind those that a frame covers. -/
theorem after {s t u : State} (k : ReaderFrame t u) (h : ReaderFrame s t) : ReaderFrame s u := h.trans k

end ReaderFrame

/-- The frame of a test is a frame of the readers. -/
theorem TestFrame.reader {s t : State} (h : TestFrame s t) : ReaderFrame s t where
  classes := h.classes
  order := h.order
  exclusion := h.exclusion
  design := h.design
  tables := by rw [h.measure]
  kind m := by rw [channelAt_of_measure h.measure]
  lastRaw m := by rw [channelAt_of_measure h.measure]
  saturated m := by rw [channelAt_of_measure h.measure]
  stamp m := by rw [channelAt_of_measure h.measure]
  fresh m := by rw [channelAt_of_measure h.measure]
  converter := h.converter
  config := h.config
  storedT := h.storedT
  nextSurvey := h.nextSurvey
  last := h.last
  binding := h.binding
  autoTake := h.autoTake
  unitConfig := h.unitConfig
  watch x := by simp only [classifierAt, h.classifiers]
  enabled q := by rw [counterAt_of_trip h.trip]
  source q := by rw [counterAt_of_trip h.trip]
  freezeEnable q := by rw [counterAt_of_trip h.trip]
  stationFreeze := by rw [h.trip]
  ring := h.ring
  mode := h.mode
  toIssuing := h.toIssuing
  toSampling := h.toSampling
  params := h.params
  polls := h.polls
  lastSent := h.lastSent
  failures := h.failures
  passedOver := h.passedOver
  station := h.station
  tickOpen := h.tickOpen
  pending := h.pending

/-- A frame kept by each of a list's acts is kept by all of them in turn. -/
theorem reader_foldl {α : Type} (f : State → α → State) (hf : ∀ s a, ReaderFrame s (f s a)) :
    ∀ (l : List α) (s : State), ReaderFrame s (l.foldl f s)
  | [], s => ReaderFrame.refl s
  | a :: l, s => (hf s a).trans (reader_foldl f hf l (f s a))

/-! ### The placement unit -/

section
variable (s : State)

theorem reader_onPlacement (f : Placement → Placement) (hf : ∀ p, (f p).config = p.config := by intro _; rfl) :
    ReaderFrame s (s.onPlacement f) := by
  constructor <;> first | exact hf _ | (intros; rfl)

theorem reader_onRun (f : Run → Run) : ReaderFrame s (s.onRun f) := reader_onPlacement s _

theorem reader_recordDrive (p : RunPhase) (d : Drive) : ReaderFrame s (recordDrive p d s) := by
  cases p <;> exact reader_onPlacement s _

theorem reader_wantDrive (p : RunPhase) (d : Drive) : ReaderFrame s (wantDrive p d s) := by
  unfold wantDrive; split
  · exact ReaderFrame.refl s
  · split
    · exact (reader_recordDrive _ p d).after (frame_present s _ _ _).reader
    · exact ReaderFrame.refl s

theorem reader_stopByPriority (p : RunPhase) : ReaderFrame s (stopByPriority p s) :=
  (frame_placeHalt s _ _ _).reader

theorem reader_stopRun (p : RunPhase) : ReaderFrame s (stopRun p s) := by
  unfold stopRun; split
  · exact (reader_recordDrive _ p _).after (frame_present s _ _ _).reader
  · exact reader_stopByPriority s p

theorem reader_driveChoice (p : RunPhase) : ReaderFrame s (driveChoice p s) := reader_wantDrive s p _

theorem reader_judgeStarved (p : RunPhase) : ReaderFrame s (judgeStarved p s) := reader_onRun s _

theorem reader_haltPlacementRun (cause : HaltCause) : ReaderFrame s (haltPlacementRun cause s) := by
  unfold haltPlacementRun; dsimp only
  exact (reader_onPlacement _ _).after <| (frame_haltAnchor _ _ _).reader.after <|
    (frame_writeReserve _ _).reader.after (reader_stopByPriority s _)

theorem reader_haltPlacement (cause : HaltCause) : ReaderFrame s (haltPlacement cause s) := by
  unfold haltPlacement; split
  · exact reader_haltPlacementRun s cause
  · exact ReaderFrame.refl s

/-- R36: a zeroing request keeps everything of a channel but its total, value and mark. -/
theorem reader_zeroTotal (m : Nat) : ReaderFrame s (zeroTotal m s) := by
  have h : ∀ (i : Nat) (α : Type) (g : Channel → α) (_ : ∀ c : Channel, ∀ v t k,
      g { c with total := t, value := v, mark := k } = g c), g (channelAt (zeroTotal m s) i) = g (channelAt s i) := by
    intro i α g hg
    unfold zeroTotal
    rw [channelAt_onChannel]
    split
    · rename_i hi
      rw [← hi.1]
      split
      · exact hg _ _ _ _
      all_goals rfl
    · rfl
  constructor <;> first
    | (intro i; exact h i _ (·.config) fun _ _ _ _ => rfl)
    | (intro i; exact h i _ (·.lastRaw) fun _ _ _ _ => rfl)
    | (intro i; exact h i _ (·.saturated) fun _ _ _ _ => rfl)
    | (intro i; exact h i _ (·.stamp) fun _ _ _ _ => rfl)
    | (intro i; exact h i _ (·.fresh) fun _ _ _ _ => rfl)
    | (intros; rfl)

theorem reader_beginRun (p : RunPhase) (slot : Nat) : ReaderFrame s (beginRun p slot s) := by
  unfold beginRun; dsimp only
  exact (reader_driveChoice _ p).after <| (reader_judgeStarved _ p).after <|
    (frame_writeOrDrop _ _).reader.after <| (reader_zeroTotal _ _).after <|
      (reader_onPlacement _ _).after (frame_onAnchor s slot _).reader

theorem reader_releasePlacement : ReaderFrame s (releasePlacement s) := reader_onPlacement s _

theorem reader_completeWinching : ReaderFrame s (completeWinching s) := by
  unfold completeWinching; dsimp only
  generalize hs : writeOrDrop _ _ = s2
  have h2 : ReaderFrame s s2 := by
    rw [← hs]
    exact (frame_writeOrDrop _ _).reader.after ((frame_onAnchor _ _ _).reader.after (reader_stopRun s _))
  split
  · exact (reader_beginRun _ _ _).after h2
  · exact (reader_releasePlacement _).after h2

theorem frame_cureOne (slot : Nat) : TestFrame s (cureOne slot s) := by
  unfold cureOne; split
  · exact (frame_startPass _).after (frame_onAnchor s slot _)
  · exact TestFrame.refl s

theorem reader_completeGrouting : ReaderFrame s (completeGrouting s) := by
  unfold completeGrouting; dsimp only
  exact (reader_releasePlacement _).after <| (frame_writeOrDrop _ _).reader.after <|
    (frame_cureOne _ _).reader.after <| (frame_onAnchor _ _ _).reader.after (reader_stopRun s _)

theorem reader_judgeRun (p : RunPhase) : ReaderFrame s (judgeRun p s) := by
  unfold judgeRun; dsimp only
  have h1 := reader_judgeStarved s p
  split
  · exact (reader_driveChoice _ p).after h1
  · split
    · split
      · exact (reader_completeWinching _).after h1
      · exact (reader_driveChoice _ _).after h1
    · split
      · exact (reader_completeGrouting _).after h1
      · split
        · exact (reader_haltPlacementRun _ _).after h1
        · exact (reader_driveChoice _ _).after h1

theorem reader_placementSample (m : Nat) : ReaderFrame s (placementSample m s) := by
  unfold placementSample; split
  · split
    · exact reader_judgeRun s _
    · exact ReaderFrame.refl s
  · split
    · exact reader_judgeRun s _
    · exact ReaderFrame.refl s
  · exact ReaderFrame.refl s
  · exact ReaderFrame.refl s

theorem reader_placementStale (m : Nat) : ReaderFrame s (placementStale m s) := by
  unfold placementStale; split
  · split
    · exact (reader_driveChoice _ _).after (reader_judgeStarved s _)
    · exact ReaderFrame.refl s
  · split
    · exact (reader_driveChoice _ _).after (reader_judgeStarved s _)
    · exact ReaderFrame.refl s
  · exact ReaderFrame.refl s
  · exact ReaderFrame.refl s

theorem reader_placementEvent (x : Nat) (k : EventKind) : ReaderFrame s (placementEvent x k s) := by
  unfold placementEvent; split
  · exact ReaderFrame.refl s
  · dsimp only; split
    · split
      · exact reader_haltPlacementRun s _
      · have h2 := (frame_writeOrDrop _ (eventRecord (s.onRun fun r => { r with speed := speedAfter (runPhase s) r.speed k }) x k)).reader.after
          (reader_onRun s fun r => { r with speed := speedAfter (runPhase s) r.speed k })
        split
        · exact h2
        · exact (reader_driveChoice _ _).after ((reader_judgeStarved _ _).after h2)
    · exact ReaderFrame.refl s

theorem reader_pausePlacement : ReaderFrame s (pausePlacement s) := by
  have h (p : RunPhase) : ReaderFrame s ((stopByPriority p (s.onRun fun r => { r with pausedFrom := some p })).onPlacement
      fun u => { u with mode := .paused }) :=
    (reader_onPlacement _ _).after ((reader_stopByPriority _ p).after (reader_onRun s _))
  unfold pausePlacement; dsimp only; split
  · exact h _
  · exact h _
  · exact ReaderFrame.refl s
  · exact ReaderFrame.refl s

theorem reader_thawPlacement : ReaderFrame s (thawPlacement s) := by
  unfold thawPlacement; split
  · dsimp only
    exact (reader_judgeRun _ _).after ((reader_onPlacement _ _).after (reader_onRun s _))
  · exact ReaderFrame.refl s

theorem reader_tickPlacement : ReaderFrame s (tickPlacement s) := by
  have h (p : RunPhase) : ReaderFrame s
      (if winchExpired (s.onRun (tickRun (placementInterval s))) then s.onRun (tickRun (placementInterval s))
       else driveChoice p (judgeStarved p (s.onRun (tickRun (placementInterval s))))) := by
    split
    · exact reader_onRun s _
    · exact (reader_driveChoice _ p).after ((reader_judgeStarved _ p).after (reader_onRun s _))
  unfold tickPlacement; dsimp only; split
  · exact h _
  · exact h _
  · exact ReaderFrame.refl s
  · exact ReaderFrame.refl s

theorem reader_placementPoint : ReaderFrame s (placementPoint s) :=
  (reader_onRun _ _).after (frame_writeOrDrop s _).reader

end

/-! ### The trip counters and the classifiers -/

section
variable (s : State)

/-- A change of the counters' values and marks, and of the frozen item. -/
theorem reader_onCounters (f : Counter → Counter) (b : Bool) (he : ∀ c, (f c).enabled = c.enabled)
    (hs : ∀ c, (f c).source = c.source) (hf : ∀ c, (f c).freezeEnable = c.freezeEnable) :
    ReaderFrame s (s.onTrip fun t => { t with counters := t.counters.map f, frozen := b }) := by
  have h : ∀ (q : Nat) (α : Type) (g : Counter → α) (_ : ∀ c, g (f c) = g c),
      g (look (s.trip.counters.map f) q) = g (look s.trip.counters q) := by
    intro q α g hg
    by_cases hq : q < 8
    · rw [look_map _ _ _ hq, hg]
    · rw [look_of_le _ _ (by omega), look_of_le _ _ (by omega)]
  constructor <;> first
    | (intro q; exact h q _ (·.enabled) he)
    | (intro q; exact h q _ (·.source) hs)
    | (intro q; exact h q _ (·.freezeEnable) hf)
    | (intros; rfl)

theorem reader_becomeFrozen (detail : Nat) : ReaderFrame s (becomeFrozen detail s) := by
  unfold becomeFrozen; dsimp only
  refine (frame_writeReserve _ _).reader.after <| (reader_pausePlacement _).after <|
    (frame_foldl freezeStress frame_freezeStress channels4 _).reader.after ?_
  constructor <;> intros <;> rfl

theorem observeCounter_keeps (frozen : Bool) (o : Observation) (c : Counter) :
    (observeCounter frozen o c).enabled = c.enabled ∧ (observeCounter frozen o c).source = c.source
      ∧ (observeCounter frozen o c).freezeEnable = c.freezeEnable := by
  unfold observeCounter raise; dsimp only; split
  · split <;> exact ⟨rfl, rfl, rfl⟩
  · exact ⟨rfl, rfl, rfl⟩

theorem reader_observe (o : Observation) : ReaderFrame s (observe o s) := by
  have h1 : ReaderFrame s (s.onTrip fun t => { t with counters := t.counters.map (observeCounter s.trip.frozen o) }) :=
    reader_onCounters s (observeCounter s.trip.frozen o) s.trip.frozen
      (fun c => (observeCounter_keeps _ o c).1) (fun c => (observeCounter_keeps _ o c).2.1)
      (fun c => (observeCounter_keeps _ o c).2.2)
  unfold observe; dsimp only; split
  · exact (reader_becomeFrozen _ _).after h1
  · exact h1

theorem reader_tripStale (m : Nat) : ReaderFrame s (tripStale m s) := by
  have h (c : Counter) : (staleCounter m c).enabled = c.enabled ∧ (staleCounter m c).source = c.source
      ∧ (staleCounter m c).freezeEnable = c.freezeEnable := by
    unfold staleCounter; split
    · split <;> exact ⟨rfl, rfl, rfl⟩
    · exact ⟨rfl, rfl, rfl⟩
  exact reader_onCounters s (staleCounter m) s.trip.frozen (fun c => (h c).1) (fun c => (h c).2.1) (fun c => (h c).2.2)

theorem reader_onClassifier (x : Nat) (f : Classifier → Classifier) (hf : ∀ c, (f c).config = c.config := by intro _; rfl) :
    ReaderFrame s (s.onClassifier x f) := by
  have h : ∀ i, (classifierAt (s.onClassifier x f) i).config = (classifierAt s i).config := by
    intro i
    rw [classifierAt_onClassifier]; split
    · rename_i hi; rw [hf, hi.1]
    · rfl
  constructor <;> first | exact h | (intros; rfl)

theorem reader_deliverEvent (x : Nat) (k : EventKind) : ReaderFrame s (deliverEvent x k s) :=
  (reader_observe _ _).after (reader_placementEvent s x k)

theorem reader_quietClassifier (x : Nat) : ReaderFrame s (quietClassifier x s) := reader_onClassifier s x _

theorem reader_classifierSample (m : Nat) (v : Int) (x : Nat) : ReaderFrame s (classifierSample m v s x) := by
  unfold classifierSample; split
  · split
    · unfold judgeSample; split
      · split
        · exact reader_onClassifier s x _
        · exact ReaderFrame.refl s
      · split
        · split
          · exact (reader_deliverEvent _ x _).after (reader_quietClassifier s x)
          · exact reader_quietClassifier s x
        · exact ReaderFrame.refl s
    · exact ReaderFrame.refl s
  · exact ReaderFrame.refl s

theorem reader_classifierStale (m x : Nat) : ReaderFrame s (classifierStale m s x) := by
  unfold classifierStale; split
  · split
    · exact reader_quietClassifier s x
    · exact ReaderFrame.refl s
  · exact ReaderFrame.refl s

theorem reader_declare (x : Nat) : ReaderFrame s (declare x s) :=
  (reader_deliverEvent _ x _).after (reader_onClassifier s x _)

theorem reader_overlongEvent (x : Nat) : ReaderFrame s (overlongEvent x s) :=
  (reader_deliverEvent _ x _).after (reader_onClassifier s x _)

/-- R32: a fresh sample presented to every reader. -/
theorem reader_presentSample (m : Nat) : ReaderFrame s (presentSample m s) := by
  unfold presentSample; dsimp only
  exact (reader_observe _ _).after <| (reader_foldl _ (fun s x => reader_classifierSample s _ _ x) channels4 _).after <|
    (reader_placementSample _ _).after
      (frame_foldl _ (fun s n => frame_stressSample s n _ _ _) channels4 s).reader

/-- R32: a change to STALE presented to every reader. -/
theorem reader_presentStale (m : Nat) : ReaderFrame s (presentStale m s) := by
  unfold presentStale; dsimp only
  exact (reader_tripStale _ _).after <| (reader_foldl _ (fun s x => reader_classifierStale s _ x) channels4 _).after <|
    (reader_placementStale _ _).after
      (frame_foldl (fun s n => stressStale m n s) (fun s n => frame_stressStale s n _) channels4 s).reader

end

end Sys2Proof.Machine
end

