-- ==== Sys2Proof/Tests/Slice0.lean ====
section
/-! SUPPORT. Tests of the model: the well-formedness smoke, figures from the manual's own examples, and for every
statement with hypotheses concrete states and operands that meet them. -/

namespace Sys2Proof.Tests

-- One test after the other: compiled side by side they ask for more threads than the check's memory limit allows.
set_option Elab.async false

open Sys2Proof Sys2Proof.Machine

/-! ### A rig -/

/-- The design of the anchor in a slot; positions are three apart. -/
def design (slot klass : Nat) : Design :=
  { anchorId := slot + 1, row := 0, position := 3 * slot, klass := klass, strands := 4, freeLength := 12000
    bondLength := 6000, workingLoad := 10000, hardLimit := 20000, insertionTarget := 500, groutTarget := 300
    groutMax := 900, cureMinutes := 60 }

/-- The parameters of a move. -/
def move (target : Nat) : MoveParams :=
  { target := target, speed := 3, approach := 200, tolerance := 50, timeout := 100 }

/-- The parameters of a settle hold. -/
def hold : SettleParams :=
  { minimum := 10, maximum := 20, band := 5, interval := 2, limit := 3, loadTolerance := 20 }

/-- The parameters of a lock-off. -/
def lock : LockParams := { factor := 300, seatWindow := 64, releaseWindow := 10, releaseLevel := 100 }

/-- A class with a step of each kind that the tests need. -/
def klass : ClassDef :=
  { area := 140, modulus := 1950, lowerFactor := 900, bondFactor := 500, minSpan := 100, tolLow := 20, tolHigh := 30
    crossAbsolute := 50, crossRelative := 20, pointInterval := 5, groutFollows := false, rejectExit := none
    procedure := [.loadTo (move 500), .holdSettle hold, .unloadTo (move 100), .lockoff lock, .finish] }

/-- An anchor record in a phase. -/
def anchor (phase : Phase) (slot k : Nat) : Anchor := { Anchor.free with phase := phase, design := some (design slot k) }

/-- A halted anchor record. -/
def halted (h : HaltedFrom) (slot : Nat) : Anchor :=
  { anchor .halted slot 0 with haltedFrom := some h, haltCause := some .station }

/-- The slots of the rig: one anchor of each phase, and two under test. -/
def slots : Vector Anchor 96 :=
  let v := put (put (put (put State.reset.anchorTable.slots 0 (anchor .ready 0 0)) 1 (anchor .defined 1 0)) 2
    (anchor .placed 2 0)) 3 (anchor .accepted 3 0)
  let v := put (put (put v 4 (halted .stressing 4)) 5 (halted .winching 5)) 6 (halted .grouting 6)
  let v := put (put v 7 { anchor .curing 7 0 with completionMinute := some 40 }) 8 (anchor .ready 8 0)
  put (put v 9 (anchor .stressing 9 0)) 10 (anchor .stressing 10 0)

/-- A fresh channel of a kind, at a value, stamped at tick 7. -/
def channel (c : ChanConfig) (v : Int) : Channel :=
  { Channel.unconfigured with
    config := c, lastRaw := some 3, value := some v, mark := some .within, stamp := some 7, fresh := true }

/-- The channels of the rig. -/
def channels : Vector Channel 24 :=
  let v := put (put State.reset.measure.channels 0 (channel (.calibrated 0 20) 4000)) 1 (channel (.scaled 1 1 0 20) 150)
  let v := put v 2 { channel (.counter 1 1 20) 90 with total := some 90 }
  let v := put v 3 { channel (.counter 1 1 20) 80 with total := some 80 }
  let v := put (put v 4 (channel (.scaled 1 1 0 20) 1)) 5 { channel (.gauge 0 20) 9719 with saturated := some false }
  let v := put (put v 6 (channel (.calibrated 1 20) 5)) 7 { channel (.gauge 1 20) 5 with saturated := some false }
  put v 8 { channel (.calibrated 0 20) 4000 with fresh := false }

/-- A binding to a jack node. -/
def binding (jack : Nat) : Binding := { jack := jack, force := 0, extension := 1, seat := 4, cell := 0, stroke := 200 }

/-- Working data of a test of a slot in a step. -/
def work (slot step : Nat) : Work := { Work.clear with slot := some slot, step := some step }

/-- A cell configuration. -/
def cellConfig : CellConfig := { nRef := 1000, mMin := 10, reuseAge := 100, surveyPeriod := 5, output := 5 }

/-- A placement configuration. -/
def placement : PlacementConfig :=
  { winchNode := 10, pumpNode := 11, payout := 2, flow := 3, tension := 1, pressure := 1, ret := 4, tensionX := some 0
    pressureX := some 1, winchSpeed := 3, pumpSpeed := 4, winchTimeout := 50 }

/-- A classifier configuration. -/
def watcher : ClassifierConfig :=
  { watched := 0, side := .above, level := 5000, hysteresis := 100, tSpike := 3, tHold := 5, tLong := 9
    spikeReject := false }

/-- An own frame on the ring. -/
def flight (tag dest : Nat) (kind : FrameKind) (about : Particulars) : InFlight :=
  { tag := tag, kind := kind, dest := dest, sent := 90, expiry := 100, about := about }

/-- A queue entry. -/
def waiting (node : Nat) (c : Command) (n : Nat) : QueueEntry :=
  { node := node, command := c, origin := .sc n, enqueued := 6 }

/-- A poll entry. -/
def poll (next : Word32) : Poll :=
  { config := { node := 20, kind := 1, period := 10, slots := [some 0, none] }, nextDue := next, inFlight := false }

/-- A record of 1 + `k` entries. -/
def record (k : Nat) : LogRecord :=
  { tick := 7, kind := .point, unit := 2, slot := 9, detail := 0, data := List.replicate (8 * k) 1 }

/-- The rig: the ring is UP, channel 0 is IDLE, 1 UNBOUND, 2 RUNNING a LOAD_TO and 3 LOCKING; nothing is due. -/
def rig : State :=
  { State.reset with
    anchorTable := { slots := slots, classes := put (put State.reset.anchorTable.classes 0 (some klass)) 2
                       (some { klass with groutFollows := true }), order := [0], exclusion := 1 }
    measure := { channels := channels, tables := put (put State.reset.measure.tables 0 [(0, 0), (100, 10000)]) 1
                   [(0, 0), (10, 5)] }
    gauge := { State.reset.gauge with
      cells := put (put (put State.reset.gauge.cells 0 { Cell.reset with config := some cellConfig }) 1
        { Cell.reset with config := some cellConfig }) 3
        { Cell.reset with config := some cellConfig, storedT := some (500, 6) } }
    stress := put (put (put State.reset.stress 0 { Stress.reset with mode := .idle, binding := some (binding 1) }) 2
        { Stress.reset with mode := .running, binding := some (binding 2)
                            work := { work 9 1 with target := some 5000, tolerance := some 50, direction := some .load } }) 3
        { Stress.reset with mode := .locking, binding := some (binding 3)
                            work := { work 10 4 with progress := some .seating, window := 5 } }
    placement := { State.reset.placement with config := some placement }
    classifiers := put (put State.reset.classifiers 0 { config := some watcher, mode := .quiet, start := none }) 1
        { config := some watcher, mode := .excursion, start := some 4 }
    trip := { State.reset.trip with
      counters := put (put State.reset.trip.counters 0
          { Counter.reset with enabled := true, source := some (.channel 0 5000 false false), value := 65534 }) 1
          { Counter.reset with enabled := true, source := some .ringError, freezeEnable := true, value := 65535 } }
    log := appendRecord (record 1) (appendRecord (record 1) State.reset.log)
    ring := { State.reset.ring with
      state := .up, probeDue := false, tagCounter := 3
      inFlight := [flight 0 20 .poll (.poll 0 [some 0, none] false), flight 1 2 .command (.command (.sc 2) .jackHold false),
        flight 2 1 .mgmtResp .none]
      owners := put (put (put (put (put State.reset.ring.owners 0 (some (.sc 0))) 1 (some (.sc 2))) 2 (some (.sc 3)))
        9 (some .pu)) 10 (some .pu) }
    sched := { State.reset.sched with
      polls := put (put State.reset.sched.polls 0 (poll 9)) 3 (poll 9)
      queue := [waiting 2 (.jackAdvance 3) 2, waiting 1 .jackHold 0] }
    station := { State.reset.station with tick := 7, site := some (50, 0) } }

/-! ### Variants of the rig -/

/-- The rig at an open tick. -/
def ticking (tick : Word32) : State := { rig with tickOpen := true, station := { rig.station with tick := tick } }

/-- The rig with other working data and state of a stressing channel. -/
def withWork (s : State) (n : Nat) (m : StressMode) (w : Work) : State :=
  s.onStress n fun c => { c with mode := m, work := w }

/-- A log of `n` records of one entry. -/
def logOf (n : Nat) : TestLog :=
  { State.reset.log with
    entries := (List.range n).map fun i =>
      { seq := BitVec.ofNat 32 i, tick := 0, kind := 1, unit := 0, slot := 0, detail := 0, data := [] }
    next := BitVec.ofNat 32 n, attention := decide (1024 ≤ n) }

/-- A state with a full log. -/
def fullLog (s : State) : State := { s with log := logOf 2048 }

/-- The rig, ready to hand out: channel 0 has auto-take set. -/
def open' : State := rig.onStress 0 fun c => { c with autoTake := true }

/-- The rig with a placement run on slot 2. -/
def placing' (m : PlacementMode) (elapsed points : Nat) : State :=
  { rig with placement := { rig.placement with
      mode := m, run := some { slot := 2, pausedFrom := none, elapsed := elapsed, speed := 3, starved := false
                               pointCounter := points } } }

/-- The rig with the converter in a phase on cell 1. -/
def measuring (p : GaugePhase) : State :=
  rig.onGauge fun g => { g with phase := p, cell := some 1, inService := some (newRequest 7), timeT := some 400 }

/-- The rig out of UP, with a probe due or in flight. -/
def down (due : Bool) : State :=
  rig.onRing fun r => { r with state := .down, probeDue := due, inFlight := if due then [] else [flight 9 0 .probe .none] }

/-- The rig with responses waiting. -/
def answering (k passed : Nat) : State :=
  let r : Response := { tag := 1, code := 0x60, reason := none, body := [] }
  { rig with ring := { rig.ring with responses := List.replicate k r }, sched := { rig.sched with passedOver := passed } }

/-- The rig with other entries of the command queue and the priority list. -/
def queued (q : List QueueEntry) (p : List PriorityEntry) : State :=
  { rig with sched := { rig.sched with queue := q, priority := p } }

/-- Sixteen waiting commands of different nodes. -/
def fullQueue : List QueueEntry := (List.range 16).map fun i => waiting (i + 20) .jackHold 0

/-- The rig at an open tick with a step of a kind as step 2 of class 0, and channel 2 in it, in a state and with working
data. -/
def inStep (p : ProcStep) (m : StressMode) (w : Work) : State :=
  withWork { ticking 7 with
    anchorTable := { rig.anchorTable with
      classes := put rig.anchorTable.classes 0 (some { klass with procedure := [.loadTo (move 500), p, .finish] }) } } 2 m
    { w with slot := some 9, step := some 2 }

/-- The rig with a measurement channel gone STALE. -/
def stale (m : Nat) (s : State) : State := s.onChannel m fun c => { c with fresh := false }

/-- A frame at port A, with its CRC. -/
def frame (dest source kind flags tag : Nat) (pay : List Byte) : List Byte :=
  withCrc (be 1 dest ++ be 1 source ++ be 1 kind ++ be 1 flags ++ be 1 tag ++ be 1 pay.length ++ pay)

/-- A READ_STATUS of the station, from the station address. -/
def asking (flags : Nat) : List Byte := frame 0 1 3 flags 77 [0x60]

/-- A returned frame of the rig's POLL, two slots carried, TAKEN or not. -/
def pollReturn (flags count : Nat) : List Byte := frame 20 0 1 flags 0 (be 1 1 ++ be 1 count ++ be 4 55 ++ be 4 66)

/-- A statement about the value of an item that is present holds of the item it is tested on. -/
theorem all_some {α : Type} {o : Option α} {p : α → Bool} (h : o.all p = true) : ∀ a, o = some a → p a = true := by
  rintro a rfl; exact h

/-! ### Well-formed commands -/

theorem test_wellFormed_numbers :
    wellFormed (.powerOnReset 63 true) = true ∧ wellFormed (.powerOnReset 64 true) = false
      ∧ wellFormed (.entryExpiry 255) = true ∧ wellFormed (.entryExpiry 256) = false
      ∧ wellFormed (.channelStale 23) = true ∧ wellFormed (.channelStale 24) = false
      ∧ wellFormed (.surveyRequest 3) = true ∧ wellFormed (.surveyRequest 4) = false
      ∧ wellFormed (.loadTimeout 4) = false ∧ wellFormed (.settleInterval 4) = false
      ∧ wellFormed (.settleMaximum 4) = false ∧ wellFormed (.lockWindowRunOut 4) = false
      ∧ wellFormed (.stressPointDue 4) = false ∧ wellFormed (.heldRecordWrite 4) = false
      ∧ wellFormed (.sustained 4) = false ∧ wellFormed (.overlong 4) = false
      ∧ wellFormed (.heldRecordWrite 3) = true := by decide +kernel

theorem test_wellFormed_counts :
    wellFormed (.referenceEnd 1048575) = true ∧ wellFormed (.referenceEnd 1048576) = false
      ∧ wellFormed (.senseHigh 1048576) = false ∧ wellFormed (.refLost 65535) = true
      ∧ wellFormed (.refLost 65536) = false ∧ wellFormed (.sensingEnd 65536) = false := by decide +kernel

theorem test_wellFormed_requests :
    wellFormed (.readAnchor 255 255) = true ∧ wellFormed (.readAnchor 256 0) = false
      ∧ wellFormed (.readAnchor 0 256) = false
      ∧ wellFormed (.loadAnchor 0 0 (design 0 0)) = true
      ∧ wellFormed (.loadAnchor 0 0 { design 0 0 with hardLimit := 16777216 }) = false
      ∧ wellFormed (.loadClass 0 0 klass) = true
      ∧ wellFormed (.loadClass 0 0 { klass with procedure := [.loadTo (move 65536)] }) = false
      ∧ wellFormed (.configChannel 0 0 (.scaled 32768 1 0 1)) = false
      ∧ wellFormed (.loadTable 0 0 [(0, 8388607), (1, -8388608)]) = true
      ∧ wellFormed (.loadTable 0 0 [(0, 8388608)]) = false
      ∧ wellFormed (.configCell 0 0 (some { cellConfig with nRef := 65536 })) = false
      ∧ wellFormed (.bindChannel 0 0 { binding 1 with jack := 256 } true) = false
      ∧ wellFormed (.configPlacement 0 (some { placement with winchTimeout := 65536 })) = false
      ∧ wellFormed (.configClassifier 0 0 (some { watcher with level := 2147483648 })) = false
      ∧ wellFormed (.loadTrip 0 0 { enabled := true, source := .ringError, freezeEnable := true, preload := 65536 }) = false
      ∧ wellFormed (.loadPoll 0 0 (some { node := 1, kind := 1, period := 1, slots := [some 256] })) = false
      ∧ wellFormed (.configSchedule 0 { high := 256, low := 0, commandStarve := 1, pollStarve := 1 }) = false
      ∧ wellFormed (.loadPart 0 0x10 0 true (List.replicate 119 0)) = true
      ∧ wellFormed (.loadPart 0 0x10 0 true (List.replicate 120 0)) = false
      ∧ wellFormed (.unownedRequestCode 0 0xFF []) = true
      ∧ wellFormed (.unownedRequestCode 0 0x60 []) = false := by decide +kernel

/-! ### Figures of the manual -/

/-- Section 8.8: the CRC of the nine digits is 29B1. -/
theorem test_crc_check_value :
    crc16 ([0x31, 0x32, 0x33, 0x34, 0x35, 0x36, 0x37, 0x38, 0x39] : List Byte) = 0x29B1 := by decide +kernel

/-- Halves round away from zero, on both sides. -/
theorem test_rounding_halves : roundDiv 5 2 = 3 ∧ roundDiv (-5) 2 = -3 ∧ roundDiv 7 3 = 2 ∧ truncDiv (-7) 2 = -3 := by
  decide +kernel

/-- A counter that passes 65,535 reads 0 with its overflow mark. -/
theorem test_counter_wraps :
    (raise { Counter.reset with value := 65535 }).value = 0 ∧ (raise { Counter.reset with value := 65535 }).overflow = true
      ∧ (raise { Counter.reset with value := 65534 }).value = 65535 := by decide +kernel

/-- Requests whose optional groups are absent are read back. -/
theorem test_absent_groups_read_back :
    decodeRequest 0x28 (requestBody (.configCell 3 none)) = some (.configCell 3 none)
      ∧ decodeRequest 0x51 (requestBody (.loadPoll 31 none)) = some (.loadPoll 31 none)
      ∧ decodeRequest 0x10 (requestBody (.loadAnchor 95 (design 5 7))) = some (.loadAnchor 95 (design 5 7))
      ∧ decodeRequest 0x14 (requestBody (.loadClass 7 klass)) = some (.loadClass 7 klass)
      ∧ decodeRequest 0x60 [0] = none := by decide +kernel

/-- Chapter 02, the worked interpolation and the worked reload. -/
theorem test_worked_interpolation :
    convert [(0, 0), (8000, 2500), (40000, 13000), (60000, 19600)] 30000 = (9719, .within)
      ∧ convert [(0, 0), (8000, 2500), (40000, 13000), (60000, 19600)] 70000 = (19600, .over)
      ∧ convert [(0, 0), (8000, 2500), (40000, 13000), (60000, 19600)] 8000 = (2500, .within)
      ∧ convert [(0, 0), (8000, 2610), (40000, 13080), (60000, 19640)] 30000 = (9808, .within) := by decide +kernel

/-- Chapter 05, the worked apparent length and the worked creep values. -/
theorem test_worked_acceptance :
    apparentLength { design 0 0 with strands := 7, freeLength := 20000, bondLength := 8000 }
        { klass with area := 140, modulus := 1950 } (some (11000, 11480)) = some 19944
      ∧ creepValue 22979 22840 778 = 179 ∧ creepValue 22881 22840 778 = 53 := by decide +kernel

/-- Chapter 03, the worked gauge readings. -/
theorem test_worked_readings : readingExact 1075 1000 = 11556 ∧ readingExact 1150 1000 = 13225 := by decide +kernel

/-! ### Every statement's hypotheses are met: the machine as a whole, encodings and invariants -/

theorem test_StepRunsFrontCommand_met : rig.pending = [] ∧ quiet rig = true := by decide +kernel

theorem test_RequestBodiesRoundTrip_met :
    requestFits (.loadAnchor 255 (design 5 255)) = true ∧ requestFits (.loadClass 255 klass) = true
      ∧ requestFits (.configCell 3 none) = true ∧ requestFits (.loadTable 255 []) = true := by decide +kernel

theorem test_FramesAndPartsReadBack_met :
    (List.replicate 119 (0 : Byte)).length ≤ 119 ∧ (List.replicate 124 (0 : Byte)).length ≤ 124
      ∧ malformed (frame 1 2 3 0 5 []) = false ∧ (5 : Nat) + 2 < (frame 1 2 3 0 5 []).length := by decide +kernel

/-- A part that the station has frozen, with a THAW waiting. -/
def frozenRig : State := { rig with trip := { rig.trip with frozen := true, stationFreeze := true }, pending := [.thaw 1] }

theorem test_FreezeLawIsKept_met : freezeLaw frozenRig ∧ ∃ t, step frozenRig = .next t :=
  ⟨fun _ => by decide +kernel, _, rfl⟩

/-- The frozen part with a command in front. -/
def frozenWith (c : Instr) : State := { frozenRig with pending := [c] }

/-- A step of a frozen part that keeps its counters: a returned poll, a request that another station has taken, a tick. -/
theorem test_FrozenPartKeepsCounterValues_met :
    (frozenRig.trip.frozen = true ∧ ∃ t, step (frozenWith .tickAdvance) = .next t)
      ∧ (∃ t, step (frozenWith (.frameArrival 1 (pollReturn 1 2))) = .next t)
      ∧ ¬(malformed (pollReturn 1 2) = false ∧ crcGood (pollReturn 1 2) = true ∧ byteAt (pollReturn 1 2) 0 = 0
        ∧ byteAt (pollReturn 1 2) 2 = 3 ∧ ((pollReturn 1 2)[3]?.getD 0) &&& 4 = 0
        ∧ takesRequest (frozenWith (.frameArrival 1 (pollReturn 1 2))) (pollReturn 1 2) = true)
      ∧ takesRequest (frozenWith (.frameArrival 1 (asking 1))) (asking 1) = false :=
  ⟨⟨by decide +kernel, _, rfl⟩, ⟨_, rfl⟩, by decide +kernel, by decide +kernel⟩

theorem rig_log : logInOrder rig.log := by
  refine ⟨by decide +kernel, by decide +kernel, by decide +kernel, fun e h => ?_, by decide +kernel⟩
  have := all_some (o := rig.log.entries.head?) (p := fun e => e.kind != 15) (by decide +kernel) e h
  simpa using this

theorem test_LogStaysInOrder_met : logInOrder rig.log ∧ ∃ t, step rig = .next t := ⟨rig_log, _, rfl⟩

theorem test_RingTablesStayInBounds_met : ringInBounds rig.ring ∧ ringInBounds (down false).ring ∧ ringInBounds (down true).ring := by
  refine ⟨⟨?_, ?_, ?_, ?_⟩, ⟨?_, ?_, ?_, ?_⟩, ?_, ?_, ?_, ?_⟩ <;> decide +kernel

theorem rig_owners : ownersBound rig := by
  have near : ∀ a, a < 63 → (match ownerOf rig a with
      | some (.sc n) => decide (n < 4) && ((stressAt rig n).binding.map (·.jack) == some a)
      | some .pu => a == 10 || a == 11
      | none => true) = true := by decide +kernel
  have low : ∀ a o, ownerOf rig a = some o → a < 63 := fun a o h => by
    by_contra g
    simp [ownerOf, within, show ¬a ≤ 62 by omega] at h
  refine ⟨fun a n h => ?_, fun a h => ⟨placement, by decide +kernel, ?_⟩⟩ <;>
    have k := near a (low a _ h) <;> rw [h] at k
  · simpa using k
  · rcases (by simpa using k : a = 10 ∨ a = 11) with rfl | rfl <;> decide

theorem test_CommandsStayDistinct_met :
    commandsDistinct rig.sched ∧ ownersBound rig ∧ priorityInBounds rig
      ∧ commandsDistinct (queued fullQueue []).sched ∧ fullQueue.length = 16 := by
  have c : commandsDistinct rig.sched := by refine ⟨?_, ?_, ?_⟩ <;> decide +kernel
  exact ⟨c, rig_owners, ⟨c, rig_owners, by decide +kernel⟩, by refine ⟨?_, ?_, ?_⟩ <;> decide +kernel, by decide +kernel⟩

theorem test_LockWindowsStayBounded_met : lockBounded rig := by refine ⟨?_, ?_⟩ <;> decide +kernel

theorem rig_held : anchorsHeldOnce rig := by
  unfold anchorsHeldOnce boundTo placing
  refine ⟨by decide +kernel, ?_, by decide +kernel, by decide +kernel⟩
  intro n m slot hn hm h k
  have e : ∀ n, n < 4 → ∀ m, m < 4 → holdsAnchor rig n = true → holdsAnchor rig m = true →
      (workOf rig n).slot = (workOf rig m).slot → n = m := by decide +kernel
  exact e n hn m hm h.1 k.1 (h.2.trans k.2.symm)

theorem test_AnchorsStayHeldOnce_met : anchorsHeldOnce rig ∧ ∃ t, step rig = .next t := ⟨rig_held, _, rfl⟩

/-- Section 8.8, R192: the bytes of a LOAD_PART are a list, with its count byte. -/
theorem test_load_part_items :
    takePart [0x14, 2, 1, 2, 0xAA, 0xBB] = some (0x14, 2, true, [0xAA, 0xBB])
      ∧ takePart [0x14, 0, 0, 0] = some (0x14, 0, false, []) ∧ takePart [0x14, 2, 1, 0xAA, 0xBB] = none
      ∧ takePart [0x14, 2, 1] = none := by decide

/-- Section 8.8, R141, R150: the items of a counter with a CHANNEL source and of one without a source. -/
theorem test_trip_counter_items :
    putCounter ⟨true, some (.channel 5 1000 false true), true, 65535, false, false⟩
        = [1, 1, 0, 5, 0, 0, 1, 0, 0, 3, 0xE8, 1, 0, 1, 1, 1, 0xFF, 0xFF, 0, 0]
      ∧ putCounter ⟨false, none, false, 0, false, false⟩
        = [0, 0, 0, 0, 0, 0, 0, 0, 0, 0, 0, 0, 0, 0, 0, 0, 0, 0, 0] := by decide

/-! ### Requests and reads -/

theorem test_RequestsAnswerOnce_met :
    quiet (answering 4 0) = true ∧ canTake (answering 4 0) = false ∧ takesNow rig
      ∧ (handRequest (.readAnchor 96) rig).2.reason = some .badValue := by decide +kernel

theorem test_ReadsAnswerWhatStands_met :
    takesNow rig ∧ (4 : Nat) ≤ (0xFFFFFFFF - rig.log.oldest : Word32).toNat
      ∧ rig.log.entries.length ≤ (4 - rig.log.oldest : Word32).toNat
      ∧ (3 - rig.log.oldest : Word32).toNat < rig.log.entries.length
      ∧ (rig.log.entries.head?.map (·.data.length)) = some 8 := by decide +kernel

/-! ### The anchor table -/

theorem test_AnchorRecords_met :
    takesNow rig ∧ (anchorAt rig 95).phase = .free ∧ (anchorAt rig 1).phase = .defined ∧ (anchorAt rig 2).phase = .placed
      ∧ ((anchorAt rig 8).phase = .ready ∧ 8 ∉ rig.anchorTable.order)
      ∧ ((anchorAt rig 0).phase = .ready ∧ 0 ∈ rig.anchorTable.order)
      ∧ (anchorAt rig 6).haltedFrom = some .grouting
      ∧ ((anchorAt rig 5).phase = .halted ∧ (anchorAt rig 5).haltedFrom = some .winching)
      ∧ ((anchorAt rig 4).phase = .halted ∧ (anchorAt rig 4).haltedFrom = some .stressing) := by decide +kernel

theorem test_ClassesOrderAndExclusion_met : takesNow rig := by decide +kernel

theorem test_DequeueStressRemovesTheEntry_met :
    takesNow rig ∧ 0 ∈ rig.anchorTable.order ∧ 95 ∉ rig.anchorTable.order := by decide +kernel

theorem test_HandOutPassGivesFirstEligible_met :
    open'.trip.frozen = false ∧ open'.station.estop = false ∧ open'.ring.state = .up
      ∧ open'.anchorTable.order = [] ++ 0 :: [] ∧ eligible open' 0 = true ∧ canReceive open' 0 = true
      ∧ frozenRig.trip.frozen = true := by decide +kernel

theorem test_AdmissionStartsTheTest_met :
    isFresh rig (bindingOf rig 0).force = true ∧ isFresh rig (bindingOf rig 0).extension = true
      ∧ isFresh rig (bindingOf rig 1).force = true
      ∧ isFresh (rig.onChannel 0 fun c => { c with fresh := false }) (bindingOf rig 0).force = false
      ∧ 2016 ≤ occupancy (fullLog rig).log ∧ occupancy rig.log < 2016
      ∧ (classOf rig 0).procedure[0]? = some (.loadTo (move 500)) := by
  decide +kernel

/-! ### Measurement channels and tables -/

theorem test_ConfigChannel_met :
    takesNow rig ∧ channelInUse rig 0 = true ∧ channelInUse rig 23 = false
      ∧ chanConfigInRange (.calibrated 16 1) = false
      ∧ (chanConfigInRange (.calibrated 15 1) = true ∧ tableLoaded rig (.calibrated 15 1) = false)
      ∧ (chanConfigInRange (.calibrated 1 1) = true ∧ tableLoaded rig (.calibrated 1 1) = true)
      ∧ isFresh rig 23 = false ∧ (channelInUse rig 6 = false ∧ isFresh rig 6 = true) := by decide +kernel

theorem test_LoadTable_met :
    takesNow rig ∧ tableInUse rig 0 = true ∧ tableInUse rig 1 = false ∧ tableInUse rig 15 = false
      ∧ tableInRange [(0, 0)] = false ∧ tableInRange [(0, 0), (1, 8388607)] = true
      ∧ (channelAt rig 6).config = .calibrated 1 20 ∧ (channelAt rig 7).config = .gauge 1 20
      ∧ (channelAt rig 23).config = .none := by decide +kernel

theorem test_Conversion_met :
    rawsRise [(10, -5), (20, 5), (40, 100)] = true ∧ (channelAt rig 0).config = .calibrated 0 20
      ∧ (channelAt rig 1).config = .scaled 1 1 0 20 ∧ (channelAt rig 2).config = .counter 1 1 20
      ∧ (channelAt rig 5).config = .gauge 0 20 ∧ (channelAt rig 23).config = .none
      ∧ ∀ b ∈ ([(10, -5), (20, 5), (40, 100)] : List (Nat × Int)), -5 ≤ b.2 ∧ b.2 ≤ 100 := by decide +kernel

theorem test_Readers_met :
    (deliverRaw rig 50 (channelAt rig 0)).isSome = true ∧ (deliverRaw rig 50 (channelAt rig 0)).bind (·.value) = some 5000
      ∧ (deliverReading rig 9 false (channelAt rig 5)).isSome = true
      ∧ deliverRaw rig 50 (channelAt rig 23) = none ∧ deliverReading rig 9 false (channelAt rig 0) = none
      ∧ holdsAnchor rig 2 = true ∧ ((bindingOf rig 2).force = 0 ∧ (bindingOf rig 2).extension ≠ 0 ∧ (bindingOf rig 2).seat ≠ 0)
      ∧ ((bindingOf rig 2).force ≠ 1 ∧ (bindingOf rig 2).extension = 1 ∧ (bindingOf rig 2).seat ≠ 1)
      ∧ ((bindingOf rig 2).force ≠ 23 ∧ (bindingOf rig 2).extension ≠ 23 ∧ (bindingOf rig 2).seat ≠ 23)
      ∧ ((bindingOf rig 2).seat = 4 ∧ (stressAt rig 2).mode ≠ .locking)
      ∧ (holdsAnchor rig 3 = true ∧ (bindingOf rig 3).seat = 4 ∧ (bindingOf rig 3).force ≠ 4 ∧ (bindingOf rig 3).extension ≠ 4
        ∧ (stressAt rig 3).mode = .locking ∧ (workOf rig 3).progress = some .seating)
      ∧ ((classifierAt rig 0).config = some watcher ∧ watcher.watched ≠ 1 ∧ watcher.watched = 0)
      ∧ (classifierAt rig 3).config = none := by decide +kernel

theorem test_StaleReaders_met :
    ((classifierAt rig 1).config = some watcher ∧ watcher.watched = 0 ∧ (classifierAt rig 1).mode = .excursion)
      ∧ (counterAt rig 0).source = some (.channel 0 5000 false false) ∧ (counterAt rig 7).source = none := by decide +kernel

theorem test_ChannelStale_met :
    (ticking 28).tickOpen = true ∧ (channelAt (ticking 28) 0).fresh = true
      ∧ staleLimit (channelAt (ticking 28) 0).config < (now (ticking 28) - (channelAt (ticking 28) 0).stamp.getD 0).toNat
      ∧ (now (ticking 27) - (channelAt (ticking 27) 0).stamp.getD 0).toNat
          ≤ staleLimit (channelAt (ticking 27) 0).config := by decide +kernel

/-! ### Lift-off cells -/

theorem test_CellRequests_met :
    takesNow rig ∧ cellInUse rig 0 = true ∧ cellInUse rig 3 = false
      ∧ cellConfigInRange { cellConfig with nRef := 255 } = false ∧ cellConfigInRange { cellConfig with nRef := 256 } = true
      ∧ rig.gauge.cell ≠ some 3 ∧ (takesNow (measuring .sensing) ∧ (measuring .sensing).gauge.cell = some 1)
      ∧ (cellAt rig 2).config = none ∧ ((cellAt rig 3).config ≠ none ∧ (cellAt rig 3).pending = none)
      ∧ (let s := (measuring .sensing).onCell 3 fun k => { k with pending := some (newRequest 7) };
        takesNow s ∧ (cellAt s 3).config ≠ none ∧ (cellAt s 3).pending = some (newRequest 7)) := by decide +kernel

/-- The rig with a request of a cell waiting. -/
def asked (c : Nat) : State := rig.onCell c fun k => { k with pending := some (newRequest 7) }

/-- The rig with a request of cell 3, whose stored T is `t`. -/
def askedWith (t : Nat) : State := (asked 3).onCell 3 fun k => { k with storedT := some (t, 6) }

theorem test_MeasurementsStart_met :
    (let s := (ticking 7).onCell 3 fun k => { k with nextSurvey := some 7 };
      s.tickOpen = true ∧ s.passDue = false ∧ (cellAt s 3).config = some cellConfig
        ∧ (cellAt s 3).nextSurvey = some (now s))
      ∧ ((measuring .reference).gauge.phase ≠ .idle ∧ ∀ c, c < 4 → (cellAt rig c).pending = none)
      ∧ (rig.gauge.phase = .idle ∧ (searchCells rig).gauge.phase = .idle)
      ∧ (asked 0).passDue = false ∧ (asked 0).gauge.phase = .idle ∧ ((asked 0).gauge.pointer + 1) % 4 = 0
      ∧ (cellAt (asked 0) 0).pending = some (newRequest 7) ∧ (cellAt (asked 0) 0).config = some cellConfig
      ∧ (cellAt (asked 0) 0).storedT = none
      ∧ ((askedWith 500).gauge.phase = .idle ∧ (askedWith 500).passDue = false
        ∧ ((askedWith 500).gauge.pointer + 4) % 4 = 3
        ∧ (∀ j, 1 ≤ j → j < 4 → (cellAt (askedWith 500) ((3 + j) % 4)).pending = none)
        ∧ (cellAt (askedWith 500) 3).pending = some (newRequest 7) ∧ (cellAt (askedWith 500) 3).config = some cellConfig
        ∧ (cellAt (askedWith 500) 3).storedT = some (500, 6)
        ∧ (now (askedWith 500) - 6 : Word32).toNat < cellConfig.reuseAge)
      ∧ ((askedWith 0).gauge.phase = .idle ∧ (cellAt (askedWith 0) 3).pending = some (newRequest 7)
        ∧ (cellAt (askedWith 0) 3).storedT = some (0, 6)) := by
  decide +kernel

theorem test_PhasesEnd_met :
    (quiet (measuring .reference) = true ∧ (measuring .reference).gauge.phase = .reference
        ∧ (measuring .reference).gauge.cell = some 1 ∧ (cellAt (measuring .reference) 1).config = some cellConfig)
      ∧ (quiet (measuring .sensing) = true ∧ (measuring .sensing).gauge.phase = .sensing
        ∧ (measuring .sensing).gauge.cell = some 1 ∧ (cellAt (measuring .sensing) 1).config = some cellConfig)
      ∧ cellConfig.mMin ≤ 10 ∧ 9 < cellConfig.mMin
      ∧ (channelAt (measuring .sensing) cellConfig.output).config = .gauge 0 20 := by decide +kernel

/-- R49: a sensing phase with a T of 0, which is the first row that falls due. -/
theorem test_emptySensing_met :
    (let s := (measuring .sensing).onGauge fun g => { g with timeT := some 0, tcCount := 0 };
      s.gauge.phase = .sensing ∧ s.gauge.cell = some 1 ∧ s.gauge.timeT = some 0 ∧ 0 < cellConfig.mMin
        ∧ nextDue s = some .emptySensing ∧ nextDue (measuring .sensing) = none) := by decide +kernel

/-- R47: the measurement starts at the arrival of the first request, so a request that arrives after it waits although its
cell lies nearer the pointer, and the withdrawal of the first one leaves its measurement in service. -/
theorem test_search_at_the_arrival :
    (let s := joinRequest 0 id (joinRequest 1 (fun r => { r with waiting := [2] }) rig);
      s.gauge.phase = .reference ∧ s.gauge.cell = some 1 ∧ (cellAt s 1).pending = none
        ∧ (cellAt s 0).pending = some (newRequest 7) ∧ rig.gauge.pointer = 3
        ∧ (withdrawRequest 1 2 s).gauge.phase = .reference
        ∧ (withdrawRequest 1 2 s).gauge.inService = some (newRequest 7)) := by decide +kernel

/-- R47, R49: a T of 0 ends the measurement SENSE_LOW, and the search of that end starts the request that waited. -/
theorem test_T_of_zero_ends_at_once :
    (let s := endEmpty (endReference 1 0 ((measuring .reference).onCell 3 fun k => { k with pending := some (newRequest 7) }));
      (cellAt s 1).last.map (fun r => (r.outcome, r.m)) = some (.senseLow, some 0) ∧ s.gauge.cell = some 3
        ∧ s.gauge.phase = .sensing ∧ s.gauge.timeT = some 500) := by decide +kernel

/-- A measurement that a channel waits for, and one whose output channel is no GAUGE channel. -/
theorem test_EndsServe_met :
    (let s := (measuring .sensing).onGauge fun g => { g with inService := some ⟨[2], true, false, false, 7⟩ };
      quiet s = true ∧ s.gauge.phase = .sensing ∧ s.gauge.cell = some 1 ∧ (cellAt s 1).config = some cellConfig
        ∧ [0, 1, 2, 3].filter (fun n => (s.gauge.inService.getD (newRequest 0)).waiting.contains n) = [2])
      ∧ (let s := (measuring .sensing).onCell 1 fun k => { k with config := some { cellConfig with output := 1 } };
        quiet s = true ∧ (channelAt s 1).config = .scaled 1 1 0 20) := by decide +kernel

/-! ### Stressing channels -/

theorem test_BindChannel_met :
    takesNow rig ∧ holdsAnchor rig 3 = true ∧ holdsAnchor rig 0 = false ∧ holdsAnchor rig 1 = false
      ∧ ownerOf rig 2 = some (.sc 2) ∧ ownerOf rig 62 = none ∧ ownerOf rig 1 = some (.sc 0)
      ∧ (channelAt rig 0).config = .calibrated 0 20 ∧ (channelAt rig 1).config = .scaled 1 1 0 20
      ∧ (channelAt rig 4).config = .scaled 1 1 0 20 ∧ (channelAt rig 23).config = .none
      ∧ (stressAt rig 1).mode = .unbound ∧ (stressAt rig 0).mode = .idle ∧ (stressAt rig 0).autoTake = false := by
  decide +kernel

theorem test_UnbindChannel_met :
    takesNow rig ∧ (stressAt rig 1).mode = .unbound ∧ holdsAnchor rig 3 = true
      ∧ (stressAt rig 0).mode = .idle ∧ (stressAt rig 0).binding = some (binding 1) := by decide +kernel

theorem test_StartAndHalt_met :
    takesNow rig ∧ (stressAt rig 1).mode = .unbound ∧ (stressAt rig 0).mode = .idle ∧ (stressAt rig 3).mode = .locking
      ∧ (stressAt rig 2).mode = .running := by decide +kernel

theorem test_HaltOfAChannel_met :
    slotOf rig 3 < 96 ∧ (anchorAt rig (slotOf rig 3)).phase = .stressing
      ∧ (cellAt (haltRun 3 .station (asked 0)) (bindingOf rig 3).cell).pending = some (newRequest 7)
      ∧ (let s := (measuring .sensing).onGauge fun g => { g with cell := some 0 };
        (haltRun 3 .station s).gauge.cell = some (bindingOf s 3).cell
          ∧ (haltRun 3 .station s).gauge.inService = some (newRequest 7)) := by decide +kernel

/-- R55: a wait beside another, beside a station mark, and alone. -/
theorem test_Withdrawals_met :
    (let s (q : CellRequest) : State := rig.onCell 0 fun k => { k with pending := some q };
      (bindingOf rig 3).cell = 0
        ∧ (cellAt (haltRun 3 .station (s ⟨[2, 3], false, true, true, 4⟩)) 0).pending = some ⟨[2], false, true, true, 4⟩
        ∧ (cellAt (haltRun 3 .station (s ⟨[3], true, false, false, 4⟩)) 0).pending = some ⟨[], true, false, false, 4⟩
        ∧ (cellAt (haltRun 3 .station (s ⟨[3], false, false, true, 4⟩)) 0).pending = none) := by decide +kernel

theorem test_MeasurementFaults_met :
    holdsAnchor rig 2 = true ∧ holdsAnchor rig 1 = false
      ∧ ((designOf rig (slotOf rig 2)).hardLimit : Int) < 20001 ∧ ((bindingOf rig 2).stroke : Int) < 201
      ∧ (bindingOf rig 2).force = 0
      ∧ ((bindingOf rig 3).seat = 4 ∧ (stressAt rig 3).mode = .locking ∧ (workOf rig 3).progress = some .seating)
      ∧ ((bindingOf rig 2).seat = 4 ∧ (bindingOf rig 2).force ≠ 4 ∧ (bindingOf rig 2).extension ≠ 4
        ∧ (stressAt rig 2).mode ≠ .locking) := by decide +kernel

/-- The rig with channel 2 in a step, holding at its target. -/
def atTarget (step : Nat) : State :=
  withWork rig 2 .running
    { work 9 step with target := some 5000, tolerance := some 50, holdReached := true, commanded := some .hold }

theorem test_MovesChooseAndComplete_met :
    (stressAt (atTarget 1) 2).mode = .running ∧ (5050 : Int) ≤ (designOf (atTarget 1) (slotOf (atTarget 1) 2)).hardLimit
      ∧ stepOf (atTarget 1) 2 = .loadTo (move 500) ∧ stepOf (atTarget 3) 2 = .unloadTo (move 100)
      ∧ ((workOf (atTarget 1) 2).holdReached = true ∧ (workOf (atTarget 1) 2).commanded = some .hold
        ∧ targetOf (atTarget 1) 2 - toleranceOf (atTarget 1) 2 ≤ 5050
        ∧ 5050 ≤ targetOf (atTarget 1) 2 + toleranceOf (atTarget 1) 2)
      ∧ targetOf (atTarget 1) 2 + toleranceOf (atTarget 1) 2 < 5051 := by decide +kernel

/-- The rig with channel 2 in a step 2 of a kind, with a target. -/
def holding (p : ProcStep) (t : Option Int) (d : Option Direction) : State :=
  inStep p .running { Work.clear with target := t, direction := d }

/-- The parameters of a creep hold. -/
def creep (e : Option CreepExtension) : CreepParams :=
  { t1 := 5, t2 := 10, logratio := 778, extension := e, limit := 53, loadTolerance := 20 }

theorem test_WantedMotions_met :
    (workOf (atTarget 1) 2).commanded = some .hold
      ∧ ((workOf rig 2).commanded ≠ some (.advance 3) ∧ queueTakes rig 2 (.jackAdvance 3) = true)
      ∧ ((workOf rig 2).commanded ≠ some .hold ∧ queueTakes (queued fullQueue []) 2 .jackHold = false) := by decide +kernel

theorem test_Choices_met :
    (stepOf (holding (.holdSettle hold) (some 5000) (some .load)) 2 = .holdSettle hold
        ∧ (workOf (holding (.holdSettle hold) (some 5000) (some .load)) 2).target = some 5000
        ∧ (workOf (holding (.holdSettle hold) (some 5000) (some .load)) 2).direction = some .load
        ∧ (4979 : Int) < 5000 - hold.loadTolerance ∧ ¬(4980 : Int) < 5000 - hold.loadTolerance)
      ∧ (workOf (holding (.holdSettle hold) (some 5000) (some .unload)) 2).direction = some .unload
      ∧ (workOf (holding (.holdSettle hold) none none) 2).target = none
      ∧ (stepOf (holding (.holdCreep (creep none)) none none) 2 = .holdCreep (creep none)
        ∧ creepTarget (holding (.holdCreep (creep none)) none none) 2 = 5000
        ∧ (classOf (holding (.holdCreep (creep none)) none none)
            (slotOf (holding (.holdCreep (creep none)) none none) 2)).procedure.take
              (stepNumber (holding (.holdCreep (creep none)) none none) 2 - 1) = [] ++ .loadTo (move 500) :: [])
      ∧ (stepOf (holding .cellCheck none none) 2 = .cellCheck ∧ (stressAt (holding .cellCheck none none) 2).mode = .running
        ∧ (5000 : Int) ≤ (designOf (holding .cellCheck none none) (slotOf (holding .cellCheck none none) 2)).hardLimit)
      ∧ stepOf (holding .apparent none none) 2 = .apparent ∧ stepOf (holding .finish none none) 2 = .finish
      ∧ (isFresh (atTarget 1) (bindingOf (atTarget 1) 2).force = true
        ∧ isFresh (stale 0 (atTarget 1)) (bindingOf (stale 0 (atTarget 1)) 2).force = false) := by decide +kernel

theorem test_EndedSteps_met :
    (stressAt rig 2).mode = .running ∧ StepEnd.completes false ≠ .goesOn ∧ StepEnd.fails .creep ≠ .goesOn
      ∧ occupancy rig.log < 2016
      ∧ (stressAt (fullLog rig) 2).mode = .running ∧ 2016 ≤ occupancy (fullLog rig).log
      ∧ ((workOf (fullLog rig) 2).commanded ≠ some .hold ∧ queueTakes (fullLog rig) 2 .jackHold = true)
      ∧ (stressAt (fullLog (atTarget 1)) 2).mode = .running ∧ (workOf (fullLog (atTarget 1)) 2).commanded = some .hold
      ∧ queueTakes (fullLog (queued fullQueue [])) 2 .jackHold = false := by decide +kernel

/-- The rig with channel 2 in its step 1, with a reading and an overshoot, before a step 2 of a kind. -/
def before (p : ProcStep) : State :=
  withWork (inStep p .running Work.clear) 2 .running
    { work 9 1 with target := some 9, direction := some .load, s1 := some (1, 1), overshoot := true }

/-- R69: the next step starts with the readings cleared; a move sets the target, a lock-off its progress, and a hold
keeps the target. -/
theorem test_nextStep_starts_clear :
    (let w := workOf (endStep 2 (.completes false) (before (.unloadTo (move 100)))) 2;
        w.step = some 2 ∧ w.s1 = none ∧ w.target = some 1000 ∧ w.direction = some .unload ∧ w.progress = none)
      ∧ (let w := workOf (endStep 2 (.completes false) (before (.loadTo (move 200)))) 2;
        w.overshoot = false ∧ w.target = some 2000 ∧ w.direction = some .load ∧ w.tolerance = some 50)
      ∧ (let w := workOf (endStep 2 (.completes false) (before (.lockoff lock))) 2;
        w.s1 = none ∧ w.target = some 9 ∧ w.progress = some .approach)
      ∧ (let w := workOf (endStep 2 (.fails .creep) (before .apparent)) 2;
        w.s1 = none ∧ w.target = some 9 ∧ w.progress = none ∧ w.pendingCause = some .creep) := by decide +kernel

theorem test_SettledSteps_met :
    StepEnd.completes false ≠ .goesOn ∧ (stressAt (endStep 2 (.completes false) rig) 2).mode = .running
      ∧ (stressAt (endStep 2 (.fails .creep) (fullLog rig)) 2).mode ≠ .running := by decide +kernel

/-- R70, R110: a step that ends before an END step ends the test with it. -/
theorem test_settleStep_reaches_END :
    (let t := settleStep 25 2 (before .finish, .completes false);
        (stressAt t 2).mode = .idle ∧ (anchorAt t 9).phase = .accepted)
      ∧ (let t := settleStep 25 2 (fullLog (before .apparent), .completes false);
        (stressAt t 2).mode = .stalled ∧ (workOf t 2).step = some 2 ∧ (workOf t 2).startOwing = true) := by decide +kernel

theorem test_EndGivesTheVerdict_met :
    slotOf rig 3 < 96 ∧ (workOf rig 3).commanded ≠ some .hold ∧ slotOf (atTarget 1) 2 < 96
      ∧ (workOf (atTarget 1) 2).commanded = some .hold
      ∧ (let s := inStep .finish .running Work.clear;
        holdsAnchor s 2 = true ∧ slotOf s 2 < 96 ∧ stepOf s 2 = .finish) := by decide +kernel

/-- The rig at an open tick with channel 2 in a step at an elapsed count. -/
def running (step elapsed : Nat) (p : Option LockProgress) : State :=
  withWork (ticking 7) 2 .running { work 9 step with elapsed := elapsed, progress := p }

/-- The rig at an open tick with the lock window of channel 3 run out. -/
def runOut (p : LockProgress) : State := withWork (ticking 7) 3 .locking { work 10 4 with progress := some p }

theorem test_AcceptanceFigures_met :
    (creepValue 141 100 778 = 53 ∧ creepValue 2147483647 0 1 = 2147483647 ∧ creepValue (-2147483648) 0 1 = -2147483648)
      ∧ (let w := { Work.clear with lastLoaded := some (300, 9), lastUnloaded := some (100, 2) };
        apparentSpan Work.clear = none ∧ apparentSpan w = some (200, 7))
      ∧ (apparentLength (design 0 0) klass (some (100, 1)) = some 109 ∧ apparentLength (design 0 0) klass (some (99, 1)) = none
        ∧ apparentLength (design 0 0) klass (some (100, 0)) = some 0
        ∧ apparentLength (design 0 0) klass (some (100, 600)) = some 65520
        ∧ apparentLength (design 0 0) klass (some (100, 601)) = some 65535)
      ∧ (apparentEnd (design 0 0) klass (some 10799) = .fails .apparentLow
        ∧ apparentEnd (design 0 0) klass (some 10800) = .completes false
        ∧ apparentEnd (design 0 0) klass (some 15000) = .completes false
        ∧ apparentEnd (design 0 0) klass (some 15001) = .fails .apparentHigh)
      ∧ stepOf (inStep .apparent .running Work.clear) 2 = .apparent ∧ klass.tolLow ≤ 1000 := by decide +kernel

/-- The rig with channel 2 in a creep hold at an elapsed count, with two readings. -/
def creeping (m : StressMode) (e : Option CreepExtension) (elapsed : Nat) (s1 s2 : Option (Int × Nat)) : State :=
  inStep (.holdCreep (creep e)) m { Work.clear with elapsed := elapsed, s1 := s1, s2 := s2 }

/-- The extension of a creep hold. -/
def longer : CreepExtension := { t2b := 20, logratio := 778 }

theorem test_CreepReadings_met :
    (holdsAnchor (creeping .running none 4 none none) 2 = true
        ∧ (142 : Int) ≤ (bindingOf (creeping .running none 4 none none) 2).stroke
        ∧ stepOf (creeping .running none 4 none none) 2 = .holdCreep (creep none)
        ∧ (stressAt (creeping .stalled none 5 none none) 2).mode ≠ .running)
      ∧ ((workOf (creeping .running none 4 none none) 2).elapsed < (creep none).t1
        ∧ (creep none).t1 ≤ (workOf (creeping .running none 5 none none) 2).elapsed)
      ∧ ((workOf (creeping .running none 9 (some (100, 5)) none) 2).s1 = some (100, 5)
        ∧ (workOf (creeping .running none 9 (some (100, 5)) none) 2).elapsed < (creep none).t2
        ∧ (creep none).t2 ≤ (workOf (creeping .running none 10 (some (100, 5)) none) 2).elapsed)
      ∧ (creepValue 141 100 (creep none).logratio ≤ (creep none).limit
        ∧ (creep none).limit < creepValue 142 100 (creep none).logratio ∧ (creep (some longer)).extension = some longer)
      ∧ ((workOf (creeping .running (some longer) 20 (some (100, 5)) (some (100, 10))) 2).s2 = some (100, 10)
        ∧ longer.t2b ≤ (workOf (creeping .running (some longer) 20 (some (100, 5)) (some (100, 10))) 2).elapsed
        ∧ (workOf (creeping .running (some longer) 19 (some (100, 5)) (some (100, 10))) 2).elapsed < longer.t2b) := by
  decide +kernel

theorem test_Timeouts_met :
    ((running 1 100 none).tickOpen = true ∧ (stressAt (running 1 100 none) 2).mode = .running
        ∧ stepOf (running 1 100 none) 2 = .loadTo (move 500) ∧ (move 500).timeout ≤ (workOf (running 1 100 none) 2).elapsed)
      ∧ stepOf (running 3 100 none) 2 = .unloadTo (move 100)
      ∧ (stepOf (running 4 100 (some .approach)) 2 = .lockoff lock
        ∧ (borrowed (running 4 100 (some .approach)) 2).timeout ≤ (workOf (running 4 100 (some .approach)) 2).elapsed
        ∧ (classOf (running 4 100 none) (slotOf (running 4 100 none) 2)).procedure.take
            (stepNumber (running 4 100 none) 2 - 1)
              = [.loadTo (move 500), .holdSettle hold] ++ .unloadTo (move 100) :: []) := by decide +kernel

/-! ### Lock-off -/

/-- The rig with channel 2 in a lock-off in a state, with a progress and other working data. -/
def locking' (m : StressMode) (p : LockProgress) (w : Work) : State :=
  inStep (.lockoff lock) m { w with progress := some p }

theorem test_Approach_met :
    (let s := locking' .running .approach Work.clear;
      (stressAt s 2).mode = .running ∧ (3051 : Int) ≤ (designOf s (slotOf s 2)).hardLimit ∧ stepOf s 2 = .lockoff lock
        ∧ (workOf s 2).progress = some .approach ∧ (workOf s 2).approachDirection = none
        ∧ (workOf s 2).approachDone = false ∧ (designOf s (slotOf s 2)).workingLoad * lock.factor / 1000 = 3000
        ∧ (borrowed s 2).tolerance = 50 ∧ (borrowed s 2).approach = 200)
      ∧ (let s := locking' .running .approach
          { Work.clear with approachDirection := some .load, holdReached := true, commanded := some .hold };
        (workOf s 2).holdReached = true ∧ (workOf s 2).commanded = some .hold
          ∧ (3000 - (borrowed s 2).tolerance : Int) ≤ 2950 ∧ (3050 : Int) ≤ 3000 + (borrowed s 2).tolerance
          ∧ (3000 + (borrowed s 2).tolerance : Int) < 3051)
      ∧ (workOf (locking' .running .approach { Work.clear with approachDirection := some .unload }) 2).approachDirection
          = some .unload
      ∧ (let s := locking' .running .approach
          { Work.clear with approachDirection := some .load, approachDone := true, approachPoint := some (3000, 150) };
        (workOf s 2).approachDone = true ∧ (workOf s 2).approachPoint = some (3000, 150)
          ∧ queueTakes s (bindingOf s 2).jack .jackSeat = true ∧ isFresh s (bindingOf s 2).seat = true
          ∧ isFresh (stale 4 s) (bindingOf s 2).seat = false
          ∧ queueTakes (s.onRing fun r => { r with state := .broken }) (bindingOf s 2).jack .jackSeat = false) := by
  decide +kernel

theorem test_LockOffChoices_met :
    (workOf (locking' .locking .seating Work.clear) 2).progress = some .seating
      ∧ (workOf (locking' .running .retained Work.clear) 2).progress = some .retained
      ∧ (workOf (locking' .locking .releasing Work.clear) 2).progress = some .releasing
      ∧ (let s := locking' .running .approach { Work.clear with commanded := some .hold };
        isFresh s (bindingOf s 2).force = true ∧ valueOf s (bindingOf s 2).force = 4000
          ∧ (workOf s 2).approachDirection = none ∧ markOf s (bindingOf s 2).force = .within
          ∧ (workOf s 2).commanded = some .hold ∧ ¬(4000 : Int) ≤ 3000 + (borrowed s 2).tolerance
          ∧ isFresh (stale 0 s) (bindingOf s 2).force = false)
      ∧ (let s := (locking' .running .approach Work.clear).onChannel 0 fun c => { c with value := some 3050, mark := some .over };
        valueOf s (bindingOf s 2).force = 3050 ∧ markOf s (bindingOf s 2).force ≠ .within) := by decide +kernel

theorem test_LockWindow_met :
    (let s := locking' .locking .seating { Work.clear with window := 5 };
      (stressAt s 2).mode = .locking ∧ stepOf s 2 = .lockoff lock ∧ (bindingOf s 2).seat = 4 ∧ (bindingOf s 2).force ≠ 4
        ∧ (bindingOf s 2).extension ≠ 4 ∧ (workOf s 2).progress = some .seating
        ∧ (designOf s (slotOf s 2)).strands = 4
        ∧ ((List.range 16).countP fun i => (7 : Int).toNat.testBit i) = 3
        ∧ ((List.range 16).countP fun i => (32783 : Int).toNat.testBit i) = 5
        ∧ (20000 : Int) ≤ (designOf s (slotOf s 2)).hardLimit)
      ∧ (let s := locking' .locking .releasing { Work.clear with window := 1, deferredFreeze := true, deferredHalt := true };
        (stressAt s 2).mode = .locking ∧ (workOf s 2).progress = some .releasing ∧ (100 : Int) ≤ lock.releaseLevel
          ∧ (lock.releaseLevel : Int) < 101 ∧ (workOf s 2).deferredHalt = true ∧ (workOf s 2).deferredFreeze = true
          ∧ (s.onTrip fun t => { t with frozen := true }).trip.frozen = true ∧ s.trip.frozen = false)
      ∧ ((stressAt (locking' .running .retained Work.clear) 2).mode = .running
        ∧ (workOf (locking' .running .retained Work.clear) 2).progress = some .retained)
      ∧ ((runOut .seating).tickOpen = true ∧ (stressAt (runOut .seating) 3).mode = .locking
        ∧ (workOf (runOut .seating) 3).window = 0 ∧ (workOf (runOut .seating) 3).progress = some .seating
        ∧ (workOf (runOut .releasing) 3).progress ≠ some .seating) := by decide +kernel

theorem test_LockWindowsStayBounded_atTheTick_met : lockBounded (runOut .seating) := by
  refine ⟨?_, ?_⟩ <;> decide +kernel

/-- An outcome record with a reading of a value against a jack force of 4000. -/
def outcome (v : Int) (m : Mark) : OutcomeRecord :=
  { outcome := .reading, reading := some { g := 5, value := v, mark := m, stamp := 7 }, jackForce := 4000
    jackMark := .within, tick := 7 }

theorem test_CellOutcomes_met :
    holdsAnchor rig 1 = false ∧ (workOf rig 2).requestOutstanding = false
      ∧ (let s := inStep .cellCheck .running { Work.clear with requestOutstanding := true };
        holdsAnchor s 2 = true ∧ (workOf s 2).requestOutstanding = true ∧ (stressAt s 2).mode = .running
          ∧ stepOf s 2 = .cellCheck ∧ crossTolerance (classOf s (slotOf s 2)) 4000 = 80
          ∧ valueOf s (bindingOf s 2).force = 4000 ∧ (cellAt s (bindingOf s 2).cell).config ≠ none
          ∧ (let u := s.onCell 0 fun k => { k with config := none };
            (cellAt u (bindingOf u 2).cell).config = none))
      ∧ (stressAt (inStep .cellCheck .frozen { Work.clear with requestOutstanding := true }) 2).mode ≠ .running
      ∧ (let s := inStep .cellCheck .running { Work.clear with outcome := some (outcome 3920 .within) };
        (stressAt s 2).mode = .running ∧ (workOf s 2).outcome = some (outcome 3920 .within)
          ∧ (outcome 3920 .within).reading = some { g := 5, value := 3920, mark := .within, stamp := 7 })
      ∧ (outcome 3920 .over).reading.map (·.mark) ≠ some .within
      ∧ ((4000 - 3920 : Int).natAbs ≤ 80 ∧ 80 < (4000 - 3919 : Int).natAbs)
      ∧ (let s := locking' .running .retained { Work.clear with requestOutstanding := true };
        stepOf s 2 = .lockoff lock ∧ (workOf s 2).requestOutstanding = true
          ∧ (2939 : Int) < retainedLow (classOf s (slotOf s 2)) 3000 ∧ retainedLow (classOf s (slotOf s 2)) 3000 ≤ 2940
          ∧ 3090 ≤ retainedHigh (classOf s (slotOf s 2)) 3000 ∧ retainedHigh (classOf s (slotOf s 2)) 3000 < 3091) := by
  decide +kernel

/-- The rig at an open tick with channel 2 in its settle hold. -/
def settling (elapsed progress count : Nat) : State :=
  withWork (ticking 7) 2 .running
    { work 9 2 with elapsed := elapsed, settle := some { reference := 150, progress := progress, count := count } }

/-- The rig at an open tick with channel 2 in a state, at a point count, with a held record. -/
def pointing (m : StressMode) (count : Nat) : State :=
  withWork (ticking 7) 2 m { work 9 1 with pointCounter := count, held := some (record 0) }

theorem test_IntervalsPointsAndHeldRecords_met :
    (stepOf (settling 5 2 1) 2 = .holdSettle hold ∧ hold.interval ≤ 2 ∧ 1 + 1 < hold.limit ∧ hold.limit ≤ 2 + 1)
      ∧ (hold.maximum ≤ (workOf (settling 20 1 0) 2).elapsed ∧ 1 < hold.interval)
      ∧ (0 < pointInterval (pointing .running 5) 2 ∧ pointInterval (pointing .running 5) 2 ≤ 5)
      ∧ (stressAt (pointing .running 5) 2).mode = .running ∧ (stressAt (pointing .locking 5) 2).mode = .locking
      ∧ occupancy (pointing .running 5).log < 2016 ∧ 2016 ≤ occupancy (fullLog (pointing .running 5)).log
      ∧ (workOf (pointing .frozen 0) 2).held = some (record 0) ∧ (stressAt (pointing .stalled 0) 2).mode = .stalled
      ∧ (pointing .frozen 0).passDue = false := by decide +kernel

theorem test_SettleSamples_met :
    (holdsAnchor (settling 5 2 1) 2 = true ∧ (156 : Int) ≤ (bindingOf (settling 5 2 1) 2).stroke
        ∧ stepOf (settling 5 2 1) 2 = .holdSettle hold
        ∧ (workOf (settling 5 2 1) 2).settle = some { reference := 150, progress := 2, count := 1 }
        ∧ (155 - 150 : Int).natAbs ≤ hold.band ∧ hold.band < (156 - 150 : Int).natAbs)
      ∧ (let s := withWork rig 2 .running { work 9 2 with elapsed := 9 };
        (workOf s 2).settle = none ∧ (workOf s 2).elapsed < hold.minimum)
      ∧ (let s := withWork rig 2 .running { work 9 2 with elapsed := 10 };
        (workOf s 2).settle = none ∧ hold.minimum ≤ (workOf s 2).elapsed)
      ∧ (stressAt (withWork rig 2 .stalled (work 9 2)) 2).mode ≠ .running := by decide +kernel

theorem test_Resumes_met :
    ((stressAt (running 1 100 none) 2).mode = .running ∧ (workOf (running 1 100 none) 2).outcome = none
        ∧ stepOf (running 1 100 none) 2 = .loadTo (move 500) ∧ (move 500).timeout ≤ (workOf (running 1 100 none) 2).elapsed)
      ∧ (stepOf (settling 20 1 0) 2 = .holdSettle hold ∧ hold.maximum ≤ (workOf (settling 20 1 0) 2).elapsed)
      ∧ (let s := inStep .apparent .running { Work.clear with startOwing := true };
        stepOf s 2 = .apparent ∧ (workOf s 2).startOwing = true)
      ∧ (let s := inStep .cellCheck .running Work.clear;
        stepOf s 2 = .cellCheck ∧ (workOf s 2).startOwing = false ∧ (workOf s 2).outcome = none) := by decide +kernel

/-! ### The placement unit -/

theorem test_PlacementRequests_met :
    takesNow rig ∧ rig.placement.mode = .idle ∧ (takesNow (placing' .paused 0 0) ∧ (placing' .paused 0 0).placement.mode ≠ .idle)
      ∧ placementConfigInRange { placement with winchNode := 63 } = false
      ∧ (placementConfigInRange { placement with winchNode := 62 } = true ∧ placementKinds rig placement = true)
      ∧ ownerOf rig 62 = none ∧ ownerOf rig 10 = some .pu ∧ ownerOf rig 1 = some (.sc 0) := by decide +kernel

/-- The rig with the run command of winching recorded already. -/
def winchRuns : State := rig.onPlacement fun p => { p with winchCommand := some (.run 3) }

theorem test_RunsBegin_met :
    rig.placement.config = some placement ∧ (channelAt rig 2).config = .counter 1 1 20
      ∧ (isFresh rig 2 = true ∧ recordedDrive winchRuns .winching = some (.run 3))
      ∧ (recordedDrive rig .winching ≠ some (.run 3) ∧ queueTakes rig (driveNode rig .winching) (.winchPayout 3) = true)
      ∧ (let s := rig.onRing fun r => { r with state := .broken };
        recordedDrive s .winching ≠ some (.run 3) ∧ queueTakes s (driveNode s .winching) (.winchPayout 3) = false) := by
  decide +kernel

theorem test_PlacementHaltsAndPoints_met :
    (placing' .winching 50 5).placement.config = some placement
      ∧ (placing' .winching 50 5).placement.run
          = some { slot := 2, pausedFrom := none, elapsed := 50, speed := 3, starved := false, pointCounter := 5 }
      ∧ placement.winchTimeout ≤ 50 ∧ (0 < (classOf rig 2).pointInterval ∧ (classOf rig 2).pointInterval ≤ 5)
      ∧ (let s := (placing' .winching 50 5).onAnchor 2 fun a => { a with phase := .winching };
        (anchorAt s 2).phase = phaseAnchor (runPhase s)) := by decide +kernel

/-- The placing rig with a value of a channel. -/
def reading (s : State) (m : Nat) (v : Int) : State := s.onChannel m fun c => { c with value := some v }

theorem test_PlacementRunsEnd_met :
    (let s := reading (placing' .winching 0 0) 2 500;
      s.placement.mode = .winching ∧ isFresh s placement.payout = true
        ∧ ((designOf s 2).insertionTarget : Int) ≤ valueOf s placement.payout ∧ (classOf s 2).groutFollows = false)
      ∧ (let s := (reading (placing' .winching 0 0) 2 500).onAnchor 2 (fun _ => anchor .winching 2 2);
        ((designOf s 2).insertionTarget : Int) ≤ valueOf s placement.payout ∧ (classOf s 2).groutFollows = true)
      ∧ (let s := reading (placing' .grouting 0 0) 3 300;
        s.placement.mode = .grouting ∧ isFresh s placement.flow = true ∧ isFresh s placement.ret = true
          ∧ ((designOf s 2).groutTarget : Int) ≤ valueOf s placement.flow ∧ 1 ≤ valueOf s placement.ret)
      ∧ (let s := reading (reading (placing' .grouting 0 0) 3 900) 4 0;
        isFresh s placement.flow = true ∧ isFresh s placement.ret = true
          ∧ ((designOf s 2).groutMax : Int) ≤ valueOf s placement.flow ∧ valueOf s placement.ret < 1) := by decide +kernel

theorem test_EndedRuns_met :
    (let s := reading (placing' .winching 7 0) 2 500;
      queueTakes s placement.winchNode .winchStop = true
        ∧ queueTakes (s.onRing fun r => { r with state := .broken }) placement.winchNode .winchStop = false
        ∧ isFresh s placement.payout = true ∧ ((designOf s 2).insertionTarget : Int) ≤ valueOf s placement.payout
        ∧ (classOf s 2).groutFollows = false)
      ∧ (let s := reading (placing' .grouting 7 0) 3 300;
        isFresh s placement.flow = true ∧ isFresh s placement.ret = true
          ∧ ((designOf s 2).groutTarget : Int) ≤ valueOf s placement.flow ∧ 1 ≤ valueOf s placement.ret) := by decide +kernel

theorem test_RunsGoOn_met :
    (recordedDrive winchRuns .winching = some (.run 3) ∧ recordedDrive rig .winching ≠ some (.run 3)
        ∧ queueTakes rig (driveNode rig .winching) (driveCommand .winching (.run 3)) = true
        ∧ queueTakes (queued fullQueue []) (driveNode rig .winching) (driveCommand .winching (.run 3)) = false)
      ∧ (let s := placing' .winching 0 0;
        s.placement.mode = .winching ∧ (1 : Nat) ≠ placement.payout ∧ isFresh s placement.payout = true
          ∧ valueOf (reading s 2 499) placement.payout < (designOf s 2).insertionTarget
          ∧ isFresh (stale 2 s) placement.payout = false)
      ∧ (let s := placing' .grouting 0 0;
        s.placement.mode = .grouting ∧ (2 : Nat) ≠ placement.flow ∧ (2 : Nat) ≠ placement.ret
          ∧ isFresh s placement.flow = true ∧ isFresh s placement.ret = true
          ∧ ¬((designOf s 2).groutTarget : Int) ≤ valueOf (reading s 3 299) placement.flow
          ∧ ¬((designOf s 2).groutMax : Int) ≤ valueOf (reading s 3 299) placement.flow
          ∧ isFresh (stale 4 s) placement.ret = false)
      ∧ (let s := (placing' .paused 0 0).onPlacement fun p =>
            { p with run := p.run.map fun r => { r with pausedFrom := some .grouting } };
        s.placement.mode = .paused ∧ (s.placement.run.map (·.pausedFrom)) = some (some .grouting)) := by decide +kernel

theorem test_Events_met :
    (placing' .winching 0 0).placement.mode ≠ .idle ∧ runPhase (placing' .winching 0 0) = .winching
      ∧ placement.tensionX = some 0 ∧ placement.pressureX = some 1 ∧ runPhase (placing' .grouting 0 0) = .grouting
      ∧ rig.placement.mode = .idle ∧ (placing' .paused 0 0).placement.mode = .paused
      ∧ isFresh (placing' .winching 0 0) placement.payout = true
      ∧ isFresh (stale 2 (placing' .winching 0 0)) placement.payout = false := by decide +kernel

/-! ### Classifiers and trip counters -/

/-- The rig at an open tick with classifier 3 in a state since tick 0. -/
def watching (m : ClassifierMode) (tick : Word32) : State :=
  (ticking tick).onClassifier 3 fun _ => { config := some watcher, mode := m, start := some 0 }

theorem test_Classifiers_met :
    takesNow rig ∧ (classifierAt rig 0).config = some watcher ∧ (classifierAt rig 0).mode = .quiet
      ∧ watcher.level ≤ 5000 ∧ ¬ watcher.level ≤ 4999 ∧ (4899 : Int) < watcher.level - watcher.hysteresis
      ∧ ¬ (4900 : Int) < watcher.level - watcher.hysteresis
      ∧ ((classifierAt rig 1).mode = .excursion ∧ (now rig - 4 : Word32).toNat = watcher.tSpike)
      ∧ (now (watching .excursion 2) - 0 : Word32).toNat < watcher.tSpike
      ∧ ((classifierAt (watching .declared 9) 3).mode = .declared
        ∧ watcher.tLong ≤ (now (watching .declared 9) - 0 : Word32).toNat)
      ∧ ((classifierAt (watching .excursion 5) 3).mode = .excursion
        ∧ watcher.tHold ≤ (now (watching .excursion 5) - 0 : Word32).toNat)
      ∧ (classifierAt (watching .stalled 9) 3).mode = .stalled := by decide +kernel

theorem test_Observations_met :
    rig.trip.frozen = false ∧ frozenRig.trip.frozen = true
      ∧ ((counterAt rig 0).enabled = true ∧ (counterAt rig 0).source = some (.channel 0 5000 false false)
        ∧ (counterAt rig 0).value = 65534)
      ∧ ((counterAt rig 1).source = some .ringError ∧ (counterAt rig 1).freezeEnable = true
        ∧ (counterAt rig 1).value = 65535)
      ∧ (stressAt rig 2).mode = .running ∧ (ownerOf rig (bindingOf rig 2).jack).isSome = true
      ∧ (stressAt rig 3).mode = .locking ∧ (stressAt rig 0).mode = .idle ∧ (stressAt rig 1).mode = .unbound
      ∧ (placing' .winching 0 0).placement.mode = .winching ∧ (placing' .grouting 0 0).placement.mode = .grouting
      ∧ rig.placement.mode = .idle
      ∧ ((counterAt rig 1).enabled = true ∧ (counterAt rig 1).value = 65535 ∧ (counterAt rig 1).source ≠ some .gaugeFault) := by
  decide +kernel

/-- R87, R129, R176: at a freeze the stops of a running channel and a running winch stand in the priority list with their
units, and the queue keeps no entry of their nodes. -/
theorem test_freeze_places_stops :
    let t := becomeFrozen 20 (placing' .winching 0 0)
    t.sched.priority = [{ node := 2, command := .jackHold, origin := .sc 2 }, { node := 10, command := .winchStop, origin := .pu }]
      ∧ t.sched.queue.map (·.node) = [1] ∧ (stressAt t 2).mode = .frozen ∧ t.placement.winchCommand = some .stop
      ∧ (ownerOf rig 2).isSome = true ∧ (ownerOf rig 10).isSome = true := by decide +kernel

/-- The rig with the overflow mark of counter 1 set, its freeze enabled or not. -/
def marked' (enable : Bool) (s : State) : State :=
  s.onTrip fun t => { t with
    counters := put t.counters 1 { Counter.reset with source := some .ringError, freezeEnable := enable, overflow := true } }

theorem test_TripRequests_met :
    takesNow rig ∧ tripConfigInRange { enabled := true, source := .events 3 16, freezeEnable := true, preload := 65535 } = false
      ∧ tripConfigInRange { enabled := true, source := .events 3 15, freezeEnable := true, preload := 65535 } = true
      ∧ (takesNow (marked' false rig) ∧ (counterAt (marked' false rig) 1).overflow = true
        ∧ (marked' false rig).trip.frozen = false)
      ∧ (counterAt rig 7).overflow = false ∧ rig.trip.frozen = false
      ∧ (let s := { frozenRig with pending := [] };
        takesNow s ∧ s.trip.frozen = true ∧ ∀ q, q < 8 → (counterAt s q).freezeEnable = true → (counterAt s q).overflow = false)
      ∧ (takesNow (marked' true frozenRig) ∧ (counterAt (marked' true frozenRig) 1).freezeEnable = true
        ∧ (counterAt (marked' true frozenRig) 1).overflow = true)
      ∧ (let s := withWork (fullLog frozenRig) 2 .frozen { work 9 1 with held := some (record 0) };
        takesNow s ∧ (stressAt s 2).mode = .frozen ∧ (workOf s 2).held.isSome = true) := by decide +kernel

theorem test_Thaws_met :
    (stressAt rig 2).mode ≠ .frozen
      ∧ (let s := withWork frozenRig 2 .frozen (work 9 1);
        (stressAt s 2).mode = .frozen ∧ (workOf s 2).held = none)
      ∧ (let s := withWork frozenRig 2 .frozen { work 9 1 with held := some (record 0) };
        (stressAt s 2).mode = .frozen ∧ (workOf s 2).held ≠ none) := by decide +kernel

theorem test_ClearTrip_met : takesNow (marked' true frozenRig) := by decide +kernel

/-! ### The ring and the scheduler -/

/-- Priority entries of `n` nodes from node 20 on; only the nodes of the rig have owners. -/
def halts (n : Nat) : List PriorityEntry := (List.range n).map fun i => { node := i + 20, command := .jackHold, origin := .sc 0 }

theorem test_CommandsAreQueued_met :
    (down true).ring.state ≠ .up
      ∧ ((∀ e ∈ fullQueue, ¬ (e.node = 1 ∧ commandClass e.command = commandClass .jackHold)) ∧ 16 ≤ fullQueue.length)
      ∧ (∃ e ∈ rig.sched.queue, e.node = 1 ∧ commandClass e.command = commandClass (.jackAdvance 1))
      ∧ ((∀ e ∈ rig.sched.queue, ¬ (e.node = 3 ∧ commandClass e.command = commandClass .jackHold))
        ∧ rig.sched.queue.length < 16)
      ∧ (∃ e ∈ (queued [] (halts 3)).sched.priority, e.node = 20)
      ∧ ((∀ e ∈ halts 7, e.node ≠ 2) ∧ (halts 7).length < 8)
      ∧ ((∀ k ∈ halts 8, k.node ≠ 2) ∧ 8 ≤ (halts 8).length ∧ ownerOf (queued [] (halts 8)) 20 = none)
      ∧ ownerOf rig 2 = some (.sc 2) := by decide +kernel

theorem test_HaltSweep_met :
    ((rig.placement.config.map (·.winchNode)) = some 10 ∧ ownerOf rig 10 = some .pu ∧ ownerOf rig 11 = some .pu
        ∧ placement.pumpNode ≠ placement.winchNode)
      ∧ (State.reset.placement.config = none ∧ ownerOf (rig.setOwner 11 none) 11 = none) := by decide +kernel

/-- The rig with port B occupied by an own frame. -/
def sendingRig (discarded : Bool) : State :=
  rig.onRing fun r =>
    { r with transmitter := some { frame := [], tag := 3, kind := .poll, dest := 20, about := .none, discarded := discarded } }

theorem test_RingConfigurationAndPortB_met :
    takesNow rig ∧ quiet rig = true ∧ pollConfigInRange { node := 62, kind := 15, period := 600, slots := [some 23] } = true
      ∧ pollConfigInRange { node := 63, kind := 15, period := 600, slots := [some 23] } = false
      ∧ (let s := rig.onRing fun r => { r with store := [[1]] }; quiet s = true ∧ s.ring.transmitter = none)
      ∧ rig.ring.store = [] ∧ rig.ring.transmitter = none
      ∧ quiet (sendingRig false) = true ∧ quiet (sendingRig true) = true := by decide +kernel

/-- The rig in ISSUING with a queue. -/
def issuing (q : List QueueEntry) : State := { queued q [] with sched := { (queued q []).sched with mode := .issuing } }

/-- The rig with no poll entry but entry 0, due since tick 5, and entry 3, due since tick 6. -/
def pollsDue : State :=
  { rig with sched := { rig.sched with polls := put (put rig.sched.polls 0 (some (poll 5))) 3 (some (poll 6)) } }

theorem test_ModesAndPolls_met :
    (rig.sched.mode = .sampling ∧ ¬ rig.sched.params.high ≤ rig.sched.queue.length)
      ∧ (fullQueue.length ≥ rig.sched.params.high)
      ∧ ((issuing []).sched.mode = .issuing ∧ (issuing []).sched.queue.length ≤ (issuing []).sched.params.low)
      ∧ ¬ (issuing fullQueue).sched.queue.length ≤ (issuing fullQueue).sched.params.low
      ∧ (quiet pollsDue = true ∧ pollsDue.ring.transmitter = none ∧ pollsDue.ring.store = [] ∧ pollsDue.ring.state = .up
        ∧ pollsDue.ring.inFlight.length < 4 ∧ (judgeMode pollsDue).sched.mode = .sampling
        ∧ pollsDue.sched.priority = [] ∧ pollsDue.sched.passedOver < 2 ∧ pollAt pollsDue 0 = some (poll 5)
        ∧ (now pollsDue - 6 : Word32).toNat < (now pollsDue - 5 : Word32).toNat
        ∧ pollAt pollsDue 3 = some (poll 6)) := by decide +kernel

/-- The rig with nothing waiting and a bound on the queue that is reached at once. -/
def eager : State :=
  { pollsDue with sched := { pollsDue.sched with queue := [], params := { pollsDue.sched.params with high := 0 } } }

theorem test_PollsInIssuing_met :
    quiet eager = true ∧ (judgeMode eager).sched.mode = .issuing ∧ eager.sched.queue = [] ∧ eager.sched.priority = []
      ∧ pollAt eager 0 = some (poll 5) ∧ pollAt eager 3 = some (poll 6) := by decide +kernel

theorem test_CommandsInSampling_met :
    quiet rig = true ∧ rig.ring.transmitter = none ∧ rig.ring.store = [] ∧ rig.ring.state = .up
      ∧ rig.ring.inFlight.length < 4 ∧ rig.sched.priority = [] ∧ (judgeMode rig).sched.mode = .sampling
      ∧ rig.sched.queue = waiting 2 (.jackAdvance 3) 2 :: [waiting 1 .jackHold 0] ∧ rig.sched.passedOver ≠ 2
      ∧ (∀ e, e < 32 → ∀ p ∈ (pollAt rig e).toList, p.inFlight = true ∨ 2 ^ 31 ≤ (now rig - p.nextDue).toNat) := by
  decide +kernel

theorem test_Insertion_met :
    (quiet (sendingRig false) = true ∧ (sendingRig false).ring.transmitter ≠ none)
      ∧ (quiet (down false) = true ∧ (down false).ring.probeDue = false ∧ (down false).ring.transmitter = none)
      ∧ (quiet (down true) = true ∧ (down true).ring.probeDue = true ∧ (down true).ring.state ≠ .up)
      ∧ (let s := rig.onRing fun r => { r with inFlight := flight 7 1 .mgmtResp .none :: r.inFlight };
        quiet s = true ∧ 4 ≤ s.ring.inFlight.length ∧ s.ring.transmitter = none ∧ s.ring.store = [])
      ∧ (quiet (queued [] (halts 2)) = true ∧ (halts 2).length = 2 ∧ (queued [] (halts 2)).ring.inFlight.length < 4)
      ∧ (quiet (issuing fullQueue) = true ∧ (judgeMode (issuing fullQueue)).sched.mode = .issuing
        ∧ (issuing fullQueue).sched.priority = [])
      ∧ (quiet (answering 1 2) = true ∧ (answering 1 2).sched.passedOver = 2
        ∧ (judgeMode (answering 1 2)).sched.mode = .sampling ∧ (answering 1 2).sched.priority = [])
      ∧ (quiet (queued [] []) = true ∧ (queued [] []).ring.responses = []
        ∧ (∀ e, e < 32 → ∀ p ∈ (pollAt (queued [] []) e).toList, p.inFlight = true ∨ 2 ^ 31 ≤ (7 - p.nextDue).toNat)) := by
  decide +kernel

theorem test_LossOfSignal_met :
    (quiet (down false) = true ∧ (down false).ring.state ≠ .up)
      ∧ (quiet (placing' .winching 0 0) = true ∧ (placing' .winching 0 0).ring.state = .up)
      ∧ (holdsAnchor rig 2 = true ∧ slotOf rig 2 < 96) ∧ holdsAnchor rig 0 = false
      ∧ (placing' .winching 0 0).placement.mode ≠ .idle := by decide +kernel

/-- The rig with losses counted. -/
def losing (n : Nat) (fs : List InFlight) : State := rig.onRing fun r => { r with lossCount := n, inFlight := fs }

theorem test_Losses_met :
    (rig.ring.inFlight.find? (·.tag == 255) = none)
      ∧ (quiet (losing 2 rig.ring.inFlight) = true ∧ 2 ≤ (losing 2 rig.ring.inFlight).ring.lossCount)
      ∧ rig.ring.inFlight.find? (·.tag == 2) = some (flight 2 1 .mgmtResp .none)
      ∧ rig.ring.inFlight.find? (·.tag == 0) = some (flight 0 20 .poll (.poll 0 [some 0, none] false))
      ∧ (losing 1 [flight 0 20 .poll (.poll 0 [] true)]).ring.inFlight.find? (·.tag == 0)
          = some (flight 0 20 .poll (.poll 0 [] true))
      ∧ rig.ring.inFlight.find? (·.tag == 1) = some (flight 1 2 .command (.command (.sc 2) .jackHold false))
      ∧ (quiet (down false) = true ∧ (down false).ring.inFlight.find? (·.tag == 9) = some (flight 9 0 .probe .none)) := by
  decide +kernel

/-- The rig with a last-sent record of node 3, and failures counted. -/
def failing (count : Nat) (q : List QueueEntry) : State :=
  { rig with sched := { rig.sched with
      failures := put (put (put rig.sched.failures 2 count) 9 count) 61 count, queue := q
      lastSent := put rig.sched.lastSent 2 (put (look rig.sched.lastSent 2) 0
        (some { command := .jackHold, origin := .sc 3, tag := 8, tick := 7 })) } }

theorem test_Failures_met :
    (failuresOf (failing 1 []) 3 < 2 ∧ lastSentAt (failing 1 []) 3 (commandClass .jackHold)
        = some { command := .jackHold, origin := .sc 3, tag := 8, tick := 7 })
      ∧ (∀ e ∈ (failing 1 []).sched.priority, e.node ≠ 3)
      ∧ (∃ e ∈ (failing 1 [waiting 3 .jackHold 3]).sched.queue, e.node = 3)
      ∧ (2 ≤ failuresOf (failing 2 []) 3 ∧ ownerOf (failing 2 []) 3 = some (.sc 3))
      ∧ (2 ≤ failuresOf (failing 2 []) 10 ∧ ownerOf (failing 2 []) 10 = some .pu)
      ∧ (2 ≤ failuresOf (failing 2 []) 62 ∧ ownerOf (failing 2 []) 62 = none) := by decide +kernel

/-- The rig with a full queue and a command of a node and origin sent last under tag 8. -/
def crowded (node : Nat) (c : Command) (o : Owner) : State :=
  recordSent node c o 8 (failing 1 fullQueue)

theorem test_FullQueue_met :
    (let s := crowded 3 .jackHold (.sc 3);
      failuresOf s 3 < 2 ∧ (∀ e ∈ s.sched.queue, e.node ≠ 3) ∧ (∀ e ∈ s.sched.priority, e.node ≠ 3)
        ∧ ((lastSentAt s 3 (commandClass .jackHold)).map (·.tag)) = some 8 ∧ 16 ≤ s.sched.queue.length
        ∧ commandClass .jackHold = .motion ∧ (bindingOf s 3).jack = 3)
      ∧ (let s := crowded 10 (.winchPayout 3) .pu;
        ((lastSentAt s 10 .winch).map (·.tag)) = some 8 ∧ commandClass (.winchPayout 3) = .winch
          ∧ s.placement.config = some placement ∧ placement.winchNode = 10)
      ∧ (let s := crowded 11 (.pumpRun 4) .pu;
        ((lastSentAt s 11 .pump).map (·.tag)) = some 8 ∧ commandClass (.pumpRun 4) = .pump ∧ placement.pumpNode = 11)
      ∧ (commandClass .jackSeat = .seat ∧ ((lastSentAt (crowded 3 .jackSeat (.sc 3)) 3 .seat).map (·.tag)) = some 8) := by
  decide +kernel

/-- A frame that carries the tag of an own frame and a wrong CRC. -/
def damaged (tag : Nat) : List Byte := (frame 20 0 1 1 tag []).set 3 9

theorem test_DamagedFrames_met :
    (¬(malformed (damaged 0) = false ∧ crcGood (damaged 0) = true) ∧ 5 ≤ (damaged 0).length ∧ byteAt (damaged 0) 1 = 0
        ∧ rig.ring.inFlight.find? (·.tag == byteAt (damaged 0) 4) = some (flight 0 20 .poll (.poll 0 [some 0, none] false)))
      ∧ (crcGood (damaged 1) = false ∧ rig.ring.inFlight.find? (·.tag == byteAt (damaged 1) 4)
          = some (flight 1 2 .command (.command (.sc 2) .jackHold false)))
      ∧ (crcGood (damaged 2) = false
        ∧ rig.ring.inFlight.find? (·.tag == byteAt (damaged 2) 4) = some (flight 2 1 .mgmtResp .none))
      ∧ (2 ≤ (losing 2 rig.ring.inFlight).ring.lossCount ∧ (losing 1 rig.ring.inFlight).ring.lossCount < 2)
      ∧ (losing 1 [flight 0 20 .poll (.poll 0 [] true)]).ring.inFlight.find? (·.tag == byteAt (damaged 0) 4)
          = some (flight 0 20 .poll (.poll 0 [] true))
      ∧ (crcGood (damaged 9) = false ∧ quiet (down false) = true
        ∧ (down false).ring.inFlight.find? (·.tag == byteAt (damaged 9) 4) = some (flight 9 0 .probe .none)) := by
  decide +kernel

theorem test_Frames_met :
    (quiet rig = true ∧ malformed [] = true)
      ∧ (malformed (frame 5 0 2 0 200 []) = false ∧ crcGood (frame 5 0 2 0 200 []) = true
        ∧ ∀ f ∈ rig.ring.inFlight, f.tag ≠ byteAt (frame 5 0 2 0 200 []) 4)
      ∧ (byteAt (frame 5 63 2 0 200 []) 1 = 63 ∧ crcGood (frame 5 63 2 0 200 []) = true)
      ∧ (let bs := frame 1 9 2 0 200 (commandBytes (.jackAdvance 8));
        malformed bs = false ∧ crcGood bs = true ∧ byteAt bs 2 = 2 ∧ haltPayload (payload bs) = false
          ∧ ownerOf rig (byteAt bs 0) ≠ none)
      ∧ (let bs := frame 62 9 2 0 200 (commandBytes (.jackAdvance 8));
        ¬ (byteAt bs 2 = 3 ∧ byteAt bs 0 = 0) ∧ ownerOf rig (byteAt bs 0) = none)
      ∧ (malformed (asking 0) = false ∧ crcGood (asking 0) = true ∧ byteAt (asking 0) 0 = 0 ∧ byteAt (asking 0) 2 = 3
        ∧ byteAt (asking 0) 1 = rig.station.address ∧ ((asking 0)[3]?.getD 0) &&& 4 = 0 ∧ ((asking 0)[3]?.getD 0) &&& 1 = 0
        ∧ rig.ring.responses.length < 4 ∧ byteAt (payload (asking 0)) 0 = requestCode .readStatus
        ∧ decodeRequest (requestCode .readStatus) ((payload (asking 0)).drop 1) = some .readStatus)
      ∧ ((asking 1)[3]?.getD 0) &&& 1 ≠ 0 := by decide +kernel

/-- An own frame under the tag of another kind, and requests of the station that spell nothing, or LOAD_PART. -/
theorem test_OddFrames_met :
    (let bs := frame 20 0 2 1 0 [];
      malformed bs = false ∧ crcGood bs = true ∧ byteAt bs 1 = 0 ∧ byteAt bs 4 = 0
        ∧ ∀ f ∈ rig.ring.inFlight, f.tag ≠ byteAt bs 4 ∨ frameKindCode f.kind ≠ byteAt bs 2 ∨ f.dest ≠ byteAt bs 0)
      ∧ (let bs := frame 0 1 3 0 200 [0x60, 0];
        malformed bs = false ∧ crcGood bs = true ∧ byteAt bs 1 = rig.station.address
          ∧ decodeRequest 0x60 ((payload bs).drop 1) = none)
      ∧ (let bs := frame 0 1 3 0 200 []; malformed bs = false ∧ crcGood bs = true ∧ payload bs = [])
      ∧ (let bs := frame 0 1 3 0 200 [0x63, 0x14, 0, 0, 1, 9];
        malformed bs = false ∧ crcGood bs = true ∧ byteAt (payload bs) 0 = 0x63
          ∧ takePart ((payload bs).drop 1) = some (0x14, 0, false, [9]))
      ∧ takePart ((payload (frame 0 1 3 0 200 [0x63, 0x14])).drop 1) = none := by decide +kernel

theorem test_Returns_met :
    (quiet rig = true ∧ malformed (pollReturn 1 2) = false ∧ crcGood (pollReturn 1 2) = true ∧ byteAt (pollReturn 1 2) 1 = 0
        ∧ matchingEntry rig (pollReturn 1 2) = some (flight 0 20 .poll (.poll 0 [some 0, none] false))
        ∧ ((pollReturn 1 2)[3]?.getD 0) &&& 1 ≠ 0 ∧ (payload (pollReturn 1 2)).length = 2 + 4 * 2
        ∧ byteAt (payload (pollReturn 1 2)) 1 = 2)
      ∧ byteAt (payload (pollReturn 1 3)) 1 ≠ 2 ∧ ((pollReturn 0 2)[3]?.getD 0) &&& 1 = 0
      ∧ matchingEntry rig (frame 2 0 2 1 1 (commandBytes .jackHold))
          = some (flight 1 2 .command (.command (.sc 2) .jackHold false))
      ∧ matchingEntry rig (frame 1 0 4 0 2 []) = some (flight 2 1 .mgmtResp .none)
      ∧ matchingEntry (losing 1 [flight 0 20 .poll (.poll 0 [some 0, none] true)]) (pollReturn 1 2)
          = some (flight 0 20 .poll (.poll 0 [some 0, none] true))
      ∧ (quiet (down false) = true
        ∧ matchingEntry (down false) (frame 0 0 5 0 9 []) = some (flight 9 0 .probe .none)) := by decide +kernel

/-! ### The log, time, emergency stop, restart and long bodies -/

theorem logOf_inOrder (n : Nat) (h : n ≤ 2048) : logInOrder (logOf n) := by
  refine ⟨by simpa [logOf] using h, by simp [logOf, State.reset, State.power], ?_, ?_, by simp [logOf, State.reset, State.power]⟩
  · intro i hi
    have : i < n := by simpa [logOf] using hi
    simp [logOf, State.reset, State.power, this]
  · intro e he
    cases n with
    | zero => simp [logOf] at he
    | succ n =>
      simp only [logOf, List.head?_map, List.head?_range] at he
      simp at he
      subst he; simp

theorem test_Log_met :
    takesNow rig ∧ logInOrder rig.log ∧ (rig.log.entries.length ≤ (4 - rig.log.oldest : Word32).toNat)
      ∧ (3 - rig.log.oldest : Word32).toNat < rig.log.entries.length
      ∧ logInOrder (logOf 2015) ∧ logInOrder (logOf 2016) ∧ logInOrder (logOf 2048) :=
  ⟨by decide +kernel, rig_log, by decide +kernel, by decide +kernel, logOf_inOrder _ (by decide), logOf_inOrder _ (by decide),
    logOf_inOrder _ (by decide)⟩

theorem test_Time_met :
    quiet rig = true ∧ (holdsAnchor rig 2 = true ∧ stepOf rig 2 = .loadTo (move 500)) ∧ holdsAnchor rig 1 = false
      ∧ (let s := runOut .seating; (stressAt s 3).mode = .locking ∧ (workOf s 3).progress ≠ some .approach)
      ∧ ((anchorAt rig 7).phase = .curing ∧ (anchorAt rig 7).completionMinute = some 40
        ∧ (anchorAt rig 7).design = some (design 7 0) ∧ (40 : Nat) + (design 7 0).cureMinutes ≤ 100)
      ∧ takesNow rig := by decide +kernel

theorem test_TicksOfTests_met :
    (let s := withWork rig 2 .running { work 9 1 with elapsed := 99 };
      holdsAnchor s 2 = true ∧ (stressAt s 2).mode = .running ∧ stepOf s 2 = .loadTo (move 500)
        ∧ (move 500).timeout ≤ min 4294967295 ((workOf s 2).elapsed + 1))
      ∧ (let s := withWork rig 2 .running { work 9 1 with elapsed := 98 };
        stepOf s 2 = .loadTo (move 500) ∧ ¬(move 500).timeout ≤ min 4294967295 ((workOf s 2).elapsed + 1))
      ∧ (let s := withWork rig 2 .running
          { work 9 2 with settle := some { reference := 150, progress := 1, count := 2 } };
        stepOf s 2 = .holdSettle hold ∧ hold.interval ≤ 1 + 1 ∧ hold.limit ≤ 2 + 1)
      ∧ ((workOf (withWork rig 3 .locking { work 10 4 with window := 1 }) 3).window ≤ 1
        ∧ (stressAt rig 3).mode = .locking ∧ 1 < (workOf rig 3).window)
      ∧ (stressAt (withWork rig 2 .stalled (work 9 1)) 2).mode = .stalled
      ∧ (stressAt (withWork rig 2 .frozen (work 9 1)) 2).mode = .frozen := by decide +kernel

theorem test_TicksOfRuns_met :
    (let s := placing' .winching 49 0;
      s.placement.mode = .winching ∧ placement.winchTimeout ≤ min 65535 (49 + 1)
        ∧ (s.placement.run.map (·.elapsed)) = some 49)
      ∧ min 65535 (48 + 1) < placement.winchTimeout
      ∧ (placing' .grouting 65535 65535).placement.mode = .grouting ∧ (placing' .paused 0 0).placement.mode = .paused := by
  decide +kernel

theorem test_Estop_met :
    quiet rig = true ∧ rig.station.estop = false ∧ (holdsAnchor rig 2 = true ∧ slotOf rig 2 < 96)
      ∧ (placing' .grouting 0 0).placement.mode ≠ .idle ∧ ownerOf rig 10 = some .pu
      ∧ (let s := rig.onStation fun t => { t with estop := true }; quiet s = true ∧ s.station.estop = true ∧ takesNow s) := by
  decide +kernel

/-- R196, R177: the latching leaves a halt of its own unit for each of the five owned nodes, and its record last in the log. -/
theorem test_Estop_sweeps_and_writes :
    let t := assertLine rig
    t.sched.priority.map (fun e => (e.node, e.origin)) = [(2, .sc 2), (3, .sc 3), (1, .sc 0), (10, .pu), (11, .pu)]
      ∧ t.sched.priority.map (·.command) = [.jackHold, .jackHold, .jackHold, .winchStop, .pumpStop]
      ∧ t.log.entries.getLast?.map (fun e => (e.kind, e.unit, e.slot, e.detail, e.data.take 2)) = some (10, 6, 255, 30, [0, 5]) := by
  decide +kernel

theorem test_Restart_met :
    takesNow rig ∧ (anchorAt rig 9).phase = .stressing ∧ (anchorAt rig 2).phase = .placed
      ∧ (stressAt rig 1).mode = .unbound ∧ (stressAt rig 2).mode ≠ .unbound ∧ pollAt rig 0 = some (poll 9)
      ∧ ownerOf rig 62 = none ∧ ownerOf rig 2 = some (.sc 2)
      ∧ (takesNow (measuring .sensing) ∧ (measuring .sensing).gauge.cell = some 1) ∧ rig.gauge.cell = none
      ∧ (takesNow (sendingRig false) ∧ (sendingRig false).ring.transmitter ≠ none)
      ∧ (takesNow (fullLog rig) ∧ 2048 ≤ occupancy (fullLog rig).log) := by decide +kernel

/-- The rig with part of a long body collected. -/
def collecting (n : Nat) : State :=
  rig.onStation fun t => { t with assembly := some { code := 0x28, bytes := List.replicate n 0, nextPart := 1 } }

theorem test_LongBodies_met :
    takesNow rig ∧ ownedCode 0x63 = true ∧ ownedCode 0xFF = false ∧ ownedCode 0x28 = true
      ∧ (∀ a ∈ rig.station.assembly.toList, a.code ≠ 0x28) ∧ takesNow (collecting 1)
      ∧ (List.replicate 1024 (0 : Byte) ++ [0]).length > 1024
      ∧ ((collecting 1).station.assembly.map (·.nextPart)) = some 1
      ∧ decodeRequest 0x28 (List.replicate 1 0 ++ List.replicate 10 0) = some (.configCell 0 none)
      ∧ decodeRequest 0x28 [0] = none ∧ spellsRequest 0xFF [] = false ∧ spellsRequest 0x60 [0] = false := by decide +kernel

/-! ### Single steps -/

/-- What holds of the state that a step with one command in front leaves. -/
def after (c : Instr) (s : State) (p : State → Bool) : Bool :=
  match step { s with pending := [c] } with
  | .next t => p t
  | _ => false

/-- R10, R195: 40 + 60 minutes are reached at minute 100 and not at 99. -/
theorem test_setTime_cures :
    after (.setTime 1 100) rig (fun t => (anchorAt t 7).phase == .ready) = true
      ∧ after (.setTime 1 99) rig (fun t => (anchorAt t 7).phase == .curing) = true := by decide +kernel

/-- R66, R69: 500 per mille of 10,000 is the first target; a channel takes one anchor. -/
theorem test_startStress_runs :
    after (.startStress 1 0 8) rig (fun t => (stressAt t 0).mode == .running && targetOf t 0 == 5000
      && (anchorAt t 8).phase == .stressing && t.ring.responses.length == 1) = true
      ∧ after (.startStress 1 2 8) rig (fun t => (t.ring.responses.map (·.reason)) == [some .busy]) = true := by
  decide +kernel

/-- R146, R107: a freeze stops the RUNNING channel at once and waits for the LOCKING one. -/
theorem test_freeze_stops_units :
    after (.freeze 1) rig (fun t => (stressAt t 2).mode == .frozen && (stressAt t 3).mode == .locking
      && (workOf t 3).deferredFreeze && t.trip.frozen) = true := by decide +kernel

/-- R196: the line latches ESTOP and both tests halt, LOCKING or not. -/
theorem test_estop_halts :
    after .estopAsserted rig (fun t => t.station.estop && (stressAt t 2).mode == .idle && (stressAt t 3).mode == .idle
      && (anchorAt t 9).haltCause == some .estop && (anchorAt t 10).haltCause == some .estop) = true := by decide +kernel

/-- R157, R190: a request in a frame is taken, answered under the tag of its frame and forwarded TAKEN. -/
theorem test_request_frame_is_taken :
    after (.frameArrival 1 (asking 0)) rig (fun t => (t.ring.responses.map fun r => (r.tag, r.code)) == [(77, 0x60)]
      && (t.ring.store.map fun b => byteAt b 3) == [5]) = true
      ∧ after (.frameArrival 1 (asking 1)) rig (fun t => t.ring.responses == []
        && (t.ring.store.map fun b => byteAt b 3) == [5]) = true := by decide +kernel

/-- R159, R32: a POLL that returns TAKEN delivers the first of its slots, through table T0, and no other. -/
theorem test_poll_return_delivers :
    after (.frameArrival 1 (pollReturn 1 2)) rig (fun t => valueOf t 0 == 5500 && t.ring.inFlight.length == 2
      && valueOf t 1 == 150) = true := by decide +kernel

/-- R161, R162: the third loss in a row breaks the ring and halts the runs. -/
theorem test_third_loss_breaks :
    after (.entryExpiry 2) (losing 2 rig.ring.inFlight) (fun t => t.ring.state == .broken && t.ring.probeDue
      && (stressAt t 2).mode == .idle && (anchorAt t 9).haltCause == some .ring) = true := by decide +kernel

/-- R38, R83: a force channel past its stale limit halts the test that reads it. -/
theorem test_stale_halts :
    after (.channelStale 0) (ticking 28) (fun t => !(channelAt t 0).fresh
      && (anchorAt t 9).haltCause == some .sensorStale) = true
      ∧ after (.channelStale 0) (ticking 27) (fun t => (channelAt t 0).fresh) = true := by decide +kernel

/-- R100, R105: a lock window that runs out in the seating stage halts with SEAT_INCOMPLETE. -/
theorem test_lock_window_runs_out :
    after (.lockWindowRunOut 3) (runOut .seating) (fun t => (anchorAt t 10).haltCause == some .seatIncomplete) = true
      ∧ after (.lockWindowRunOut 3) (runOut .releasing) (fun t => (anchorAt t 10).haltCause == some .releaseTimeout)
        = true := by decide +kernel

/-- No row of the table gives bits (log 18). -/
theorem test_rows_spell_no_words :
    decodeTableWord 16 5 = none ∧ State.reset.withFetchWord 16 5 = State.reset := by decide +kernel

end Sys2Proof.Tests
end

section
/-! SUPPORT. Who holds which anchor and which lock windows run: the part of the state that the invariants of R6, R18 and
R102 read, and the changes that the units make to it. Each act of the part is a chain of these changes; the invariants are
then proved change by change. -/

namespace Sys2Proof.Machine

open Sys2Proof

/-! ### The view -/

/-- What a stressing channel holds: its state, the slot it is bound to, and its lock window. -/
structure Holder where
  mode : StressMode
  slot : Option Nat
  window : Nat
  deriving Inhabited

/-- The holder that a stressing channel is. -/
def holderOf (c : Stress) : Holder := { mode := c.mode, slot := c.work.slot, window := c.work.window }

/-- The classes, the phases of the anchors, the holders, the placement run in progress with its phase and slot, and whether
a tick advance is being carried out. -/
structure View where
  classes : Vector (Option ClassDef) 8
  phases : Vector Phase 96
  holders : Vector Holder 4
  unit : Option (RunPhase × Option Nat)
  tickOpen : Bool

/-- The placement run in progress, with its phase and slot. -/
def unitOf (s : State) : Option (RunPhase × Option Nat) :=
  if placementBusy s then some (runPhase s, s.placement.run.map (·.slot)) else none

/-- The view of a state. -/
def view (s : State) : View where
  classes := s.anchorTable.classes
  phases := s.anchorTable.slots.map (·.phase)
  holders := s.stress.map holderOf
  unit := unitOf s
  tickOpen := s.tickOpen

namespace View

/-- The phase of the anchor of a slot. -/
def phaseAt (v : View) (i : Nat) : Phase := look v.phases i

/-- The holder with number `n`. -/
def holder (v : View) (n : Nat) : Holder := look v.holders n

/-- The view with the phase of an anchor set. -/
def setPhase (v : View) (i : Nat) (p : Phase) : View := { v with phases := put v.phases i p }

/-- The view with a holder set. -/
def setHolder (v : View) (n : Nat) (h : Holder) : View := { v with holders := put v.holders n h }

end View

/-- 04, section 4.1: the states that hold an anchor. -/
def StressMode.holds : StressMode → Bool
  | .running => true
  | .stalled => true
  | .frozen => true
  | .locking => true
  | .idle => false
  | .unbound => false

/-- R6: the phases of an anchor that a unit holds. -/
def Phase.held : Phase → Bool
  | .winching => true
  | .grouting => true
  | .stressing => true
  | _ => false

/-- R101, R103: a lock window that some loaded class gives. -/
def View.loaded (v : View) (w : Nat) : Prop :=
  ∃ k p, .lockoff p ∈ ((look v.classes k).getD default).procedure ∧ (w = p.seatWindow ∨ w = p.releaseWindow)

/-- The changes of the view. `ticking` allows the count of a tick advance (R102). -/
inductive Change (ticking : Bool) : View → View → Prop
  /-- A channel goes on holding its anchor, outside a lock window. -/
  | turn {v : View} (n : Nat) (h : Holder) (old : (v.holder n).mode.holds = true) (new : h.mode.holds = true)
      (out : h.mode ≠ .locking) (same : h.slot = (v.holder n).slot)
      (window : h.window = 0 ∨ (h.window = (v.holder n).window ∧ (v.holder n).mode ≠ .locking)) :
      Change ticking v (v.setHolder n h)
  /-- A channel that holds an anchor starts a lock window of its class. -/
  | lock {v : View} (n : Nat) (h : Holder) (old : (v.holder n).mode.holds = true) (new : h.mode = .locking)
      (same : h.slot = (v.holder n).slot) (window : v.loaded h.window) : Change ticking v (v.setHolder n h)
  /-- A tick advance counts a lock window down. -/
  | count {v : View} (n : Nat) (tick : ticking = true) (old : (v.holder n).mode = .locking) :
      Change ticking v (v.setHolder n { v.holder n with window := (v.holder n).window - 1 })
  /-- A channel leaves its anchor. -/
  | leave {v : View} (n : Nat) (p : Phase) (old : (v.holder n).mode.holds = true) (new : p.held = false) :
      Change ticking v
        ((v.setPhase ((v.holder n).slot.getD 0) p).setHolder n { mode := .idle, slot := none, window := 0 })
  /-- A channel takes an anchor. -/
  | enter {v : View} (n slot : Nat) (number : n < 4) (old : (v.holder n).mode = .idle) (ready : v.phaseAt slot = .ready) :
      Change ticking v
        ((v.setPhase slot .stressing).setHolder n { mode := .running, slot := some slot, window := 0 })
  /-- A placement run begins. -/
  | start {v : View} (p : RunPhase) (slot : Nat) (number : slot < 96) (old : v.unit = none)
      (free : (v.phaseAt slot).held = false) :
      Change ticking v { v.setPhase slot (phaseAnchor p) with unit := some (p, some slot) }
  /-- A placement run is followed by another on the same anchor. -/
  | follow {v : View} (p q : RunPhase) (slot : Option Nat) (old : v.unit = some (p, slot)) :
      Change ticking v
        { v.setPhase (slot.getD 0) (phaseAnchor q) with unit := some (q, some (slot.getD 0)) }
  /-- A placement run without run items, which no run of the part has, is read as one of the other phase. -/
  | reread {v : View} (p q : RunPhase) (old : v.unit = some (p, none)) :
      Change ticking v { v with unit := some (q, none) }
  /-- A placement run ends. -/
  | finish {v : View} (p : RunPhase) (slot : Option Nat) (new : Phase) (old : v.unit = some (p, slot))
      (free : new.held = false) : Change ticking v { v.setPhase (slot.getD 0) new with unit := none }
  /-- The records of anchors that no unit holds change. -/
  | records {v w : View} (phases : ∀ i, i < 96 → w.phaseAt i = v.phaseAt i
      ∨ ((v.phaseAt i).held = false ∧ (w.phaseAt i).held = false)) (others : w = { v with phases := w.phases }) :
      Change ticking v w
  /-- A channel without an anchor is bound or unbound. -/
  | bind {v : View} (n : Nat) (h : Holder) (old : (v.holder n).mode.holds = false) (new : h.mode.holds = false)
      (window : h.window = (v.holder n).window) : Change ticking v (v.setHolder n h)
  /-- A class is loaded. -/
  | load {v : View} (k : Nat) (c : ClassDef) (range : c.procedure.all windowsInRange = true) :
      Change ticking v { v with classes := put v.classes k (some c) }
  /-- Every unit is without an anchor. -/
  | rest {v w : View} (classes : w.classes = v.classes) (phases : ∀ i, i < 96 → (w.phaseAt i).held = false)
      (holders : ∀ n, n < 4 → (w.holder n).mode.holds = false)
      (windows : ∀ n, n < 4 → (w.holder n).window = 0 ∨ w.holder n = v.holder n) (unit : w.unit = none)
      (tickOpen : w.tickOpen = v.tickOpen) : Change ticking v w

/-- A chain of changes from the view of one state to the view of another. -/
def Changes (ticking : Bool) (s t : State) : Prop := Relation.ReflTransGen (Change ticking) (view s) (view t)

/-! ### The invariants over the view -/

/-- R6 over the view (`anchorsHeldOnce`). -/
structure View.heldOnce (v : View) : Prop where
  stressing : ∀ i, i < 96 → (v.phaseAt i = .stressing ↔
    ∃ n, n < 4 ∧ (v.holder n).mode.holds = true ∧ (v.holder n).slot = some i)
  placing : ∀ i p, i < 96 → (v.phaseAt i = phaseAnchor p ↔ v.unit = some (p, some i))
  once : ∀ n m i, n < 4 → m < 4 → (v.holder n).mode.holds = true → (v.holder n).slot = some i →
    (v.holder m).mode.holds = true → (v.holder m).slot = some i → n = m
  holder : ∀ n, n < 4 → (v.holder n).mode.holds = true → ∃ i, i < 96 ∧ (v.holder n).slot = some i
  unit : ∀ p o, v.unit = some (p, o) → ∃ i, i < 96 ∧ o = some i

/-- R18, R102 over the view (`lockBounded`); `ticking` excepts the tick advance that has lowered a window to zero. -/
structure View.bounded (ticking : Bool) (v : View) : Prop where
  classes : ∀ k, k < 8 → ((look v.classes k).getD default).procedure.all windowsInRange = true
  limit : ∀ n, n < 4 → (v.holder n).window ≤ 64
  locked : ∀ n, n < 4 → 0 < (v.holder n).window → (v.holder n).mode = .locking
  runs : ∀ n, n < 4 → (v.holder n).mode = .locking → 0 < (v.holder n).window ∨ ticking = true

section
variable (v : View)

theorem View.phaseAt_setPhase (i j : Nat) (p : Phase) :
    (v.setPhase i p).phaseAt j = if i = j ∧ i < 96 then p else v.phaseAt j := look_put _ _ _ _

theorem View.holder_setHolder (i j : Nat) (h : Holder) :
    (v.setHolder i h).holder j = if i = j ∧ i < 4 then h else v.holder j := look_put _ _ _ _

@[simp] theorem View.holder_setPhase (i j : Nat) (p : Phase) : (v.setPhase i p).holder j = v.holder j := rfl
@[simp] theorem View.phaseAt_setHolder (i j : Nat) (h : Holder) : (v.setHolder i h).phaseAt j = v.phaseAt j := rfl
@[simp] theorem View.unit_setPhase (i : Nat) (p : Phase) : (v.setPhase i p).unit = v.unit := rfl
@[simp] theorem View.unit_setHolder (i : Nat) (h : Holder) : (v.setHolder i h).unit = v.unit := rfl
@[simp] theorem View.classes_setPhase (i : Nat) (p : Phase) : (v.setPhase i p).classes = v.classes := rfl
@[simp] theorem View.classes_setHolder (i : Nat) (h : Holder) : (v.setHolder i h).classes = v.classes := rfl
@[simp] theorem View.phaseAt_withUnit (u) (i : Nat) : ({ v with unit := u } : View).phaseAt i = v.phaseAt i := rfl
@[simp] theorem View.holder_withUnit (u) (i : Nat) : ({ v with unit := u } : View).holder i = v.holder i := rfl

end

/-- A number that no channel has is held by none. -/
theorem View.number_of_holds {v : View} {n : Nat} (h : (v.holder n).mode.holds = true) : n < 4 := by
  by_contra hn
  rw [View.holder, look_of_le _ _ (by omega)] at h
  exact absurd h (by decide)

theorem Phase.stressing_held {p : Phase} (h : p.held = false) : p ≠ .stressing := by rintro rfl; cases h

theorem Phase.phaseAnchor_held {p : Phase} (q : RunPhase) (h : p.held = false) : p ≠ phaseAnchor q := by
  rintro rfl; cases q <;> cases h

theorem Phase.not_held {p q : Phase} (hp : p.held = false) (hq : q.held = true) : p ≠ q := by
  rintro rfl; exact absurd (hp.symm.trans hq) nofun

theorem phaseAnchor_ne_stressing (p : RunPhase) : phaseAnchor p ≠ .stressing := by cases p <;> decide

theorem phaseAnchor_inj {p q : RunPhase} : phaseAnchor p = phaseAnchor q ↔ p = q := by cases p <;> cases q <;> decide

end Sys2Proof.Machine
end

section
/-! SUPPORT. Every change of the view keeps the invariants of R6 and of R18 and R102. -/

namespace Sys2Proof.Machine

open Sys2Proof

/-! ### R6 -/

namespace View.heldOnce

variable {v w : View}

/-- A view with the same phases in use, holders and run as one that meets R6. -/
theorem congr (hv : v.heldOnce) (phases : ∀ i q, i < 96 → q.held = true → (w.phaseAt i = q ↔ v.phaseAt i = q))
    (holds : ∀ n, n < 4 → (w.holder n).mode.holds = (v.holder n).mode.holds)
    (slot : ∀ n, n < 4 → (v.holder n).mode.holds = true → (w.holder n).slot = (v.holder n).slot)
    (unit : w.unit = v.unit) : w.heldOnce where
  stressing i hi := by rw [phases i _ hi rfl, hv.stressing i hi]; grind
  placing i p hi := by rw [phases i _ hi (by cases p <;> rfl), unit, hv.placing i p hi]
  once n m i hn hm := by rw [holds n hn, holds m hm]; have := hv.once n m i hn hm; grind
  holder n hn := by rw [holds n hn]; have := hv.holder n hn; grind
  unit := by rw [unit]; exact hv.unit

/-- A channel goes on holding its anchor, or goes on without one. -/
theorem setHolder (hv : v.heldOnce) (n : Nat) (h : Holder) (holds : h.mode.holds = (v.holder n).mode.holds)
    (slot : (v.holder n).mode.holds = true → h.slot = (v.holder n).slot) : (v.setHolder n h).heldOnce := by
  refine hv.congr (fun _ _ _ _ => .rfl) (fun m _ => ?_) (fun m _ => ?_) rfl
  all_goals rw [v.holder_setHolder]; split
  · rename_i hm; rw [holds, hm.1]
  · rfl
  · rename_i hm; rw [← hm.1]; exact slot
  · exact fun _ => rfl

/-- The anchor that a channel holds is STRESSING, and no run is on it. -/
theorem phase_of_holder (hv : v.heldOnce) {n i : Nat} (hold : (v.holder n).mode.holds = true)
    (slot : (v.holder n).slot = some i) : i < 96 ∧ v.phaseAt i = .stressing := by
  have hn := number_of_holds hold
  obtain ⟨j, hj, he⟩ := hv.holder n hn hold
  obtain rfl : i = j := Option.some.inj (slot.symm.trans he)
  exact ⟨hj, (hv.stressing i hj).2 ⟨n, hn, hold, slot⟩⟩

/-- The anchor of the run in progress is in the phase of the run. -/
theorem phase_of_unit (hv : v.heldOnce) {p : RunPhase} {o : Option Nat} (h : v.unit = some (p, o)) :
    ∃ i, i < 96 ∧ o = some i ∧ v.phaseAt i = phaseAnchor p := by
  obtain ⟨i, hi, rfl⟩ := hv.unit p o h
  exact ⟨i, hi, rfl, (hv.placing i p hi).2 h⟩

theorem leave (hv : v.heldOnce) (n : Nat) (p : Phase) (old : (v.holder n).mode.holds = true) (new : p.held = false) :
    ((v.setPhase ((v.holder n).slot.getD 0) p).setHolder n { mode := .idle, slot := none, window := 0 }).heldOnce := by
  have hn := number_of_holds old
  obtain ⟨i, hi, hs⟩ := hv.holder n hn old
  have hp := (hv.phase_of_holder old hs).2
  have h1 := Phase.stressing_held new
  rw [hs, Option.getD_some]
  constructor
  case stressing =>
    intro j hj
    have := hv.stressing j hj
    have := fun m hm => hv.once n m j hn hm
    simp only [phaseAt_setHolder, phaseAt_setPhase, holder_setHolder, holder_setPhase]
    grind [StressMode.holds]
  case placing =>
    intro j q hj
    have := hv.placing j q hj
    have := phaseAnchor_ne_stressing q
    have := Phase.phaseAnchor_held q new
    simp only [phaseAt_setHolder, phaseAt_setPhase, unit_setHolder, unit_setPhase]
    grind
  case once =>
    intro m k j hm hk
    have := hv.once m k j hm hk
    simp only [holder_setHolder, holder_setPhase]
    grind [StressMode.holds]
  case holder =>
    intro m hm
    have := hv.holder m hm
    simp only [holder_setHolder, holder_setPhase]
    grind [StressMode.holds]
  case unit => exact hv.unit

theorem enter (hv : v.heldOnce) (n slot : Nat) (number : n < 4) (old : (v.holder n).mode = .idle)
    (ready : v.phaseAt slot = .ready) :
    ((v.setPhase slot .stressing).setHolder n { mode := .running, slot := some slot, window := 0 }).heldOnce := by
  have hs : slot < 96 := by
    by_contra h
    rw [phaseAt, look_of_le _ _ (by omega)] at ready
    cases ready
  have hfree : ∀ m, (v.holder m).mode.holds = true → (v.holder m).slot ≠ some slot := by
    intro m hm he
    exact absurd (ready.symm.trans (hv.phase_of_holder hm he).2) (by decide)
  constructor
  case stressing =>
    intro j hj
    have := hv.stressing j hj
    simp only [phaseAt_setHolder, phaseAt_setPhase, holder_setHolder, holder_setPhase]
    grind [StressMode.holds]
  case placing =>
    intro j q hj
    have := hv.placing j q hj
    have := phaseAnchor_ne_stressing q
    have : Phase.ready ≠ phaseAnchor q := by cases q <;> decide
    simp only [phaseAt_setHolder, phaseAt_setPhase, unit_setHolder, unit_setPhase]
    grind
  case once =>
    intro m k j hm hk
    have := hv.once m k j hm hk
    simp only [holder_setHolder, holder_setPhase]
    grind [StressMode.holds]
  case holder =>
    intro m hm
    have := hv.holder m hm
    simp only [holder_setHolder, holder_setPhase]
    grind [StressMode.holds]
  case unit => exact hv.unit

/-- The phase of an anchor that no channel holds changes, with the run that is on it. -/
theorem setUnit (hv : v.heldOnce) (i : Nat) (p : Phase) (u : Option (RunPhase × Option Nat)) (number : i < 96)
    (old : v.phaseAt i ≠ .stressing) (new : p ≠ .stressing)
    (here : ∀ q, p = phaseAnchor q ↔ u = some (q, some i))
    (before : ∀ q j, v.unit = some (q, some j) → j ≠ i → u = some (q, some j))
    (after : ∀ q o, u = some (q, o) → o = some i ∨ v.unit = some (q, o)) :
    ({ v.setPhase i p with unit := u } : View).heldOnce := by
  constructor
  case stressing =>
    intro j hj
    have := hv.stressing j hj
    simp only [phaseAt_withUnit, phaseAt_setPhase, holder_withUnit, holder_setPhase]
    grind
  case placing =>
    intro j q hj
    have := hv.placing j q hj
    simp only [phaseAt_withUnit, phaseAt_setPhase]
    by_cases hij : i = j
    · subst hij; simp [number, here]
    · simp only [hij, false_and, if_false, this]
      exact ⟨fun h => before q j h (Ne.symm hij), fun h => by grind⟩
  case once => exact hv.once
  case holder => exact hv.holder
  case unit =>
    intro q o h
    obtain rfl | hu := after q o h
    · exact ⟨i, number, rfl⟩
    · exact hv.unit q o hu

end View.heldOnce

/-- Every change keeps R6. -/
theorem Change.heldOnce {b : Bool} {v w : View} (h : Change b v w) (hv : v.heldOnce) : w.heldOnce := by
  cases h with
  | turn n h old new out same window => exact hv.setHolder n h (new.trans old.symm) fun _ => same
  | lock n h old new same window => exact hv.setHolder n h (by rw [new, old]; rfl) fun _ => same
  | count n tick old => exact hv.setHolder n _ rfl fun _ => rfl
  | leave n p old new => exact hv.leave n p old new
  | enter n slot number old ready => exact hv.enter n slot number old ready
  | start p slot number old free =>
    refine hv.setUnit slot _ _ number (Phase.stressing_held free) (phaseAnchor_ne_stressing p) (fun q => ?_) ?_ ?_
    · simp [phaseAnchor_inj]
    · simp [old]
    · simp only [Option.some.injEq, Prod.mk.injEq]; rintro q o ⟨-, rfl⟩; exact .inl rfl
  | follow p q slot old =>
    obtain ⟨i, hi, rfl, hp⟩ := hv.phase_of_unit old
    refine hv.setUnit i _ _ hi (hp ▸ phaseAnchor_ne_stressing p) (phaseAnchor_ne_stressing q) (fun q => ?_) ?_ ?_
    · simp [phaseAnchor_inj]
    · simp only [old, Option.some.injEq, Prod.mk.injEq]; rintro r j ⟨-, rfl⟩ hj; exact absurd rfl hj
    · simp only [Option.getD_some, Option.some.injEq, Prod.mk.injEq]; rintro q o ⟨-, rfl⟩; exact .inl rfl
  | reread p q old => obtain ⟨i, -, he⟩ := hv.unit p none old; cases he
  | finish p slot new old free =>
    obtain ⟨i, hi, rfl, hp⟩ := hv.phase_of_unit old
    refine hv.setUnit i _ _ hi (hp ▸ phaseAnchor_ne_stressing p) (Phase.stressing_held free) (fun q => ?_) ?_ nofun
    · simp [Phase.phaseAnchor_held q free]
    · simp only [old, Option.some.injEq, Prod.mk.injEq]; rintro r j ⟨-, rfl⟩ hj; exact absurd rfl hj
  | records phases others =>
    refine hv.congr (fun i q hi hq => ?_) (fun _ _ => by rw [others]; rfl) (fun _ _ _ => by rw [others]; rfl)
      (by rw [others])
    obtain h | ⟨hv, hw⟩ := phases i hi
    · rw [h]
    · exact iff_of_false (Phase.not_held hw hq) (Phase.not_held hv hq)
  | bind n h old new window => exact hv.setHolder n h (new.trans old.symm) fun hh => absurd (old.symm.trans hh) nofun
  | load k c range => exact hv.congr (fun _ _ _ _ => .rfl) (fun _ _ => rfl) (fun _ _ _ => rfl) rfl
  | rest classes phases holders windows unit tickOpen =>
    constructor
    case stressing =>
      intro i hi
      refine iff_of_false (Phase.stressing_held (phases i hi)) ?_
      rintro ⟨n, hn, hh, -⟩; exact absurd ((holders n hn).symm.trans hh) nofun
    case placing =>
      intro i p hi
      exact iff_of_false (Phase.phaseAnchor_held p (phases i hi)) (by simp [unit])
    case once => intro n m i hn _ hh; exact absurd ((holders n hn).symm.trans hh) nofun
    case holder => intro n hn hh; exact absurd ((holders n hn).symm.trans hh) nofun
    case unit => simp [unit]

/-! ### R18 and R102 -/

/-- The windows that the classes give lie in 1 … 64; a class beyond the eight has no step. -/
theorem View.bounded.window {b : Bool} {v : View} (hv : v.bounded b) {w : Nat} (h : v.loaded w) : 0 < w ∧ w ≤ 64 := by
  obtain ⟨k, p, hp, hw⟩ := h
  by_cases hk : k < 8
  · have := List.all_eq_true.1 (hv.classes k hk) _ hp
    simp only [windowsInRange, within, Bool.and_eq_true, decide_eq_true_eq] at this
    omega
  · rw [look_of_le _ _ (by omega)] at hp
    cases hp

/-- A holder set to one that meets R102. -/
theorem View.bounded.setHolder {b : Bool} {v : View} (hv : v.bounded b) (n : Nat) (h : Holder) (limit : h.window ≤ 64)
    (locked : 0 < h.window → h.mode = .locking) (runs : h.mode = .locking → 0 < h.window ∨ b = true) :
    (v.setHolder n h).bounded b := by
  constructor
  case classes => exact hv.classes
  all_goals intro m hm; rw [v.holder_setHolder]; split
  · exact limit
  · exact hv.limit m hm
  · exact locked
  · exact hv.locked m hm
  · exact runs
  · exact hv.runs m hm

theorem View.bounded.setPhase {b : Bool} {v : View} (hv : v.bounded b) (i : Nat) (p : Phase) : (v.setPhase i p).bounded b :=
  ⟨hv.classes, hv.limit, hv.locked, hv.runs⟩

/-- Every change keeps the bounds of the lock windows. -/
theorem Change.bounded {b : Bool} {v w : View} (h : Change b v w) (hv : v.bounded b) : w.bounded b := by
  cases h with
  | turn n h old new out same window =>
    have hn := View.number_of_holds old
    have h0 : h.window = 0 := by
      obtain h0 | ⟨he, hm⟩ := window
      · exact h0
      · have := mt (hv.locked n hn) hm; omega
    exact hv.setHolder n h (by omega) (by omega) fun hl => absurd hl out
  | lock n h old new same window =>
    have := hv.window window
    exact hv.setHolder n h this.2 (fun _ => new) fun _ => .inl this.1
  | count n tick old =>
    have hn := View.number_of_holds (v := v) (n := n) (by rw [old]; rfl)
    exact hv.setHolder n _ ((Nat.sub_le _ _).trans (hv.limit n hn)) (fun _ => old) fun _ => .inr tick
  | leave n p old new => exact (hv.setPhase _ p).setHolder n _ (Nat.zero_le _) (fun h => absurd h (Nat.lt_irrefl 0)) nofun
  | enter n slot number old ready =>
    exact (hv.setPhase slot _).setHolder n _ (Nat.zero_le _) (fun h => absurd h (Nat.lt_irrefl 0)) nofun
  | start p slot number old free => exact ⟨hv.classes, hv.limit, hv.locked, hv.runs⟩
  | follow p q slot old => exact ⟨hv.classes, hv.limit, hv.locked, hv.runs⟩
  | reread p q old => exact ⟨hv.classes, hv.limit, hv.locked, hv.runs⟩
  | finish p slot new old free => exact ⟨hv.classes, hv.limit, hv.locked, hv.runs⟩
  | records phases others => rw [others]; exact ⟨hv.classes, hv.limit, hv.locked, hv.runs⟩
  | bind n h old new window =>
    by_cases hn : n < 4
    · have hm : (v.holder n).mode ≠ .locking := fun hl => by rw [hl] at old; cases old
      have := mt (hv.locked n hn) hm
      exact hv.setHolder n h (by omega) (by omega) fun hl => by rw [hl] at new; cases new
    · have : v.setHolder n h = v := by simp [View.setHolder, put_of_le _ _ _ (Nat.le_of_not_lt hn)]
      rwa [this]
  | load k c range =>
    refine ⟨fun j hj => ?_, hv.limit, hv.locked, hv.runs⟩
    rw [look_put]; split
    · exact range
    · exact hv.classes j hj
  | rest classes phases holders windows unit tickOpen =>
    refine ⟨fun k hk => by rw [classes]; exact hv.classes k hk, fun n hn => ?_, fun n hn => ?_, fun n hn hl => ?_⟩
    · obtain h | h := windows n hn
      · omega
      · rw [h]; exact hv.limit n hn
    · obtain h | h := windows n hn
      · omega
      · rw [h]; exact hv.locked n hn
    · have := holders n hn; rw [hl] at this; cases this

/-- A change outside a tick advance is one that a tick advance can make. -/
theorem Change.ticking {b : Bool} {v w : View} (h : Change false v w) : Change b v w := by
  cases h with
  | turn n h old new out same window => exact .turn n h old new out same window
  | lock n h old new same window => exact .lock n h old new same window
  | count n tick old => cases tick
  | leave n p old new => exact .leave n p old new
  | enter n slot number old ready => exact .enter n slot number old ready
  | start p slot number old free => exact .start p slot number old free
  | follow p q slot old => exact .follow p q slot old
  | reread p q old => exact .reread p q old
  | finish p slot new old free => exact .finish p slot new old free
  | records phases others => exact .records phases others
  | bind n h old new window => exact .bind n h old new window
  | load k c range => exact .load k c range
  | rest classes phases holders windows unit tickOpen => exact .rest classes phases holders windows unit tickOpen

theorem View.heldOnce.withTick {v : View} (h : v.heldOnce) (open' : Bool) : ({ v with tickOpen := open' } : View).heldOnce :=
  ⟨h.stressing, h.placing, h.once, h.holder, h.unit⟩

theorem View.bounded.withTick {b : Bool} {v : View} (h : v.bounded b) (open' : Bool) :
    ({ v with tickOpen := open' } : View).bounded b := ⟨h.classes, h.limit, h.locked, h.runs⟩

/-- A tick advance may lower a window to zero. -/
theorem View.bounded.mono {b : Bool} {v : View} (h : v.bounded b) : v.bounded true :=
  ⟨h.classes, h.limit, h.locked, fun _ _ _ => .inr rfl⟩

/-! ### Chains of changes -/

theorem Change.tickOpen {b : Bool} {v w : View} (h : Change b v w) : w.tickOpen = v.tickOpen := by
  cases h with
  | rest classes phases holders windows unit tickOpen => exact tickOpen
  | records phases others => rw [others]
  | _ => rfl

theorem View.tickOpen_along {b : Bool} {v w : View} (h : Relation.ReflTransGen (Change b) v w) :
    w.tickOpen = v.tickOpen := by
  induction h with
  | refl => rfl
  | tail _ hc ih => exact hc.tickOpen.trans ih

theorem View.heldOnce.along {b : Bool} {v w : View} (h : Relation.ReflTransGen (Change b) v w) (hv : v.heldOnce) :
    w.heldOnce := by
  induction h with
  | refl => exact hv
  | tail _ hc ih => exact hc.heldOnce ih

theorem View.bounded.along {b : Bool} {v w : View} (h : Relation.ReflTransGen (Change b) v w) (hv : v.bounded b) :
    w.bounded b := by
  induction h with
  | refl => exact hv
  | tail _ hc ih => exact hc.bounded ih

end Sys2Proof.Machine
end

section
/-! SUPPORT. What the shared operations and the acts of a stressing channel do to the view: most of them nothing, the others
a chain of changes. -/

namespace Sys2Proof.Machine

open Sys2Proof Sys2Proof.Config

/-! ### Chains -/

namespace Changes

variable {b : Bool} {s t u : State}

theorem of_view (h : view t = view s) : Changes b s t := by rw [Changes, h]

theorem refl (s : State) : Changes b s s := of_view rfl

theorem trans (h : Changes b s t) (k : Changes b t u) : Changes b s u := Relation.ReflTransGen.trans h k

/-- The later part of a chain, followed by the earlier one. -/
theorem after (k : Changes b t u) (h : Changes b s t) : Changes b s u := h.trans k

theorem single (h : Change b (view s) (view t)) : Changes b s t := Relation.ReflTransGen.single h

/-- A fold of acts that each make a chain makes a chain. -/
theorem foldl {α : Type} (f : State → α → State) (hf : ∀ s a, Changes b s (f s a)) :
    ∀ (l : List α) (s : State), Changes b s (l.foldl f s)
  | [], s => refl s
  | a :: l, s => (hf s a).trans (foldl f hf l (f s a))

end Changes

/-! ### The view after an update -/

section
variable (s : State)

theorem map_put {α β : Type} {n : Nat} (g : α → β) (v : Vector α n) (i : Nat) (a : α) :
    (put v i a).map g = put (v.map g) i (g a) := by
  apply Vector.ext
  intro j hj
  simp only [put, Vector.getElem_map, Vector.getElem_setIfInBounds]
  split <;> rfl

@[simp] theorem holder_view (n : Nat) : (view s).holder n = holderOf (stressAt s n) := by
  by_cases hn : n < 4
  · exact look_map _ _ n hn
  · rw [View.holder, stressAt, look_of_le _ _ (by omega), look_of_le _ _ (by omega)]; rfl

@[simp] theorem phaseAt_view (i : Nat) : (view s).phaseAt i = (anchorAt s i).phase := by
  by_cases hi : i < 96
  · exact look_map _ _ i hi
  · rw [View.phaseAt, anchorAt, look_of_le _ _ (by omega), look_of_le _ _ (by omega)]; rfl

theorem holdsAnchor_eq (n : Nat) : holdsAnchor s n = ((view s).holder n).mode.holds := by
  rw [holder_view]; rfl

theorem number_of_holdsAnchor {n : Nat} (h : holdsAnchor s n = true) : n < 4 :=
  View.number_of_holds (v := view s) (by rwa [← holdsAnchor_eq])

theorem holdsAnchor_of_mode {n : Nat} {m : StressMode} (h : (stressAt s n).mode = m) (hm : m.holds = true) :
    holdsAnchor s n = true := by
  rw [holdsAnchor_eq, holder_view, holderOf, h, hm]

theorem view_onStress (n : Nat) (f : Stress → Stress) :
    view (s.onStress n f) = (view s).setHolder n (holderOf (f (stressAt s n))) := by
  rw [View.setHolder, view, view, State.onStress_stress, map_put]; rfl

theorem view_onAnchor (i : Nat) (f : Anchor → Anchor) :
    view (s.onAnchor i f) = (view s).setPhase i (f (anchorAt s i)).phase := by
  simp only [View.setPhase, view]
  congr 1
  exact map_put (·.phase) s.anchorTable.slots i _

theorem setHolder_same (n : Nat) : (view s).setHolder n (holderOf (stressAt s n)) = view s := by
  rw [← holder_view]; simp [View.setHolder, View.holder]

theorem setPhase_same (i : Nat) : (view s).setPhase i (anchorAt s i).phase = view s := by
  rw [← phaseAt_view]; simp [View.setPhase, View.phaseAt]

theorem view_onStress_of_same (n : Nat) (f : Stress → Stress) (hf : ∀ c, holderOf (f c) = holderOf c := by intro _; rfl) :
    view (s.onStress n f) = view s := by rw [view_onStress, hf, setHolder_same]

theorem view_onWork (n : Nat) (f : Work → Work) (slot : ∀ w, (f w).slot = w.slot := by intro _; rfl)
    (window : ∀ w, (f w).window = w.window := by intro _; rfl) : view (s.onWork n f) = view s :=
  view_onStress_of_same s n _ fun c => by simp only [holderOf, slot, window]

theorem view_onAnchor_of_same (i : Nat) (f : Anchor → Anchor) (hf : ∀ a, (f a).phase = a.phase := by intro _; rfl) :
    view (s.onAnchor i f) = view s := by rw [view_onAnchor, hf, setPhase_same]

theorem view_onPlacement (f : Placement → Placement) (mode : ∀ p, (f p).mode = p.mode := by intro _; rfl)
    (run : ∀ p, (f p).run = p.run := by intro _; rfl) : view (s.onPlacement f) = view s := by
  simp [view, unitOf, placementBusy, runPhase, runOf, mode, run]

theorem view_onRun (f : Run → Run) (slot : ∀ r, (f r).slot = r.slot := by intro _; rfl)
    (phase : ∀ r, (f r).pausedFrom = r.pausedFrom := by intro _; rfl) : view (s.onRun f) = view s := by
  have hr : (runOf (s.onRun f)).pausedFrom = (runOf s).pausedFrom := by
    simp only [runOf, State.onRun, State.onPlacement_placement]
    cases s.placement.run with
    | none => rfl
    | some r => exact phase r
  simp only [view, unitOf, placementBusy, runPhase, hr]
  simp [State.onRun, Function.comp_def, slot]

@[simp] theorem view_onLog (f) : view (s.onLog f) = view s := rfl
@[simp] theorem view_onSched (f) : view (s.onSched f) = view s := rfl
@[simp] theorem view_onRing (f) : view (s.onRing f) = view s := rfl
@[simp] theorem view_onGauge (f) : view (s.onGauge f) = view s := rfl
@[simp] theorem view_onCell (c) (f) : view (s.onCell c f) = view s := rfl
@[simp] theorem view_onMeasure (f) : view (s.onMeasure f) = view s := rfl
@[simp] theorem view_onChannel (m) (f) : view (s.onChannel m f) = view s := rfl
@[simp] theorem view_onTrip (f) : view (s.onTrip f) = view s := rfl
@[simp] theorem view_onStation (f) : view (s.onStation f) = view s := rfl
@[simp] theorem view_onClassifier (x) (f) : view (s.onClassifier x f) = view s := rfl
@[simp] theorem view_startPass : view s.startPass = view s := rfl

end

/-! ### What a view tells of a state -/

section
variable {s t : State}

theorem holder_of_view (h : view t = view s) (n : Nat) : holderOf (stressAt t n) = holderOf (stressAt s n) := by
  rw [← holder_view, ← holder_view, h]

theorem mode_of_view (h : view t = view s) (n : Nat) : (stressAt t n).mode = (stressAt s n).mode :=
  congrArg Holder.mode (holder_of_view h n)

theorem slotOf_of_view (h : view t = view s) (n : Nat) : slotOf t n = slotOf s n :=
  congrArg (fun k : Holder => k.slot.getD 0) (holder_of_view h n)

theorem holdsAnchor_of_view (h : view t = view s) (n : Nat) : holdsAnchor t n = holdsAnchor s n := by
  rw [holdsAnchor_eq, holdsAnchor_eq, h]

/-- A LOCKOFF step is one of a class. -/
theorem loaded_of_step {n : Nat} {p : LockParams} (h : stepOf s n = .lockoff p) {w : Nat}
    (hw : w = p.seatWindow ∨ w = p.releaseWindow) : (view s).loaded w := by
  refine ⟨(designOf s (slotOf s n)).klass, p, ?_, hw⟩
  unfold stepOf at h
  match he : (classOf s (slotOf s n)).procedure[(workOf s n).step.getD 1 - 1]? with
  | some q =>
    rw [he, Option.getD_some] at h
    exact h ▸ List.mem_of_getElem? he
  | none => rw [he] at h; cases h

end

/-! ### Shared operations -/

section
variable (s : State)

@[simp] theorem view_writeReserve (r : LogRecord) : view (writeReserve r s) = view s := by
  unfold writeReserve; split <;> rfl

@[simp] theorem view_writeOrDrop (r : LogRecord) : view (writeOrDrop r s) = view s := by
  unfold writeOrDrop; split <;> rfl

@[simp] theorem view_present (node : Nat) (c : Command) (o : Owner) : view (present node c o s) = view s := by
  unfold present; split <;> rfl

@[simp] theorem view_recordStop (node : Nat) (c : Command) (o : Owner) : view (recordStop node c o s) = view s := by
  unfold recordStop; split
  · split
    · exact view_onPlacement s _
    · rfl
  · split
    · exact view_onPlacement s _
    · rfl
  · rfl

@[simp] theorem view_placeHalt (node : Nat) (c : Command) (o : Owner) : view (placeHalt node c o s) = view s := by
  unfold placeHalt; rw [view_recordStop, view_onSched]

@[simp] theorem view_sweepNode (node : Nat) : view (sweepNode s node) = view s := by
  unfold sweepNode; split
  · exact view_placeHalt s _ _ _
  · rfl

@[simp] theorem view_haltSweep : view (haltSweep s) = view s := by
  unfold haltSweep
  generalize nodes62 = l
  induction l generalizing s with
  | nil => rfl
  | cons a l ih => rw [List.foldl_cons, ih, view_sweepNode]

@[simp] theorem view_setOwner (node : Nat) (o : Option Owner) : view (s.setOwner node o) = view s := by
  unfold State.setOwner; split <;> rfl

@[simp] theorem view_searchCells : view (searchCells s) = view s := by rw [searchCells_frame]; rfl

@[simp] theorem view_joinRequest (c : Nat) (f : CellRequest → CellRequest) : view (joinRequest c f s) = view s := by
  unfold joinRequest; rw [view_searchCells, view_onCell]

@[simp] theorem view_withdrawRequest (c n : Nat) : view (withdrawRequest c n s) = view s := by
  unfold withdrawRequest; dsimp only; split <;> rfl

end

/-! ### A channel's jack, its halts and its freeze -/

section
variable {b : Bool} (s : State) (n : Nat)

@[simp] theorem view_wantMotion (m : Motion) : view (wantMotion n m s) = view s := by
  unfold wantMotion; split
  · rfl
  · split
    · exact (view_onWork _ n _).trans (view_present s _ _ _)
    · rfl

@[simp] theorem view_holdByPriority : view (holdByPriority n s) = view s := by
  unfold holdByPriority; exact (view_onWork _ n _).trans (view_placeHalt s _ _ _)

theorem view_leaveAnchor : view (leaveAnchor n s) = (view s).setHolder n { mode := .idle, slot := none, window := 0 } := by
  unfold leaveAnchor; rw [view_startPass, view_onStress]; rfl

variable {s n}

/-- A channel goes on holding its anchor, outside a lock window. -/
theorem changes_turn (f : Stress → Stress) (old : holdsAnchor s n = true) (new : (f (stressAt s n)).mode.holds = true)
    (out : (f (stressAt s n)).mode ≠ .locking) (same : (f (stressAt s n)).work.slot = (workOf s n).slot)
    (window : (f (stressAt s n)).work.window = 0
      ∨ ((f (stressAt s n)).work.window = (workOf s n).window ∧ (stressAt s n).mode ≠ .locking)) :
    Changes b s (s.onStress n f) := by
  refine .single ?_
  rw [view_onStress]
  rw [holdsAnchor_eq] at old
  refine .turn n _ old new out ?_ ?_ <;> rw [holder_view]
  · exact same
  · exact window

/-- A channel leaves its anchor, whose record shows how. -/
theorem changes_leave (g : Anchor → Anchor) (old : holdsAnchor s n = true) (hg : ∀ a, (g a).phase.held = false) :
    Changes b s (leaveAnchor n (s.onAnchor (slotOf s n) g)) := by
  refine .single ?_
  rw [view_leaveAnchor, view_onAnchor]
  rw [holdsAnchor_eq] at old
  have h := Change.leave (ticking := b) n (g (anchorAt s (slotOf s n))).phase old (hg _)
  rw [holder_view] at h
  exact h

theorem changes_stall (r : LogRecord) (h : (stressAt s n).mode = .running) : Changes b s (stall n r s) := by
  unfold stall
  refine (Changes.of_view (view_wantMotion _ n _)).after ?_
  exact changes_turn _ (holdsAnchor_of_mode s h rfl) rfl nofun rfl (.inr ⟨rfl, by rw [h]; nofun⟩)

theorem changes_writeOrHold (r : LogRecord) (h : (stressAt s n).mode = .running) : Changes b s (writeOrHold n r s) := by
  unfold writeOrHold; split
  · exact .of_view (view_onLog s _)
  · exact changes_stall r h

theorem changes_haltRun (cause : HaltCause) (h : holdsAnchor s n = true) : Changes b s (haltRun n cause s) := by
  unfold haltRun
  generalize hs : writeReserve _ _ = s1
  have h1 : view s1 = view s := by
    rw [← hs, view_writeReserve, view_withdrawRequest, view_placeHalt]
  rw [← slotOf_of_view h1]
  exact (changes_leave _ ((holdsAnchor_of_view h1 n).trans h) fun _ => rfl).after (.of_view h1)

theorem changes_haltStress (cause : HaltCause) : Changes b s (haltStress n cause s) := by
  unfold haltStress; split
  · exact changes_haltRun cause ‹_›
  · exact .refl s

theorem changes_haltAllStress (cause : HaltCause) : Changes b s (haltAllStress cause s) :=
  .foldl (fun s n => haltStress n cause s) (fun _ _ => changes_haltStress cause) channels4 s

theorem changes_setMode (m : StressMode) (old : holdsAnchor s n = true) (out : (stressAt s n).mode ≠ .locking)
    (new : m.holds = true) (hm : m ≠ .locking) : Changes b s (s.setMode n m) :=
  changes_turn _ old new hm rfl (.inr ⟨rfl, out⟩)

theorem changes_freezeStress : Changes b s (freezeStress s n) := by
  unfold freezeStress; split
  case h_1 h =>
    exact (Changes.of_view (view_holdByPriority _ n)).after
      (changes_setMode _ (holdsAnchor_of_mode s h rfl) (by rw [h]; nofun) rfl nofun)
  case h_2 h =>
    exact (Changes.of_view (view_holdByPriority _ n)).after
      (changes_setMode _ (holdsAnchor_of_mode s h rfl) (by rw [h]; nofun) rfl nofun)
  case h_3 => exact .of_view (view_onWork s n _)
  all_goals exact .refl s

end

end Sys2Proof.Machine
end

section
/-! SUPPORT. What the step machine of a stressing channel does to the view (04, 05): chains of changes, and a step that has
ended leaves its channel RUNNING. -/

namespace Sys2Proof.Machine

open Sys2Proof Sys2Proof.Config

/-- A judgment makes a chain of changes, and where it ends the step of channel `n`, the channel is RUNNING. -/
def Judged (b : Bool) (n : Nat) (s : State) (p : State × StepEnd) : Prop :=
  Changes b s p.1 ∧ (p.2 ≠ .goesOn → (stressAt p.1 n).mode = .running)

section
variable {b : Bool} {n : Nat} {s t : State}

theorem Judged.goesOn (h : Changes b s t) : Judged b n s (t, .goesOn) := ⟨h, fun he => absurd rfl he⟩

/-- A judgment that changes nothing of the view of a RUNNING channel. -/
theorem Judged.of_view (h : view t = view s) (e : StepEnd) (hm : (stressAt s n).mode = .running) : Judged b n s (t, e) :=
  ⟨.of_view h, fun _ => (mode_of_view h n).trans hm⟩

theorem Judged.after {p : State × StepEnd} (k : Judged b n t p) (h : Changes b s t) : Judged b n s p :=
  ⟨h.trans k.1, k.2⟩

end

section
variable {b : Bool} (s : State) (n : Nat)

theorem stressAt_onStress_same {s : State} {n : Nat} (h : n < 4) (f : Stress → Stress) :
    stressAt (s.onStress n f) n = f (stressAt s n) := by simp [stressAt_onStress, h]

/-! ### Choices and the lock window -/

@[simp] theorem view_chooseDirection (f : Int) (ok : Bool) : view (chooseDirection n f ok s) = view s := by
  unfold chooseDirection; split
  · split
    · exact view_onWork s n _
    · rfl
  · rfl

@[simp] theorem view_holdAtStart (f : Int) : view (holdAtStart n f s) = view s := by
  unfold holdAtStart; split
  · exact view_onWork s n _
  · rfl

@[simp] theorem view_setOvershoot (o : Bool) : view (setOvershoot n o s) = view s := by
  unfold setOvershoot; split
  · exact view_onWork s n _
  · rfl

variable {s n}

/-- A lock window of the step starts, the seat window or the release window (R101, R103). -/
theorem changes_lock {p : LockParams} (f : Stress → Stress) (step : stepOf s n = .lockoff p) (old : holdsAnchor s n = true)
    (new : (f (stressAt s n)).mode = .locking) (same : (f (stressAt s n)).work.slot = (workOf s n).slot)
    (window : (f (stressAt s n)).work.window = p.seatWindow ∨ (f (stressAt s n)).work.window = p.releaseWindow) :
    Changes b s (s.onStress n f) := by
  refine .single ?_
  rw [view_onStress]
  rw [holdsAnchor_eq] at old
  refine .lock n _ old new ?_ (loaded_of_step step window)
  rw [holder_view]
  exact same

theorem stepOf_present (node : Nat) (c : Command) (o : Owner) : stepOf (present node c o s) n = stepOf s n := by
  unfold present; split <;> rfl

theorem changes_openWindow {p : LockParams} (step : stepOf s n = .lockoff p) (h : holdsAnchor s n = true) :
    Changes b s (openWindow n p s) := by
  unfold openWindow; dsimp only
  generalize hs : writeOrDrop _ _ = s2
  generalize ht : s.onStress n _ = s1 at hs
  have h1 : Changes b s s1 := by rw [← ht]; exact changes_lock _ step h rfl rfl (.inl rfl)
  have h2 : view s2 = view s1 := by rw [← hs, view_writeOrDrop]
  split
  · exact (Changes.of_view h2).after h1
  · refine (changes_haltRun _ ?_).after ((Changes.of_view h2).after h1)
    refine holdsAnchor_of_mode s2 (m := .locking) ((mode_of_view h2 n).trans ?_) rfl
    rw [← ht, stressAt_onStress_same (number_of_holdsAnchor s h)]

theorem changes_presentSeat (h : holdsAnchor s n = true) : Changes b s (presentSeat n s) := by
  unfold presentSeat; split
  · split
    case h_1.isTrue p hp hw =>
      have hv := view_present s (bindingOf s n).jack .jackSeat (.sc n)
      exact (changes_openWindow ((stepOf_present _ _ _).trans hp) ((holdsAnchor_of_view hv n).trans h)).after (.of_view hv)
    case h_1.isFalse => exact .refl s
  · exact .refl s

theorem changes_choose (f : Int) (ok : Bool) (h : holdsAnchor s n = true) : Changes b s (choose n f ok s) := by
  have of (t : State) (ht : view t = view s) : Changes b s (presentSeat n t) :=
    (changes_presentSeat ((holdsAnchor_of_view ht n).trans h)).after (.of_view ht)
  unfold choose; dsimp only; split
  · exact of _ ((view_wantMotion _ n _).trans (view_chooseDirection s n f ok))
  · exact of _ (view_chooseDirection s n f ok)

theorem changes_chooseStanding (h : holdsAnchor s n = true) : Changes b s (chooseStanding n s) := by
  unfold chooseStanding; dsimp only; split
  · exact changes_choose _ _ h
  · exact .refl s

/-! ### Outcomes and the start of a step -/

theorem judged_judgeOutcome (o : OutcomeRecord) (h : (stressAt s n).mode = .running) :
    Judged b n s (judgeOutcome n o s) := by
  unfold judgeOutcome; split
  · split
    · exact .goesOn (changes_haltStress _)
    · dsimp only; split
      · exact .of_view (view_onAnchor_of_same s _ _) _ h
      · exact .goesOn ((changes_haltStress _).after (.of_view (view_onAnchor_of_same s _ _)))
  · split
    · exact .goesOn (changes_haltStress _)
    · dsimp only; split
      · exact .of_view (view_onAnchor_of_same s _ _) _ h
      · split <;> exact .of_view (view_onAnchor_of_same s _ _) _ h
  · exact .goesOn (.refl s)

theorem judged_recordOutcome (o : CellOutcome) (r : Option CellReading) : Judged b n s (recordOutcome n o r s) := by
  unfold recordOutcome; dsimp only
  generalize hs : s.onWork n _ = s1
  have h1 : view s1 = view s := by rw [← hs]; exact view_onWork s n _
  split
  case isTrue h => exact (judged_judgeOutcome _ ((mode_of_view h1 n).trans h)).after (.of_view h1)
  case isFalse => exact .goesOn (.of_view h1)

theorem judged_requestCell : Judged b n s (requestCell n s) := by
  unfold requestCell; dsimp only; split
  · exact judged_recordOutcome _ _
  · exact .goesOn (.of_view ((view_joinRequest _ _ _).trans (view_onWork s n _)))

theorem changes_giveVerdict (h : holdsAnchor s n = true) : Changes b s (giveVerdict n s) := by
  unfold giveVerdict; dsimp only
  generalize hs : writeReserve _ _ = s1
  have h1 : view s1 = view s := by
    rw [← hs, view_writeReserve]; split
    · rfl
    · rw [view_placeHalt]
  rw [← slotOf_of_view h1]
  refine (changes_leave _ ((holdsAnchor_of_view h1 n).trans h) fun a => ?_).after (.of_view h1)
  dsimp only; split <;> rfl

theorem withTarget_slot (w : Work) (p : ProcStep) : (withTarget s n w p).slot = w.slot := by cases p <;> rfl

theorem withTarget_window (w : Work) (p : ProcStep) : (withTarget s n w p).window = w.window := by cases p <;> rfl

/-- A step starts outside a lock window (R69). -/
theorem changes_enterStep (k : Nat) (h : holdsAnchor s n = true) (out : (stressAt s n).mode ≠ .locking) :
    Changes b s (enterStep n k s) := by
  unfold enterStep; dsimp only
  generalize hs : s.onWork n (stepWork k) = s1
  have h1 : Changes b s s1 := by
    rw [← hs]
    exact changes_turn _ h (by rw [holdsAnchor_eq, holder_view] at h; exact h) out rfl (.inl rfl)
  exact (Changes.of_view (view_onWork s1 n _ (fun w => withTarget_slot w _) fun w => withTarget_window w _)).after h1

theorem changes_startChoice (h : holdsAnchor s n = true) : Changes b s (startChoice n s) := by
  unfold startChoice; dsimp only; split
  · have hv := (view_holdAtStart (chooseDirection n (valueOf s (bindingOf s n).force)
      (markOf s (bindingOf s n).force == .within) s) n (valueOf s (bindingOf s n).force)).trans
      (view_chooseDirection s n _ _)
    exact (changes_choose _ _ ((holdsAnchor_of_view hv n).trans h)).after (.of_view hv)
  · exact .refl s

theorem judged_apparentStep (h : (stressAt s n).mode = .running) : Judged b n s (apparentStep n s) := by
  unfold apparentStep; dsimp only; split
  · exact .of_view (view_onAnchor_of_same s _ _) _ h
  · exact .of_view rfl _ h

theorem judged_startJudgment (h : (stressAt s n).mode = .running) : Judged b n s (startJudgment n s) := by
  have hh : holdsAnchor s n = true := holdsAnchor_of_mode s h rfl
  unfold startJudgment; split
  case h_5 => exact judged_apparentStep h
  case h_6 => exact judged_requestCell.after (.of_view (view_wantMotion s n _))
  case h_8 => exact .goesOn (changes_giveVerdict hh)
  all_goals exact .goesOn (changes_startChoice hh)

/-! ### Step ends -/

/-- A RUNNING channel that writes or holds a record is RUNNING or STALLED. -/
theorem mode_writeOrHold (r : LogRecord) (h : (stressAt s n).mode = .running) :
    (stressAt (writeOrHold n r s) n).mode = .running ∨ (stressAt (writeOrHold n r s) n).mode = .stalled := by
  have hn : n < 4 := number_of_holdsAnchor s (holdsAnchor_of_mode s h rfl)
  unfold writeOrHold; split
  · exact .inl h
  · right
    unfold stall
    rw [mode_of_view (view_wantMotion _ n _), stressAt_onStress_same hn]

theorem changes_endStep (e : StepEnd) (h : (stressAt s n).mode = .running) : Changes b s (endStep n e s) := by
  unfold endStep; dsimp only
  generalize hs : (writeOrHold n (stepRecord s n e) s).onWork n _ = s1
  have h1 : view s1 = view (writeOrHold n (stepRecord s n e) s) := by rw [← hs]; exact view_onWork _ n _
  have hm := mode_writeOrHold (stepRecord s n e) h
  rw [← mode_of_view h1] at hm
  refine (changes_enterStep _ ?_ ?_).after ((Changes.of_view h1).after (changes_writeOrHold _ h))
  · exact hm.elim (fun h => holdsAnchor_of_mode s1 h rfl) fun h => holdsAnchor_of_mode s1 h rfl
  · obtain h | h := hm <;> rw [h] <;> nofun

end

/-- The steps that end in one change (R70). -/
theorem changes_settleStep {b : Bool} (n : Nat) : ∀ (fuel : Nat) (p : State × StepEnd),
    (p.2 ≠ .goesOn → (stressAt p.1 n).mode = .running) → Changes b p.1 (settleStep fuel n p)
  | 0, (s, _), _ => .refl s
  | fuel + 1, (s, e), h => by
    unfold settleStep; dsimp only; split
    · exact .refl s
    case isFalse he =>
      refine (changes_endStep e (h he)).trans ?_
      split
      case isTrue hr =>
        have hj := judged_startJudgment (b := b) hr
        exact hj.1.trans (changes_settleStep n fuel _ hj.2)
      case isFalse => exact .of_view (view_onWork _ n _)

theorem Judged.settle {b : Bool} {n : Nat} {s : State} {p : State × StepEnd} (h : Judged b n s p) (fuel : Nat) :
    Changes b s (settleStep fuel n p) := h.1.trans (changes_settleStep n fuel p h.2)

section
variable {b : Bool} {s : State} {n : Nat}

/-! ### Samples -/

theorem judged_judgeMove (load : Bool) (f : Int) (ok : Bool) (h : (stressAt s n).mode = .running) :
    Judged b n s (judgeMove n load f ok s) := by
  unfold judgeMove; dsimp only; split
  · refine .of_view (view_onWork s n _ (fun w => ?_) fun w => ?_) _ h <;> split <;> rfl
  · have hv := view_setOvershoot s n
      (ok && if load then decide (targetOf s n + toleranceOf s n < f) else decide (f < targetOf s n - toleranceOf s n))
    exact .goesOn ((changes_choose _ _ ((holdsAnchor_of_view hv n).trans (holdsAnchor_of_mode s h rfl))).after (.of_view hv))

theorem changes_judgeApproach (p : LockParams) (f : Int) (ok : Bool) (h : holdsAnchor s n = true) :
    Changes b s (judgeApproach n p f ok s) := by
  unfold judgeApproach; split
  · exact changes_choose _ _ h
  · dsimp only
    generalize hs : (if ok = true then (chooseDirection n f ok s).onWork n fun w =>
      { w with approachPoint := some (f, valueOf s (bindingOf s n).extension) } else chooseDirection n f ok s) = s2
    have h2 : view s2 = view s := by
      rw [← hs]; split
      · exact (view_onWork _ n _).trans (view_chooseDirection s n f ok)
      · exact view_chooseDirection s n f ok
    have of (t : State) (ht : view t = view s2) : Changes b s (choose n f ok t) :=
      (changes_choose f ok ((holdsAnchor_of_view (ht.trans h2) n).trans h)).after (.of_view (ht.trans h2))
    split
    · exact of _ (view_onWork s2 n _)
    · exact of _ (view_setOvershoot s2 n _)

theorem judged_judgeForce (f : Int) (ok : Bool) (h : (stressAt s n).mode = .running) :
    Judged b n s (judgeForce n f ok s) := by
  have hh : holdsAnchor s n = true := holdsAnchor_of_mode s h rfl
  unfold judgeForce; split
  · exact judged_judgeMove _ _ _ h
  · exact judged_judgeMove _ _ _ h
  · split
    · exact .goesOn (changes_judgeApproach _ _ _ hh)
    · exact .goesOn (changes_choose _ _ hh)
  all_goals exact .goesOn (changes_choose _ _ hh)

/-- R106: the window closes, the deferred freeze and halt are applied, and the cell is requested. -/
theorem judged_closeWindow (f : Int) (h : holdsAnchor s n = true) : Judged b n s (closeWindow n f s) := by
  unfold closeWindow; dsimp only
  generalize hs : wantMotion n .hold _ = s3
  have h3 : Changes b s s3 := by
    rw [← hs]
    exact (Changes.of_view ((view_wantMotion _ n _).trans (view_writeOrDrop _ _))).after
      (changes_turn _ h rfl nofun rfl (.inl rfl))
  have h4 : Changes b s (if ((workOf s n).deferredFreeze && s.trip.frozen) = true then freezeStress s3 n else s3) := by
    split
    · exact changes_freezeStress.after h3
    · exact h3
  split
  · exact .goesOn ((changes_haltStress _).after h4)
  · exact judged_requestCell.after h4

theorem judged_judgeLocking (f : Int) (k : Mark) (h : holdsAnchor s n = true) : Judged b n s (judgeLocking n f k s) := by
  unfold judgeLocking; split
  · split
    · exact judged_closeWindow _ h
    · exact .goesOn (changes_choose _ _ h)
  · exact .goesOn (.refl s)

theorem changes_forceSample (f : Int) (k : Mark) : Changes b s (forceSample n f k s) := by
  unfold forceSample; split
  · exact .refl s
  case isFalse h =>
    have hh : holdsAnchor s n = true := by simpa using h
    split
    · exact changes_haltRun _ hh
    · split
      case h_1 hm => exact (judged_judgeForce _ _ hm).settle _
      case h_2 => exact (judged_judgeLocking _ _ hh).settle _
      all_goals exact .refl s

theorem judged_creepSample (p : CreepParams) (v : Int) (h : (stressAt s n).mode = .running) :
    Judged b n s (creepSample n p v s) := by
  have hv (f : Work → Work) (g : Anchor → Anchor) (hs : ∀ w, (f w).slot = w.slot) (hw : ∀ w, (f w).window = w.window)
      (hg : ∀ a, (g a).phase = a.phase) : view ((s.onWork n f).onAnchor (slotOf s n) g) = view s :=
    (view_onAnchor_of_same _ _ g hg).trans (view_onWork s n f hs hw)
  unfold creepSample; dsimp only
  split
  · split
    · exact .goesOn (.of_view (view_onWork s n _))
    · exact .goesOn (.refl s)
  · split
    · split <;> (refine .of_view (hv _ _ ?_ ?_ ?_) _ h <;> intro _ <;> rfl)
    · exact .goesOn (.refl s)
  · split
    · exact .goesOn (.refl s)
    · split
      · split <;> (refine .of_view (hv _ _ ?_ ?_ ?_) _ h <;> intro _ <;> rfl)
      · exact .goesOn (.refl s)

theorem settleSample_slot (p : SettleParams) (v : Int) (w : Work) : (settleSample p v w).slot = w.slot := by
  unfold settleSample; split <;> split <;> rfl

theorem settleSample_window (p : SettleParams) (v : Int) (w : Work) : (settleSample p v w).window = w.window := by
  unfold settleSample; split <;> split <;> rfl

theorem judged_judgeExtension (v : Int) (h : (stressAt s n).mode = .running) : Judged b n s (judgeExtension n v s) := by
  unfold judgeExtension; split
  · exact .goesOn (.of_view (view_onWork s n _ (settleSample_slot _ v) (settleSample_window _ v)))
  · exact judged_creepSample _ _ h
  all_goals exact .goesOn (.refl s)

theorem changes_extensionSample (v : Int) : Changes b s (extensionSample n v s) := by
  unfold extensionSample; split
  · exact .refl s
  case isFalse h =>
    split
    · exact changes_haltRun _ (by simpa using h)
    · split
      case isTrue hm => exact (judged_judgeExtension _ hm).settle _
      case isFalse => exact .refl s

theorem changes_seatSample (v : Int) (h : (stressAt s n).mode = .locking) : Changes b s (seatSample n v s) := by
  unfold seatSample; split
  case h_1 p hp =>
    split
    · dsimp only; split
      · unfold completeSeating
        exact (Changes.of_view ((view_wantMotion _ n _).trans (view_writeOrDrop _ _))).after
          (changes_lock _ hp (holdsAnchor_of_mode s h rfl) h rfl (.inr rfl))
      · exact .of_view (view_onWork s n _)
    · exact .refl s
  case h_2 => exact .refl s

theorem mode_of_isSeating (h : isSeating s n = true) : (stressAt s n).mode = .locking := by
  simp only [isSeating, Bool.and_eq_true, beq_iff_eq] at h
  exact h.1

theorem changes_stressSample (m : Nat) (v : Int) (k : Mark) : Changes b s (stressSample m n v k s) := by
  unfold stressSample; dsimp only; split
  · exact .refl s
  · generalize hs : (if (bindingOf s n).force = m then forceSample n v k s else s) = s1
    have h1 : Changes b s s1 := by
      rw [← hs]; split
      · exact changes_forceSample v k
      · exact .refl s
    generalize ht : (if (bindingOf s n).extension = m then extensionSample n v s1 else s1) = s2
    have h2 : Changes b s1 s2 := by
      rw [← ht]; split
      · exact changes_extensionSample v
      · exact .refl s1
    split
    case isTrue hw =>
      simp only [Bool.and_eq_true] at hw
      exact h1.trans (h2.trans (changes_seatSample v (mode_of_isSeating hw.2)))
    case isFalse => exact h1.trans h2

theorem changes_stressStale (m : Nat) : Changes b s (stressStale m n s) := by
  unfold stressStale; split
  case isTrue h => exact changes_haltRun _ (Bool.and_eq_true_iff.1 h).1
  case isFalse => exact .refl s

/-! ### Ticks, points, resume and the start of a test -/

/-- The counts of a tick advance: a lock window goes down by 1 (R102). -/
theorem changes_tickWork (i : Nat) : Changes true s (s.onWork n (tickWork (stressAt s n).mode i)) := by
  by_cases hm : (stressAt s n).mode = .locking
  · refine .single ?_
    have h := Change.count (v := view s) n rfl (by rw [holder_view]; exact hm)
    rw [holder_view] at h
    rw [State.onWork, view_onStress]
    simp only [holderOf, tickWork, hm, beq_self_eq_true, if_true] at h ⊢
    exact h
  · refine .of_view ?_
    rw [State.onWork, view_onStress]
    simp only [holderOf, tickWork, beq_iff_eq, hm, if_false]
    exact setHolder_same s n

theorem changes_tickStress : Changes true s (tickStress s n) := by
  unfold tickStress; split
  · exact .refl s
  case isFalse h =>
    dsimp only
    have h1 := changes_tickWork (s := s) (n := n) (pointInterval s n)
    have hh : holdsAnchor (s.onWork n (tickWork (stressAt s n).mode (pointInterval s n))) n = true := by
      have hn : holdsAnchor s n = true := by simpa using h
      rw [holdsAnchor_eq, holder_view, holderOf, State.onWork, stressAt_onStress_same (number_of_holdsAnchor s hn)]
      rwa [holdsAnchor_eq, holder_view] at hn
    split
    · split
      · exact h1
      · exact (changes_chooseStanding hh).after h1
    · split
      · exact h1
      · exact (changes_chooseStanding hh).after h1
    · exact (Changes.of_view (view_wantMotion _ n _)).after h1
    all_goals exact h1

theorem changes_countInterval (h : (stressAt s n).mode = .running) : Changes b s (countInterval n s) := by
  unfold countInterval; dsimp only; split
  · exact (Judged.of_view (view_onWork s n _) _ h).settle _
  · exact .of_view (view_onWork s n _)

theorem changes_completeUnsettled (h : (stressAt s n).mode = .running) : Changes b s (completeUnsettled n s) :=
  (Judged.of_view (n := n) rfl _ h).settle _

theorem changes_stressPoint : Changes b s (stressPoint n s) := by
  unfold stressPoint; split
  · exact .of_view (view_onWork _ n _)
  · split
    case isTrue hm => exact changes_stall _ hm
    case isFalse => exact .of_view (view_onWork s n _)

theorem changes_resume (h : (stressAt s n).mode = .running) : Changes b s (resume n s) := by
  unfold resume; split
  · exact (judged_judgeOutcome _ h).settle _
  · split
    · exact changes_haltStress _
    · split
      · exact changes_completeUnsettled h
      · split
        · have hv : view (s.onWork n fun w => { w with startOwing := false }) = view s := view_onWork s n _
          exact ((judged_startJudgment ((mode_of_view hv n).trans h)).settle _).after (.of_view hv)
        · exact changes_chooseStanding (holdsAnchor_of_mode s h rfl)

/-- A held channel that enters RUNNING resumes (R88). -/
theorem changes_running (old : holdsAnchor s n = true) (out : (stressAt s n).mode ≠ .locking) :
    Changes b s (resume n (s.setMode n .running)) := by
  refine (changes_resume ?_).after (changes_setMode _ old out rfl nofun)
  rw [State.setMode, stressAt_onStress_same (number_of_holdsAnchor s old)]

theorem changes_thawStress : Changes b s (thawStress s n) := by
  unfold thawStress; split
  case isTrue hm =>
    have hh : holdsAnchor s n = true := holdsAnchor_of_mode s hm rfl
    have out : (stressAt s n).mode ≠ .locking := by rw [hm]; nofun
    split
    · exact (Changes.of_view (view_wantMotion _ n _)).after (changes_setMode _ hh out rfl nofun)
    · exact changes_running hh out
  case isFalse => exact .refl s

theorem changes_heldWritten (r : LogRecord) : Changes b s (heldWritten n r s) := by
  unfold heldWritten; dsimp only
  generalize hs : (s.onLog (appendRecord r)).onWork n _ = s1
  have h1 : view s1 = view s := by rw [← hs]; exact view_onWork _ n _
  split
  case isTrue hm =>
    have hm1 := (mode_of_view h1 n).trans hm
    exact (changes_running (holdsAnchor_of_mode s1 hm1 rfl) (by rw [hm1]; nofun)).after (.of_view h1)
  case isFalse => exact .of_view h1

theorem changes_cellOutcome (o : CellOutcome) (r : Option CellReading) : Changes b s (cellOutcome o r s n) := by
  unfold cellOutcome; split
  · exact (judged_recordOutcome o r).settle _
  · exact .refl s

/-- R11, R66: an IDLE channel takes a READY anchor and starts its test. -/
theorem changes_admitTo {slot : Nat} (number : n < 4) (idle : (stressAt s n).mode = .idle)
    (ready : (anchorAt s slot).phase = .ready) : Changes b s (admitTo n slot s) := by
  unfold admitTo startTest; dsimp only
  generalize hs : (admitAnchor slot s).onStress n _ = s1
  have h1 : Changes b s s1 := by
    refine .single ?_
    have h := Change.enter (ticking := b) (v := view s) n slot number (by rw [holder_view]; exact idle)
      (by rw [phaseAt_view]; exact ready)
    have hv : view (admitAnchor slot s) = (view s).setPhase slot .stressing :=
      view_onAnchor s slot fun a => { a with phase := .stressing }
    rw [← hs, view_onStress, hv]
    exact h
  have hm : (stressAt s1 n).mode = .running := by rw [← hs, stressAt_onStress_same number]
  generalize hw : writeOrHold n (startRecord s1 n) s1 = s2
  have h2 : Changes b s s2 := by rw [← hw]; exact (changes_writeOrHold _ hm).after h1
  have hm2 : (stressAt s2 n).mode = .running ∨ (stressAt s2 n).mode = .stalled := hw ▸ mode_writeOrHold _ hm
  have hh2 : holdsAnchor s2 n = true := hm2.elim (fun h => holdsAnchor_of_mode s2 h rfl) fun h => holdsAnchor_of_mode s2 h rfl
  generalize he : enterStep n 1 s2 = s3
  have h3 : Changes b s s3 := by
    rw [← he]; refine (changes_enterStep 1 hh2 ?_).after h2
    obtain h | h := hm2 <;> rw [h] <;> nofun
  have hh3 : holdsAnchor s3 n = true := by
    rw [← he, holdsAnchor_eq, holder_view, holderOf]
    simp only [enterStep, State.onWork, stressAt_onStress_same number]
    rwa [holdsAnchor_eq, holder_view] at hh2
  split
  · exact (changes_haltRun _ hh3).after h3
  · split
    case isTrue hr => exact ((judged_startJudgment hr).settle _).after h3
    case isFalse => exact (Changes.of_view (view_onWork s3 n _)).after h3

end

/-! ### Hand-out passes -/

/-- What a pass hands out: a READY anchor to an IDLE channel. -/
theorem nextHandOut_spec {s : State} {n slot : Nat} (h : nextHandOut s = some (n, slot)) :
    s.anchorTable.order.find? (eligible s) = some slot ∧ channels4.find? (canReceive s) = some n := by
  unfold nextHandOut at h
  split at h
  · simp only [Option.some.injEq, Prod.mk.injEq] at h
    obtain ⟨rfl, rfl⟩ := h
    exact ⟨‹_›, ‹_›⟩
  · cases h

theorem changes_handed {b : Bool} {s : State} {n slot : Nat} (h : nextHandOut s = some (n, slot)) :
    Changes b s (admitTo n slot s) := by
  obtain ⟨hs, hn⟩ := nextHandOut_spec h
  have he := List.find?_some hs
  have hr := List.find?_some hn
  have hm := List.mem_of_find?_eq_some hn
  simp only [eligible, canReceive, Bool.and_eq_true, beq_iff_eq] at he hr
  exact changes_admitTo (by simp [channels4] at hm; omega) hr.1 he.1

theorem changes_passLoop {b : Bool} : ∀ (fuel : Nat) (s : State), Changes b s (passLoop fuel s)
  | 0, s => .refl s
  | fuel + 1, s => by
    unfold passLoop; split
    · exact (changes_handed ‹_›).trans (changes_passLoop fuel _)
    · exact .refl s

theorem changes_handOut {b : Bool} (s : State) : Changes b s (handOut s) := by
  unfold handOut; split
  · exact changes_passLoop _ s
  · exact .refl s

theorem changes_runPass {b : Bool} (s : State) : Changes b s (runPass s) := by
  unfold runPass; split
  · exact (Changes.of_view rfl).after (changes_handOut s)
  · exact .refl s

end Sys2Proof.Machine
end

section
/-! SUPPORT. What the placement unit, the trip counters, the classifiers, the measurement channels and the gauge converter do
to the view (02, 03, 06, 07). -/

namespace Sys2Proof.Machine

open Sys2Proof Sys2Proof.Config

/-! ### The placement unit's commands and records -/

section
variable (s : State)

@[simp] theorem view_recordDrive (p : RunPhase) (d : Drive) : view (recordDrive p d s) = view s := by
  unfold recordDrive; cases p <;> exact view_onPlacement s _

@[simp] theorem view_wantDrive (p : RunPhase) (d : Drive) : view (wantDrive p d s) = view s := by
  unfold wantDrive; split
  · rfl
  · split
    · rw [view_recordDrive, view_present]
    · rfl

@[simp] theorem view_driveChoice (p : RunPhase) : view (driveChoice p s) = view s := view_wantDrive s p _

@[simp] theorem view_stopByPriority (p : RunPhase) : view (stopByPriority p s) = view s := view_placeHalt s _ _ _

@[simp] theorem view_stopRun (p : RunPhase) : view (stopRun p s) = view s := by
  unfold stopRun; split
  · rw [view_recordDrive, view_present]
  · exact view_stopByPriority s p

@[simp] theorem view_judgeStarved (p : RunPhase) : view (judgeStarved p s) = view s := view_onRun s _

@[simp] theorem view_zeroTotal (m : Nat) : view (zeroTotal m s) = view s := rfl

theorem unitOf_of_busy (h : placementBusy s = true) :
    unitOf s = some (runPhase s, s.placement.run.map (·.slot)) := by rw [unitOf, if_pos h]

theorem placementBusy_of_view {s t : State} (h : view t = view s) : placementBusy t = placementBusy s := by
  have hu : (unitOf t).isSome = (unitOf s).isSome := congrArg (fun v : View => v.unit.isSome) h
  unfold unitOf at hu
  cases ht : placementBusy t <;> cases hs : placementBusy s <;> simp [ht, hs] at hu ⊢

theorem slot_runOf : (s.placement.run.map (·.slot)).getD 0 = (runOf s).slot := by
  unfold runOf; cases s.placement.run <;> rfl

/-- An update of the placement unit shows in the view as its run alone. -/
theorem view_onPlacement_unit (f : Placement → Placement) :
    view (s.onPlacement f) = { view s with unit := unitOf (s.onPlacement f) } := rfl

theorem view_releasePlacement : view (releasePlacement s) = { view s with unit := none } := rfl

theorem setPhase_setPhase (v : View) (i : Nat) (p q : Phase) : (v.setPhase i p).setPhase i q = v.setPhase i q := by
  simp [View.setPhase, put]

/-- The view after a run has begun (R7, R8). -/
theorem view_beginRun (p : RunPhase) (slot : Nat) :
    view (beginRun p slot s) = { (view s).setPhase slot (phaseAnchor p) with unit := some (p, some slot) } := by
  unfold beginRun; dsimp only
  rw [view_driveChoice, view_judgeStarved, view_writeOrDrop, view_zeroTotal, view_onPlacement_unit, view_onAnchor]
  cases p <;> rfl

/-- The cure evaluation of one anchor leaves it, or makes it READY (R10). -/
theorem view_cureOne (slot : Nat) :
    view (cureOne slot s) = view s ∨ view (cureOne slot s) = (view s).setPhase slot .ready := by
  unfold cureOne; split
  · exact .inr (view_onAnchor s slot fun a => { a with phase := .ready })
  · exact .inl rfl

end

/-! ### Runs -/

section
variable {b : Bool} {s : State}

/-- A run ends, with its anchor in another phase. -/
theorem changes_finish {t : State} (p : Phase) (h : placementBusy s = true) (hp : p.held = false)
    (ht : view t = { (view s).setPhase (runOf s).slot p with unit := none }) : Changes b s t := by
  refine .single ?_
  rw [ht, ← slot_runOf]
  exact .finish (runPhase s) _ p (unitOf_of_busy s h) hp

theorem changes_haltPlacementRun (cause : HaltCause) (h : placementBusy s = true) :
    Changes b s (haltPlacementRun cause s) := by
  unfold haltPlacementRun
  refine changes_finish .halted h rfl ?_
  rw [view_releasePlacement, haltAnchor, view_onAnchor, view_writeReserve, view_stopByPriority]

theorem changes_haltPlacement (cause : HaltCause) : Changes b s (haltPlacement cause s) := by
  unfold haltPlacement; split
  · exact changes_haltPlacementRun cause ‹_›
  · exact .refl s

theorem changes_completeWinching (h : placementBusy s = true) : Changes b s (completeWinching s) := by
  unfold completeWinching; dsimp only
  generalize hs : writeOrDrop _ _ = s2
  have h2 : view s2 = (view s).setPhase (runOf s).slot .placed := by
    rw [← hs, view_writeOrDrop, view_onAnchor, view_stopRun]
  split
  · refine .single ?_
    rw [view_beginRun, h2, setPhase_setPhase, ← slot_runOf]
    exact .follow (runPhase s) .grouting _ (unitOf_of_busy s h)
  · exact changes_finish .placed h rfl (by rw [view_releasePlacement, h2])

theorem changes_completeGrouting (h : placementBusy s = true) : Changes b s (completeGrouting s) := by
  unfold completeGrouting; dsimp only
  generalize hs : (stopRun RunPhase.grouting s).onAnchor _ _ = s1
  have h1 : view s1 = (view s).setPhase (runOf s).slot .curing := by rw [← hs, view_onAnchor, view_stopRun]
  obtain hc | hc := view_cureOne s1 (runOf s).slot
  · exact changes_finish .curing h rfl (by rw [view_releasePlacement, view_writeOrDrop, hc, h1])
  · exact changes_finish .ready h rfl (by rw [view_releasePlacement, view_writeOrDrop, hc, h1, setPhase_setPhase])

theorem changes_judgeRun (p : RunPhase) (h : placementBusy s = true) : Changes b s (judgeRun p s) := by
  unfold judgeRun; dsimp only
  have hv := view_judgeStarved s p
  have hb := (placementBusy_of_view hv).trans h
  have stay : Changes b s (driveChoice p (judgeStarved p s)) := .of_view ((view_driveChoice _ p).trans hv)
  split
  · exact stay
  · split
    · split
      · exact (changes_completeWinching hb).after (.of_view hv)
      · exact stay
    · split
      · exact (changes_completeGrouting hb).after (.of_view hv)
      · split
        · exact (changes_haltPlacementRun _ hb).after (.of_view hv)
        · exact stay

theorem placementBusy_of_mode {m : PlacementMode} (h : s.placement.mode = m) (hm : m ≠ .idle) : placementBusy s = true := by
  simp [placementBusy, h, hm]

theorem changes_placementSample (m : Nat) : Changes b s (placementSample m s) := by
  unfold placementSample; split
  case h_1 h =>
    split
    · exact changes_judgeRun _ (placementBusy_of_mode h nofun)
    · exact .refl s
  case h_2 h =>
    split
    · exact changes_judgeRun _ (placementBusy_of_mode h nofun)
    · exact .refl s
  all_goals exact .refl s

@[simp] theorem view_placementStale (m : Nat) : view (placementStale m s) = view s := by
  unfold placementStale; split
  · split
    · rw [view_driveChoice, view_judgeStarved]
    · rfl
  · split
    · rw [view_driveChoice, view_judgeStarved]
    · rfl
  · rfl
  · rfl

theorem changes_placementEvent (x : Nat) (k : EventKind) : Changes b s (placementEvent x k s) := by
  unfold placementEvent; split
  · exact .refl s
  case isFalse hb =>
    dsimp only; split
    · split
      · exact changes_haltPlacementRun _ (by simpa using hb)
      · have hv : view (writeOrDrop (eventRecord (s.onRun fun r =>
            { r with speed := speedAfter (runPhase s) r.speed k }) x k) (s.onRun fun r =>
            { r with speed := speedAfter (runPhase s) r.speed k })) = view s :=
          (view_writeOrDrop _ _).trans (view_onRun s _)
        split
        · exact .of_view hv
        · exact .of_view ((view_driveChoice _ _).trans ((view_judgeStarved _ _).trans hv))
    · exact .refl s

/-! ### Freeze, thaw and ticks -/

/-- A unit that stays at work on its run, in the phase of the run. A unit without run items, which no run of the part has,
can be read as in another phase. -/
theorem changes_atWork {t : State} (view_eq : view t = { view s with unit := unitOf t }) (busy : placementBusy s = true)
    (busy' : placementBusy t = true) (slot : t.placement.run.map (·.slot) = s.placement.run.map (·.slot))
    (phase : s.placement.run.isSome = true → runPhase t = runPhase s) : Changes b s t := by
  rw [unitOf_of_busy t busy', slot] at view_eq
  match hr : s.placement.run with
  | some r =>
    rw [phase (by rw [hr]; rfl), ← unitOf_of_busy s busy] at view_eq
    exact .of_view view_eq
  | none =>
    refine .single ?_
    rw [view_eq, hr]
    exact .reread (runPhase s) _ ((unitOf_of_busy s busy).trans (by rw [hr]; rfl))

theorem runPhase_of_mode {p : RunPhase} (h : s.placement.mode = phaseMode p) : runPhase s = p := by
  cases p <;> simp [runPhase, h, phaseMode]

/-- R129: the run of a phase is paused. -/
theorem changes_pause (p : RunPhase) (h : s.placement.mode = phaseMode p) :
    Changes b s ((stopByPriority p (s.onRun fun r => { r with pausedFrom := some p })).onPlacement fun u =>
      { u with mode := .paused }) := by
  generalize hs : stopByPriority p _ = s1
  have hr : s1.placement.run = s.placement.run.map fun r => { r with pausedFrom := some p } :=
    hs ▸ (frame_placeHalt _ _ _ _).unitRun
  refine changes_atWork ?_ (placementBusy_of_mode h (by cases p <;> nofun)) rfl ?_ fun hi => ?_
  · rw [view_onPlacement_unit, ← hs, view_stopByPriority]; rfl
  · simp [hr, Function.comp_def]
  · obtain ⟨r, he⟩ := Option.isSome_iff_exists.1 hi
    rw [runPhase_of_mode h]
    simp [runPhase, runOf, hr, he]

theorem changes_pausePlacement : Changes b s (pausePlacement s) := by
  unfold pausePlacement; dsimp only; split
  · exact changes_pause .winching ‹_›
  · exact changes_pause .grouting ‹_›
  · exact .refl s
  · exact .refl s

theorem changes_thawPlacement : Changes b s (thawPlacement s) := by
  unfold thawPlacement; split
  case isTrue h =>
    dsimp only
    generalize hp : runPhase s = p
    generalize hs : ((s.onRun fun r => { r with pausedFrom := none }).onPlacement fun u =>
      { u with mode := phaseMode p }) = s1
    have hm : s1.placement.mode = phaseMode p := by rw [← hs]; rfl
    have hb : placementBusy s1 = true := placementBusy_of_mode hm (by cases p <;> nofun)
    refine (changes_judgeRun p hb).after (changes_atWork ?_ (placementBusy_of_mode h nofun) hb ?_ fun _ => ?_)
    · rw [← hs]; rfl
    · rw [← hs]; simp [State.onRun, Function.comp_def]
    · rw [runPhase_of_mode hm, hp]
  case isFalse => exact .refl s

@[simp] theorem view_tickPlacement : view (tickPlacement s) = view s := by
  have hv (p : RunPhase) : view (if winchExpired (s.onRun (tickRun (placementInterval s))) = true then
      s.onRun (tickRun (placementInterval s))
    else driveChoice p (judgeStarved p (s.onRun (tickRun (placementInterval s))))) = view s := by
    split
    · exact view_onRun s _
    · rw [view_driveChoice, view_judgeStarved]; exact view_onRun s _
  unfold tickPlacement; dsimp only; split
  · exact hv .winching
  · exact hv .grouting
  · rfl
  · rfl

@[simp] theorem view_placementPoint : view (placementPoint s) = view s :=
  (view_onRun _ _).trans (view_writeOrDrop _ _)

/-! ### Trip counters and classifiers -/

theorem changes_becomeFrozen (detail : Nat) : Changes b s (becomeFrozen detail s) := by
  unfold becomeFrozen; dsimp only
  refine (Changes.of_view (view_writeReserve _ _)).after (changes_pausePlacement.after ?_)
  exact (Changes.foldl freezeStress (fun _ _ => changes_freezeStress) channels4 _).after (.of_view rfl)

theorem changes_observe (o : Observation) : Changes b s (observe o s) := by
  unfold observe; dsimp only; split
  · exact (changes_becomeFrozen _).after (.of_view rfl)
  · exact .of_view rfl

theorem changes_becomeUnfrozen : Changes b s (becomeUnfrozen s) := by
  unfold becomeUnfrozen; dsimp only
  refine (Changes.of_view (view_startPass _)).after (changes_thawPlacement.after ?_)
  exact (Changes.foldl thawStress (fun _ _ => changes_thawStress) channels4 _).after (.of_view rfl)

theorem changes_deliverEvent (x : Nat) (k : EventKind) : Changes b s (deliverEvent x k s) :=
  (changes_observe _).after (changes_placementEvent x k)

@[simp] theorem view_quietClassifier (x : Nat) : view (quietClassifier x s) = view s := rfl

theorem changes_classifierSample (m : Nat) (v : Int) (x : Nat) : Changes b s (classifierSample m v s x) := by
  unfold classifierSample; split
  · split
    · unfold judgeSample; split
      · split
        · exact .of_view rfl
        · exact .refl s
      · split
        · split
          · exact (changes_deliverEvent x _).after (.of_view rfl)
          · exact .of_view rfl
        · exact .refl s
    · exact .refl s
  · exact .refl s

@[simp] theorem view_classifierStale (m x : Nat) : view (classifierStale m s x) = view s := by
  unfold classifierStale; split
  · split <;> rfl
  · rfl

/-! ### Measurement channels -/

theorem changes_presentSample (m : Nat) : Changes b s (presentSample m s) := by
  unfold presentSample; dsimp only
  refine (changes_observe _).after ((Changes.foldl (classifierSample m _) (fun _ _ => changes_classifierSample _ _ _)
    channels4 _).after ((changes_placementSample m).after ?_))
  exact .foldl (fun s n => stressSample m n _ _ s) (fun _ _ => changes_stressSample _ _ _) channels4 s

theorem changes_presentStale (m : Nat) : Changes b s (presentStale m s) := by
  unfold presentStale; dsimp only
  have h1 : Changes b s (channels4.foldl (fun s n => stressStale m n s) s) :=
    .foldl _ (fun _ _ => changes_stressStale m) channels4 s
  have h2 := (Changes.of_view (b := b) (view_placementStale m)).after h1
  refine (Changes.of_view (view_onTrip _ _)).after (Changes.after ?_ h2)
  exact .foldl (classifierStale m) (fun _ _ => .of_view (view_classifierStale m _)) channels4 _

theorem changes_deliver (m : Nat) (raw : Word32) : Changes b s (deliver m raw s) := by
  unfold deliver; split
  · exact (changes_presentSample m).after (.of_view rfl)
  · exact .refl s

theorem changes_deliverGauge (m g : Nat) (saturated : Bool) : Changes b s (deliverGauge m g saturated s) := by
  unfold deliverGauge; split
  · exact (changes_presentSample m).after (.of_view rfl)
  · exact .refl s

theorem changes_makeStale (m : Nat) : Changes b s (makeStale m s) := (changes_presentStale m).after (.of_view rfl)

/-! ### The gauge converter -/

@[simp] theorem view_closeMeasurement : view (closeMeasurement s) = view s := view_searchCells _

theorem changes_cellOutcomes (o : CellOutcome) (r : Option CellReading) (l : List Nat) :
    Changes b s (l.foldl (cellOutcome o r) s) := .foldl _ (fun _ _ => changes_cellOutcome o r) l s

theorem changes_endAbnormal (c : Nat) (e : EndFigures) (o : CellOutcome) : Changes b s (endAbnormal c e o s) := by
  unfold endAbnormal; dsimp only
  refine (Changes.of_view view_closeMeasurement).after ((changes_observe _).after ?_)
  exact (changes_cellOutcomes o none _).after (.of_view rfl)

theorem changes_endReading (c m : Nat) : Changes b s (endReading c m s) := by
  unfold endReading; dsimp only
  refine (Changes.of_view view_closeMeasurement).after ((changes_cellOutcomes _ _ _).after ?_)
  exact (changes_deliverGauge _ _ _).after (.of_view rfl)

theorem changes_endSensing (c m : Nat) : Changes b s (endSensing c m s) := by
  unfold endSensing; dsimp only; split
  · exact (changes_endAbnormal c _ _).after (.of_view rfl)
  · exact (changes_endReading c m).after (.of_view rfl)

theorem changes_endEmptyFor : ∀ (fuel : Nat) (s : State), Changes b s (endEmptyFor fuel s)
  | 0, s => .refl s
  | fuel + 1, s => by
    unfold endEmptyFor; split
    · exact (changes_endSensing _ 0).trans (changes_endEmptyFor fuel _)
    · exact .refl s

theorem changes_endEmpty : Changes b s (endEmpty s) := changes_endEmptyFor _ s

@[simp] theorem view_abortMeasurement : view (abortMeasurement s) = view s := by
  unfold abortMeasurement; split <;> rfl

@[simp] theorem view_surveyRequest (c : Nat) : view (surveyRequest c s) = view s := view_joinRequest _ _ _

end

end Sys2Proof.Machine
end

section
/-! SUPPORT. What the requests, the ring and the rows that fall due do to the view (01, 08, 09, 11); and with it every command. -/

namespace Sys2Proof.Machine

open Sys2Proof Sys2Proof.Config

/-! ### The anchor table -/

section
variable {b : Bool} {s : State}

/-- The record of an anchor that no unit holds changes. -/
theorem changes_onAnchor (i : Nat) (f : Anchor → Anchor) (old : (anchorAt s i).phase.held = false)
    (new : (f (anchorAt s i)).phase.held = false) : Changes b s (s.onAnchor i f) := by
  refine .single ?_
  rw [view_onAnchor]
  refine .records (fun j _ => ?_) rfl
  rw [View.phaseAt_setPhase]; split
  case isTrue h => rw [← h.1, phaseAt_view]; exact .inr ⟨old, new⟩
  case isFalse => exact .inl rfl

theorem phase_of_cured {a : Anchor} (h : cured s a = true) : a.phase = .curing := by
  simp only [cured, Bool.and_eq_true, beq_iff_eq] at h
  exact h.1

theorem changes_cureAll : Changes b s (cureAll s) := by
  unfold cureAll; dsimp only
  generalize hs : s.onAnchorTable _ = s1
  have h1 : Changes b s s1 := by
    subst hs
    refine .single (.records (fun i hi => ?_) rfl)
    rw [phaseAt_view, phaseAt_view, anchorAt, State.onAnchorTable_anchorTable, look_map _ _ i hi]; split
    case isTrue h => exact .inr ⟨congrArg Phase.held (phase_of_cured h), rfl⟩
    case isFalse => exact .inl rfl
  split
  · exact (Changes.of_view (view_startPass s1)).after h1
  · exact h1

/-- A refusal, or an act on a number in range. -/
theorem changes_numbered {hi v : Nat} {act : State → State × Reply} (h : v ≤ hi → Changes b s (act s).1) :
    Changes b s (numbered hi v act s).1 := by
  unfold numbered; split
  · exact h ‹_›
  · exact .refl s

theorem numbered_answer (hi v : Nat) (body : State → List Byte) : (numbered hi v (answer body) s).1 = s := by
  unfold numbered; split <;> rfl

theorem changes_actLoadAnchor (slot : Nat) (d : Design) : Changes b s (actLoadAnchor slot d s).1 := by
  refine changes_numbered fun _ => ?_
  split
  · exact .refl s
  case isFalse hp =>
    have hf : (anchorAt s slot).phase.held = false := by
      simp only [Bool.not_eq_true', Bool.not_eq_false, Bool.or_eq_true, beq_iff_eq] at hp
      obtain h | h := hp <;> rw [h] <;> rfl
    split
    · exact .refl s
    · split
      · exact .refl s
      · split
        · exact .refl s
        · exact changes_onAnchor slot _ hf rfl

theorem changes_actWithdrawAnchor (slot : Nat) : Changes b s (actWithdrawAnchor slot s).1 := by
  have freed (h : (anchorAt s slot).phase.held = false) : Changes b s (s.onAnchor slot fun _ => Anchor.free) :=
    changes_onAnchor slot _ h rfl
  refine changes_numbered fun _ => ?_
  dsimp only
  split
  case h_5 h =>
    split
    · exact .refl s
    · exact freed (by rw [h]; rfl)
  case h_6 h =>
    split
    · exact .refl s
    · exact freed (by rw [h]; rfl)
  case h_1 h => exact freed (by rw [h]; rfl)
  case h_2 h => exact freed (by rw [h]; rfl)
  case h_3 h => exact freed (by rw [h]; rfl)
  case h_4 h => exact freed (by rw [h]; rfl)
  all_goals exact .refl s

theorem changes_actRetryAnchor (slot : Nat) : Changes b s (actRetryAnchor slot s).1 := by
  refine changes_numbered fun _ => ?_
  split
  · exact .refl s
  case isFalse h =>
    have hf : (anchorAt s slot).phase.held = false := by
      simp only [Bool.not_eq_true', Bool.not_eq_false, beq_iff_eq] at h
      rw [h]; rfl
    split
    · exact changes_onAnchor slot _ hf rfl
    · exact (Changes.of_view (view_startPass _)).after (changes_onAnchor slot _ hf rfl)
    · exact .refl s
    · exact .refl s

theorem windowsInRange_of_step {p : ProcStep} (h : stepInRange p = true) : windowsInRange p = true := by
  cases p with
  | lockoff p =>
    simp only [stepInRange, Bool.and_eq_true] at h
    simp only [windowsInRange, Bool.and_eq_true]
    exact ⟨h.1.1.2, h.1.2⟩
  | _ => rfl

theorem windowsInRange_of_accepted {c : ClassDef} (h : classAccepted c = true) : c.procedure.all windowsInRange = true := by
  simp only [classAccepted, procedureAccepted, Bool.and_eq_true] at h
  obtain ⟨-, ⟨⟨⟨-, hs⟩, -⟩, -⟩, -⟩ := h
  exact List.all_eq_true.2 fun p hp => windowsInRange_of_step (List.all_eq_true.1 hs p hp)

theorem changes_actLoadClass (k : Nat) (c : ClassDef) : Changes b s (actLoadClass k c s).1 := by
  refine changes_numbered fun _ => ?_
  split
  · exact .refl s
  · split
    case isTrue h => exact .single (.load k _ (windowsInRange_of_accepted h))
    case isFalse => exact .refl s

/-! ### The channels, the unit and the trip counters -/

theorem changes_bindTo (n : Nat) (c : Binding) (auto : Bool) (h : holdsAnchor s n = false) :
    Changes b s (bindTo n c auto s) := by
  unfold bindTo; dsimp only
  generalize hs : State.setOwner _ c.jack (some (.sc n)) = s1
  have h1 : view s1 = view s := by
    rw [← hs, view_setOwner]; split
    · split
      · rfl
      · exact view_setOwner s _ _
    · rfl
  have h2 : Changes b s1 (s1.onStress n fun k => { k with mode := .idle, binding := some c, autoTake := auto }) := by
    refine .single ?_
    rw [view_onStress]
    refine .bind n _ ?_ rfl ?_
    · rw [← holdsAnchor_eq, holdsAnchor_of_view h1, h]
    · rw [holder_view]; rfl
  split
  · exact (Changes.of_view (view_startPass _)).after (h2.after (.of_view h1))
  · exact h2.after (.of_view h1)

theorem changes_unbind (n : Nat) (h : holdsAnchor s n = false) : Changes b s (unbind n s) := by
  unfold unbind
  generalize hs : s.setOwner _ none = s1
  have h1 : view s1 = view s := by rw [← hs, view_setOwner]
  refine Changes.after (.single ?_) (.of_view h1)
  rw [view_onStress]
  refine .bind n _ ?_ rfl ?_
  · rw [← holdsAnchor_eq, holdsAnchor_of_view h1, h]
  · rw [holder_view]; rfl

theorem changes_actStartStress (n slot : Nat) : Changes b s (actStartStress n slot s).1 := by
  unfold actStartStress
  split
  · exact .refl s
  case isFalse hr =>
    iterate 4 (split; · exact .refl s)
    split
    · exact .refl s
    case isFalse hm =>
      split
      · exact .refl s
      case isFalse hp =>
        iterate 2 (split; · exact .refl s)
        simp only [Bool.not_eq_true', Bool.not_eq_false, beq_iff_eq, Bool.and_eq_true, decide_eq_true_eq] at hr hm hp
        exact changes_admitTo (by omega) hm hp

theorem changes_actHaltChannel (n : Nat) : Changes b s (actHaltChannel n s).1 := by
  refine changes_numbered fun _ => ?_
  split
  · exact .refl s
  · exact .refl s
  · exact changes_haltStress _
  · exact changes_haltStress _
  · exact changes_haltStress _
  · exact .of_view (view_onWork s n _)

theorem view_releaseNodes : view (releaseNodes s) = view s := by
  unfold releaseNodes; split
  · rw [view_setOwner, view_setOwner]
  · rfl

theorem changes_actConfigPlacement (cfg : Option PlacementConfig) : Changes b s (actConfigPlacement cfg s).1 := by
  unfold actConfigPlacement; split
  · exact .refl s
  · split
    · exact .of_view ((view_onPlacement _ _).trans view_releaseNodes)
    · split
      · exact .refl s
      · split
        · exact .refl s
        · split
          · refine .of_view ((view_onPlacement _ _).trans ?_)
            rw [view_setOwner, view_setOwner, view_releaseNodes]
          · exact .refl s

theorem changes_beginRun (p : RunPhase) (slot : Nat) (number : slot < 96) (free : placementBusy s = false)
    (phase : (anchorAt s slot).phase.held = false) : Changes b s (beginRun p slot s) := by
  refine .single ?_
  rw [view_beginRun]
  exact .start p slot number (by simp [view, unitOf, free]) (by rwa [phaseAt_view])

theorem changes_actStartPlace (slot : Nat) : Changes b s (actStartPlace slot s).1 := by
  refine changes_numbered fun hs => ?_
  iterate 5 (split; · exact .refl s)
  split
  · exact .refl s
  case isFalse hb =>
    simp only [Bool.not_eq_true] at hb
    split
    case isTrue hp => exact changes_beginRun _ slot (by omega) hb (by rw [hp]; rfl)
    case isFalse =>
      split
      case isTrue hp => exact changes_beginRun _ slot (by omega) hb (by rw [hp]; rfl)
      case isFalse => exact .refl s

theorem changes_actLoadTrip (q : Nat) (cfg : TripConfig) : Changes b s (actLoadTrip q cfg s).1 := by
  refine changes_numbered fun _ => ?_
  split
  · dsimp only [done]; split
    · exact (changes_becomeFrozen _).after (.of_view rfl)
    · exact .of_view rfl
  · exact .refl s

theorem changes_actFreeze : Changes b s (actFreeze s).1 := by
  unfold actFreeze done; dsimp only; split
  · exact .of_view rfl
  · exact (changes_becomeFrozen _).after (.of_view rfl)

theorem changes_actThaw : Changes b s (actThaw s).1 := by
  unfold actThaw; split
  · exact .refl s
  · split
    · exact (Changes.of_view (view_writeReserve _ _)).after ((changes_runPass _).after changes_becomeUnfrozen)
    · exact .of_view rfl

/-! ### The other requests -/

theorem view_reconfigureCell (c : Nat) (cfg : Option CellConfig) : view (reconfigureCell c cfg s) = view s := by
  unfold reconfigureCell; split
  · rw [view_searchCells, view_onCell, view_abortMeasurement]
  · rfl

/-! ### RESTART -/

/-- What a RESTART aborts is the measurement alone. -/
theorem abortMeasurement_frame : abortMeasurement s = { s with gauge := (abortMeasurement s).gauge } := by
  unfold abortMeasurement; split <;> rfl

/-- What a RESTART abandons is the excursions alone. -/
theorem abandonAll_frame : abandonAll s = { s with classifiers := (abandonAll s).classifiers } := rfl

/-- A RESTART block by block. -/
theorem restartBlocks_eq : restartBlocks s =
    { s with
      gauge := { (abortMeasurement s).gauge with
        cells := (abortMeasurement s).gauge.cells.map (restartedCell (now s)) }
      anchorTable := { s.anchorTable with slots := s.anchorTable.slots.map restartedAnchor }
      stress := s.stress.map restartedStress
      placement := { s.placement with mode := .idle, run := none }
      classifiers := (abandonAll s).classifiers
      trip := { counters := s.trip.counters.map restartedCounter, frozen := false, stationFreeze := false }
      ring := restartedRing s.ring
      sched := restartedSched s.sched
      station := { s.station with assembly := none, longResponse := [] } } := by
  unfold restartBlocks; dsimp only
  rw [abortMeasurement_frame, abandonAll_frame]
  rfl

theorem restartedAnchor_held (a : Anchor) : (restartedAnchor a).phase.held = false := by
  unfold restartedAnchor; split
  · rfl
  case isFalse h => revert h; unfold runsNow; cases a.phase <;> decide

theorem restartedStress_holds (c : Stress) : (restartedStress c).mode.holds = false := by
  unfold restartedStress; split
  case isTrue h => rw [h]; rfl
  case isFalse => rfl

theorem changes_restartBlocks : Changes b s (restartBlocks s) := by
  refine .single (.rest ?_ (fun i hi => ?_) (fun n hn => ?_) (fun n hn => ?_) ?_ ?_)
  · rw [restartBlocks_eq]; rfl
  · rw [phaseAt_view, anchorAt, restartBlocks_eq, look_map _ _ i hi]
    exact restartedAnchor_held _
  · rw [holder_view, stressAt, restartBlocks_eq, look_map _ _ n hn]
    exact restartedStress_holds _
  · rw [holder_view, holder_view, stressAt, restartBlocks_eq, look_map _ _ n hn]
    unfold restartedStress; split
    · exact .inr rfl
    · exact .inl rfl
  · rw [restartBlocks_eq]; rfl
  · rw [restartBlocks_eq]; rfl

theorem changes_actRestart : Changes b s (actRestart s).1 :=
  (Changes.of_view ((view_writeReserve _ _).trans (view_haltSweep _))).after changes_restartBlocks

/-- What a request does to the view: a chain of changes. -/
theorem changes_handRequest (r : Request) : Changes b s (handRequest r s).1 := by
  cases r with
  | loadAnchor slot d => exact changes_actLoadAnchor slot d
  | withdrawAnchor slot => exact changes_actWithdrawAnchor slot
  | retryAnchor slot => exact changes_actRetryAnchor slot
  | loadClass k c => exact changes_actLoadClass k c
  | enqueueStress slot p =>
    refine changes_numbered fun _ => ?_
    split
    · exact .refl s
    · split <;> exact .of_view rfl
  | dequeueStress slot => refine changes_numbered fun _ => ?_; split <;> exact .of_view rfl
  | setExclusion d => refine changes_numbered fun _ => ?_; split <;> exact .of_view rfl
  | configChannel m c =>
    refine changes_numbered fun _ => ?_
    split
    · exact .refl s
    · split
      · dsimp only [done]; split
        · exact (changes_presentStale m).after (.of_view rfl)
        · exact .of_view rfl
      · exact .refl s
  | loadTable t bps =>
    refine changes_numbered fun _ => ?_
    split
    · exact .refl s
    · split <;> exact .of_view rfl
  | configCell c cfg =>
    refine changes_numbered fun _ => ?_
    split
    · exact .refl s
    · split
      · exact .of_view (view_reconfigureCell c cfg)
      · exact .refl s
  | measureCell c q =>
    refine changes_numbered fun _ => ?_
    split
    · exact .refl s
    · exact .of_view (view_joinRequest _ _ _)
  | bindChannel n c auto =>
    refine changes_numbered fun _ => ?_
    split
    · exact .refl s
    case isFalse h =>
      iterate 2 (split; · exact .refl s)
      split
      · exact changes_bindTo n c auto (by simpa using h)
      · exact .refl s
  | unbindChannel n =>
    refine changes_numbered fun _ => ?_
    split
    · exact .refl s
    · split
      · exact .refl s
      case isFalse h => exact changes_unbind n (by simpa using h)
  | setAutoTake n auto =>
    refine changes_numbered fun _ => ?_
    split
    · exact .refl s
    · dsimp only [done]; split <;> exact .of_view (view_onStress_of_same s n fun c => { c with autoTake := auto })
  | startStress n slot => exact changes_actStartStress n slot
  | haltChannel n => exact changes_actHaltChannel n
  | configPlacement cfg => exact changes_actConfigPlacement cfg
  | startPlace slot => exact changes_actStartPlace slot
  | configClassifier x cfg =>
    refine changes_numbered fun _ => ?_
    split
    · exact .refl s
    · split <;> exact .of_view rfl
  | loadTrip q cfg => exact changes_actLoadTrip q cfg
  | freeze => exact changes_actFreeze
  | thaw => exact changes_actThaw
  | configRing timeout => show Changes b s (actConfigRing timeout s).1; unfold actConfigRing; split <;> exact .of_view rfl
  | readPending node => show Changes b s (actReadPending node s).1; unfold actReadPending; split <;> exact .of_view rfl
  | loadPoll e cfg => refine changes_numbered fun _ => ?_; split <;> exact .of_view rfl
  | configSchedule p => show Changes b s (actConfigSchedule p s).1; unfold actConfigSchedule; split <;> exact .of_view rfl
  | readLog start count =>
    show Changes b s (actReadLog start count s).1; unfold actReadLog; split
    · exact .refl s
    · split <;> exact .refl s
  | trimLog seq => show Changes b s (actTrimLog seq s).1; unfold actTrimLog; split <;> exact .of_view rfl
  | setWatermark w => show Changes b s (actSetWatermark w s).1; unfold actSetWatermark; split <;> exact .of_view rfl
  | setTime minute => exact changes_cureAll.after (.of_view rfl)
  | restart => exact changes_actRestart
  | readPart part =>
    show Changes b s (actReadPart part s).1; unfold actReadPart; split
    · exact .refl s
    · split <;> exact .refl s
  | clearEstop =>
    show Changes b s (actClearEstop s).1; unfold actClearEstop; split
    · exact .refl s
    · split <;> exact .of_view rfl
  | clearTrip mask => exact .of_view rfl
  | clearOverrun => exact .of_view rfl
  | readOrder => exact .refl s
  | readPlacement => exact .refl s
  | readTrip => exact .refl s
  | readRing => exact .refl s
  | readPolls => exact .refl s
  | readSchedule => exact .refl s
  | readLogState => exact .refl s
  | readStatus => exact .refl s
  | readAnchor slot => exact .of_view (congrArg view (numbered_answer _ _ _))
  | readClass k => exact .of_view (congrArg view (numbered_answer _ _ _))
  | readChannel m => exact .of_view (congrArg view (numbered_answer _ _ _))
  | readTable t => exact .of_view (congrArg view (numbered_answer _ _ _))
  | readCell c => exact .of_view (congrArg view (numbered_answer _ _ _))
  | readStress n => exact .of_view (congrArg view (numbered_answer _ _ _))
  | readClassifier x => exact .of_view (congrArg view (numbered_answer _ _ _))

end

end Sys2Proof.Machine
end

section
/-! SUPPORT. What the ring, the rows that fall due and the commands do to the view (08, 09, 11); and an invariant that the
changes keep is kept by every command. -/

namespace Sys2Proof.Machine

open Sys2Proof Sys2Proof.Config

section
variable {b : Bool} {s : State}

/-! ### Requests taken -/

theorem changes_respond (tag code : Nat) (r : State × Reply) : Changes b r.1 (respond tag code r) := by
  unfold respond
  rw [queueResponse_eq]
  exact (changes_runPass _).after (.of_view rfl)

theorem changes_handBody (code : Nat) (body : List Byte) : Changes b s (handBody code body s).1 := by
  unfold handBody; split
  · exact changes_handRequest _
  · exact .refl s

theorem changes_actLoadPart (target part : Nat) (last : Bool) (bytes : List Byte) :
    Changes b s (actLoadPart target part last bytes s).2.1 := by
  unfold actLoadPart; split
  · exact .refl s
  · split
    · exact .of_view rfl
    · split
      · exact .of_view rfl
      · split
        · exact (changes_handBody _ _).after (.of_view rfl)
        · exact .of_view rfl

theorem changes_takeBody (tag code : Nat) (body : List Byte) : Changes b s (takeBody tag code body s) := by
  unfold takeBody; split
  · split
    · exact (changes_respond tag _ _).after (changes_actLoadPart _ _ _ _)
    · exact changes_respond tag code (refuse .badValue s)
  · exact (changes_respond tag code _).after (changes_handBody code body)

/-! ### The ring -/

theorem changes_breakRing : Changes b s (breakRing s) := by
  unfold breakRing; dsimp only
  refine (Changes.of_view (view_onSched _ _)).after ((Changes.of_view (view_onSched _ _)).after ?_)
  refine (changes_haltPlacement .ring).after ?_
  exact (changes_haltAllStress .ring).after (.of_view rfl)

theorem view_raiseRing : view (raiseRing s) = view s := by
  unfold raiseRing
  rw [view_startPass, view_haltSweep, view_onRing]

theorem view_clearRecord (node : Nat) (c : Command) (o : Owner) : view (clearRecord node c o s) = view s := by
  unfold clearRecord; split
  · split
    · exact view_onWork s _ _
    · rfl
  · split
    · exact view_onPlacement s _
    · rfl
  · split
    · exact view_onPlacement s _
    · rfl
  · rfl

theorem view_reenter (node : Nat) (c : Command) (o : Owner) (priority : Bool) : view (reenter node c o priority s) = view s := by
  unfold reenter; split
  · exact view_placeHalt s _ _ _
  · split
    · rfl
    · exact view_clearRecord node c o

theorem changes_nodeAbsent (node : Nat) : Changes b s (nodeAbsent node s) := by
  unfold nodeAbsent; split
  · exact changes_haltStress _
  · exact changes_haltPlacement _
  · exact .refl s

theorem changes_reportFailed (node tag : Nat) (c : Command) (o : Owner) (priority : Bool) :
    Changes b s (reportFailed node tag c o priority s) := by
  unfold reportFailed; split
  · dsimp only; split
    · exact .of_view rfl
    · exact .of_view (view_reenter node c o priority)
  · exact (changes_nodeAbsent node).after (.of_view rfl)

theorem view_endPoll (e : Nat) (detached : Bool) : view (endPoll e detached s) = view s := by
  unfold endPoll; split <;> rfl

theorem changes_handleLoss (f : InFlight) : Changes b s (handleLoss f s) := by
  unfold handleLoss; split
  · exact .of_view (view_endPoll _ _)
  · exact changes_reportFailed _ _ _ _ _
  · split <;> exact .of_view rfl

theorem changes_loseEntry (f : InFlight) : Changes b s (loseEntry f s) := by
  unfold loseEntry; dsimp only; split
  · split
    · exact (changes_handleLoss f).after (.of_view rfl)
    · exact changes_breakRing.after (.of_view rfl)
  · exact (changes_handleLoss f).after (.of_view rfl)

theorem changes_deliverSlots (pay : List Byte) (slots : List (Option Nat)) : Changes b s (deliverSlots pay slots s) := by
  unfold deliverSlots
  refine .foldl _ (fun s p => ?_) _ s
  split
  · exact (changes_runPass _).after (changes_endEmpty.after (changes_deliver _ _))
  · exact .refl s

theorem changes_returnPoll (bs : List Byte) (slots : List (Option Nat)) : Changes b s (returnPoll bs slots s) := by
  unfold returnPoll; split
  · split
    · exact changes_deliverSlots _ _
    · exact changes_observe _
  · exact .refl s

theorem changes_returnOwn (f : InFlight) (bs : List Byte) : Changes b s (returnOwn f bs s) := by
  unfold returnOwn; dsimp only; split
  · exact (changes_returnPoll bs _).after (.of_view (view_endPoll _ _))
  · split
    · exact .of_view rfl
    · exact (changes_reportFailed _ _ _ _ _).after (.of_view rfl)
  · split
    · exact .of_view view_raiseRing
    · exact .of_view rfl

theorem changes_foreignFrame (bs : List Byte) : Changes b s (foreignFrame bs s) := by
  unfold foreignFrame; split
  · split
    · exact (Changes.of_view rfl).after (changes_takeBody _ _ _)
    · exact .of_view rfl
  · split <;> exact .of_view rfl

theorem changes_badFrame (bs : List Byte) : Changes b s (badFrame bs s) := by
  unfold badFrame; dsimp only; split
  · exact (changes_loseEntry _).after (changes_observe _)
  · exact changes_observe _

theorem changes_arrive (bs : List Byte) : Changes b s (arrive bs s) := by
  unfold arrive; split
  · exact changes_badFrame bs
  · unfold disposeFrame; split
    · split
      · exact changes_returnOwn _ bs
      · exact changes_observe _
    · split
      · exact changes_observe _
      · split
        · exact changes_observe _
        · exact changes_foreignFrame bs

/-! ### Port B -/

theorem view_passOver : view (passOver s) = view s := by
  unfold passOver; split <;> rfl

theorem view_judgeMode : view (judgeMode s) = view s := by
  unfold judgeMode; split <;> split <;> rfl

theorem view_carryOut (c : Choice) : view (carryOut s c) = view s := by
  cases c with
  | halt e => exact view_passOver
  | command e => exact view_passOver
  | poll e c => exact view_passOver
  | response r => rfl
  | nothing => rfl

theorem view_sendProbe : view (sendProbe s) = view s := by
  unfold sendProbe; split <;> rfl

theorem view_insert : view (insert s) = view s := by
  unfold insert; split
  · split
    · split
      · exact (view_carryOut _).trans view_judgeMode
      · rfl
    · exact view_sendProbe
    · exact view_sendProbe
  · rfl

theorem view_forwardOldest : view (forwardOldest s) = view s := by
  unfold forwardOldest; split <;> rfl

theorem view_endTransmission : view (endTransmission s) = view s := by
  unfold endTransmission; split <;> rfl

theorem changes_expire (tag : Nat) : Changes b s (expire tag s) := by
  unfold expire; split
  · exact (changes_loseEntry _).after (.of_view rfl)
  · exact .refl s

theorem changes_loseSignal : Changes b s (loseSignal s) := by
  unfold loseSignal; split
  · exact changes_breakRing
  · exact .refl s

/-! ### Rows that fall due -/

theorem mode_of_inMode {n : Nat} {m : StressMode} (h : inMode s n m = true) : (stressAt s n).mode = m := by
  simpa [inMode] using h

theorem changes_effect (d : Due) (h : isDue s d = true) : Changes b s (effect s d) := by
  cases d with
  | emptySensing => exact changes_endEmpty
  | siteMinute => exact changes_cureAll.after (.of_view rfl)
  | stale m => exact changes_makeStale m
  | loadTimeout n => exact changes_haltStress _
  | lockRunOut n => exact changes_haltStress _
  | settleInterval n =>
    simp only [isDue, Bool.and_eq_true] at h
    exact changes_countInterval (mode_of_inMode h.1.2)
  | settleMaximum n =>
    simp only [isDue, Bool.and_eq_true] at h
    exact changes_completeUnsettled (mode_of_inMode h.1.1.2)
  | stressPoint n => exact changes_stressPoint
  | winchTimeout => exact changes_haltPlacement _
  | placementPoint => exact .of_view view_placementPoint
  | sustained x => exact (changes_deliverEvent x _).after (.of_view rfl)
  | overlong x => exact (changes_deliverEvent x _).after (.of_view rfl)
  | survey c => exact .of_view (view_surveyRequest c)
  | heldRecord n =>
    unfold effect writeHeld; dsimp only; split
    · exact changes_heldWritten _
    · exact .refl s
  | measurement => exact changes_endEmpty.after (.of_view (view_searchCells s))

theorem changes_takeDue (d : Due) : Changes b s (takeDue d s) := by
  unfold takeDue; split
  · exact (changes_runPass _).after (changes_effect d ‹_›)
  · exact .refl s

theorem changes_settleLoop : ∀ (fuel : Nat) (s : State), Changes b s (settleLoop fuel s)
  | 0, s => .refl s
  | fuel + 1, s => by
    unfold settleLoop; split
    · exact (changes_takeDue _).trans (changes_settleLoop fuel _)
    · exact .refl s

/-- Carrying out what is due can close the tick. -/
theorem view_settle : view (settle s) = { view (settleLoop settleFuel s) with tickOpen := (settle s).tickOpen } := by
  unfold settle; rfl

/-! ### Pins, time and the converter's ends -/

theorem changes_latchEstop : Changes b s (latchEstop s) := by
  unfold latchEstop; dsimp only
  refine (Changes.of_view ((view_writeReserve _ _).trans (view_haltSweep _))).after ?_
  exact (changes_haltPlacement .estop).after ((changes_haltAllStress .estop).after (.of_view rfl))

theorem changes_assertLine : Changes b s (assertLine s) := by
  unfold assertLine; dsimp only; split
  · exact .of_view rfl
  · exact changes_latchEstop.after (.of_view rfl)

/-- A tick advance leaves the tick open. -/
theorem view_advanceTick : view (advanceTick s) =
    { view (tickPlacement (channels4.foldl tickStress (countTick s))) with tickOpen := true } := by
  unfold advanceTick; rfl

/-- The blocks' part of a tick advance, before the tick stands open. -/
theorem changes_ticks : Changes true s (tickPlacement (channels4.foldl tickStress (countTick s))) :=
  (Changes.of_view view_tickPlacement).after
    ((Changes.foldl tickStress (fun _ _ => changes_tickStress) channels4 _).after (.of_view rfl))

theorem changes_referenceEnds (t : Nat) : Changes b s (referenceEnds t s) := by
  unfold referenceEnds; split
  · split
    · exact changes_endEmpty.after (.of_view rfl)
    · exact .refl s
  · exact .refl s

theorem changes_referenceLost (mc : Nat) : Changes b s (referenceLost mc s) := by
  unfold referenceLost; split
  · split
    · exact changes_endEmpty.after ((changes_endAbnormal _ _ _).after (.of_view rfl))
    · exact .refl s
  · exact .refl s

theorem changes_sensingEnds (m : Nat) : Changes b s (sensingEnds m s) := by
  unfold sensingEnds; split
  · split
    · exact changes_endEmpty.after (changes_endSensing _ m)
    · exact .refl s
  · exact .refl s

theorem changes_sensingHigh (tc : Nat) : Changes b s (sensingHigh tc s) := by
  unfold sensingHigh; split
  · split
    · exact changes_endEmpty.after ((changes_endAbnormal _ _ _).after (.of_view rfl))
    · exact .refl s
  · exact .refl s

end

/-! ### Every command -/

/-- A predicate that the changes, the carrying out of what is due, a tick advance and the power-on reset keep. -/
structure KeptBy (I : State → Prop) : Prop where
  changes : ∀ s t, Changes false s t → I s → I t
  settle : ∀ s, I s → I (settle s)
  tick : ∀ s, I s → I (advanceTick s)
  power : ∀ straps line (s : State), I { State.power straps line with pending := s.pending }

namespace KeptBy

variable {I : State → Prop} {s t : State}

theorem event (hI : KeptBy I) {act : State → State} (he : event act s = .next t) (hs : I s)
    (h : ∀ s, Changes false s (act s)) : I t := by
  cases he
  exact hI.changes _ _ ((changes_runPass _).after (h _)) (hI.settle s hs)

theorem request (hI : KeptBy I) {tag code : Nat} {act : State → State × Reply}
    (h : ∀ s, Changes false s (act s).1) (he : request tag code act s = .next t) (hs : I s) : I t := by
  unfold Machine.request at he
  cases he
  have hs := hI.settle s hs
  split
  · exact hI.changes _ _ ((changes_respond tag code _).after (h _)) hs
  · exact hs

/-- Every request row is the request as the station's frame carries it (log 1). -/
theorem row (hI : KeptBy I) (tag : Nat) (r : Request) (he : exec (rowOf tag r) s = .next t) (hs : I s) : I t := by
  refine hI.request (tag := tag) (code := requestCode r) (act := handRequest r) (fun _ => changes_handRequest r) ?_ hs
  rw [← he]
  cases r <;> rfl

theorem due (hI : KeptBy I) (d : Due) (hs : I s) : I (takeDue d s) := hI.changes _ _ (changes_takeDue d) hs

theorem loadPart (hI : KeptBy I) (tag target part : Nat) (last : Bool) (bytes : List Byte) (hs : I s)
    (he : execLoadPart tag target part last bytes s = .next t) : I t := by
  unfold execLoadPart at he
  cases he
  have hs := hI.settle s hs
  split
  · exact hI.changes _ _ ((changes_respond tag _ _).after (changes_actLoadPart _ _ _ _)) hs
  · exact hs

theorem unowned (hI : KeptBy I) (tag code : Nat) (body : List Byte) (hs : I s)
    (he : execUnownedRequestCode tag code body s = .next t) : I t := by
  unfold execUnownedRequestCode at he
  split at he
  · cases he; exact hI.settle s hs
  · exact hI.request (fun s => .refl s) he hs

theorem powerOn (hI : KeptBy I) (straps : Nat) (line : Bool) (s : State) : I (powerOn straps line s) := by
  unfold Machine.powerOn; dsimp only; split
  · exact hI.changes _ _ changes_latchEstop (hI.power (straps % 64) line s)
  · exact hI.power (straps % 64) line s

/-- A predicate kept by the changes is kept by every command. -/
theorem exec (hI : KeptBy I) (c : Instr) (he : exec c s = .next t) (hs : I s) : I t := by
  cases c with
  | powerOnReset straps line => cases he; exact hI.powerOn straps line s
  | estopAsserted => exact hI.event he hs fun _ => changes_assertLine
  | estopLineDeasserted =>
    exact hI.event (act := fun s => s.onStation fun t => { t with line := false }) he hs fun _ => .of_view rfl
  | lossOfSignal => exact hI.event he hs fun _ => changes_loseSignal
  | frameArrival clock frame =>
    exact hI.event (act := fun s => arrive frame (setClock clock s)) he hs fun _ => (changes_arrive frame).after (.of_view rfl)
  | forwardTransmit => exact hI.event he hs fun _ => .of_view view_forwardOldest
  | insertionOpportunity => exact hI.event he hs fun _ => .of_view view_insert
  | frameTransmitted clock =>
    refine hI.event (act := fun s => if s.ring.transmitter.isSome then endTransmission (setClock clock s) else s) he hs
      fun s => ?_
    split
    · exact .of_view (view_endTransmission (s := setClock clock s))
    · exact .refl s
  | entryExpiry tag => exact hI.event he hs fun _ => changes_expire tag
  | tickAdvance =>
    cases he
    exact hI.changes _ _ (changes_runPass _) (hI.tick _ (hI.settle s hs))
  | siteMinuteAdvance => cases he; exact hI.due _ hs
  | channelStale m => cases he; exact hI.due _ hs
  | surveyRequest c => cases he; exact hI.due _ hs
  | measurementStart => cases he; exact hI.due _ hs
  | referenceEnd k => exact hI.event he hs fun _ => changes_referenceEnds k
  | refLost mc => exact hI.event he hs fun _ => changes_referenceLost mc
  | sensingEnd m => exact hI.event he hs fun _ => changes_sensingEnds m
  | senseHigh tc => exact hI.event he hs fun _ => changes_sensingHigh tc
  | loadTimeout n => cases he; exact hI.due _ hs
  | settleInterval n => cases he; exact hI.due _ hs
  | settleMaximum n => cases he; exact hI.due _ hs
  | lockWindowRunOut n => cases he; exact hI.due _ hs
  | stressPointDue n => cases he; exact hI.due _ hs
  | placementPointDue => cases he; exact hI.due _ hs
  | winchTimeout => cases he; exact hI.due _ hs
  | sustained x => cases he; exact hI.due _ hs
  | overlong x => cases he; exact hI.due _ hs
  | heldRecordWrite n => cases he; exact hI.due _ hs
  | unownedRequestCode tag code body => exact hI.unowned tag code body hs he
  | loadPart tag target part last bytes => exact hI.loadPart tag target part last bytes hs he
  | loadAnchor tag slot d => exact hI.row tag (.loadAnchor slot d) he hs
  | readAnchor tag slot => exact hI.row tag (.readAnchor slot) he hs
  | withdrawAnchor tag slot => exact hI.row tag (.withdrawAnchor slot) he hs
  | retryAnchor tag slot => exact hI.row tag (.retryAnchor slot) he hs
  | loadClass tag k c => exact hI.row tag (.loadClass k c) he hs
  | readClass tag k => exact hI.row tag (.readClass k) he hs
  | enqueueStress tag slot p => exact hI.row tag (.enqueueStress slot p) he hs
  | dequeueStress tag slot => exact hI.row tag (.dequeueStress slot) he hs
  | readOrder tag => exact hI.row tag .readOrder he hs
  | setExclusion tag d => exact hI.row tag (.setExclusion d) he hs
  | configChannel tag m c => exact hI.row tag (.configChannel m c) he hs
  | readChannel tag m => exact hI.row tag (.readChannel m) he hs
  | loadTable tag k bps => exact hI.row tag (.loadTable k bps) he hs
  | readTable tag k => exact hI.row tag (.readTable k) he hs
  | configCell tag c cfg => exact hI.row tag (.configCell c cfg) he hs
  | measureCell tag c r => exact hI.row tag (.measureCell c r) he hs
  | readCell tag c => exact hI.row tag (.readCell c) he hs
  | bindChannel tag n b auto => exact hI.row tag (.bindChannel n b auto) he hs
  | unbindChannel tag n => exact hI.row tag (.unbindChannel n) he hs
  | setAutoTake tag n auto => exact hI.row tag (.setAutoTake n auto) he hs
  | readStress tag n => exact hI.row tag (.readStress n) he hs
  | startStress tag n slot => exact hI.row tag (.startStress n slot) he hs
  | haltChannel tag n => exact hI.row tag (.haltChannel n) he hs
  | configPlacement tag cfg => exact hI.row tag (.configPlacement cfg) he hs
  | readPlacement tag => exact hI.row tag .readPlacement he hs
  | startPlace tag slot => exact hI.row tag (.startPlace slot) he hs
  | configClassifier tag x cfg => exact hI.row tag (.configClassifier x cfg) he hs
  | readClassifier tag x => exact hI.row tag (.readClassifier x) he hs
  | loadTrip tag q cfg => exact hI.row tag (.loadTrip q cfg) he hs
  | clearTrip tag mask => exact hI.row tag (.clearTrip mask) he hs
  | readTrip tag => exact hI.row tag .readTrip he hs
  | freeze tag => exact hI.row tag .freeze he hs
  | thaw tag => exact hI.row tag .thaw he hs
  | configRing tag timeout => exact hI.row tag (.configRing timeout) he hs
  | readRing tag => exact hI.row tag .readRing he hs
  | readPending tag node => exact hI.row tag (.readPending node) he hs
  | loadPoll tag e cfg => exact hI.row tag (.loadPoll e cfg) he hs
  | readPolls tag => exact hI.row tag .readPolls he hs
  | configSchedule tag p => exact hI.row tag (.configSchedule p) he hs
  | readSchedule tag => exact hI.row tag .readSchedule he hs
  | readLog tag start count => exact hI.row tag (.readLog start count) he hs
  | trimLog tag seq => exact hI.row tag (.trimLog seq) he hs
  | setWatermark tag w => exact hI.row tag (.setWatermark w) he hs
  | clearOverrun tag => exact hI.row tag .clearOverrun he hs
  | readLogState tag => exact hI.row tag .readLogState he hs
  | readStatus tag => exact hI.row tag .readStatus he hs
  | setTime tag minute => exact hI.row tag (.setTime minute) he hs
  | restart tag => exact hI.row tag .restart he hs
  | readPart tag part => exact hI.row tag (.readPart part) he hs
  | clearEstop tag => exact hI.row tag .clearEstop he hs

/-- A predicate kept by the changes is kept by every step. -/
theorem step (hI : KeptBy I) (he : step s = .next t) (hs : I s) : I t := by
  unfold Machine.step at he
  split at he
  · cases he; exact hI.settle s hs
  case h_2 c rest _ => exact hI.exec c he (hI.changes s { s with pending := rest } (.of_view rfl) hs)

end KeptBy

/-! ### The two invariants -/

theorem anchorsHeldOnce_iff (s : State) : anchorsHeldOnce s ↔ (view s).heldOnce := by
  have hb (n slot : Nat) : boundTo s n slot ↔
      ((view s).holder n).mode.holds = true ∧ ((view s).holder n).slot = some slot := by
    rw [boundTo, holdsAnchor_eq, holder_view]; rfl
  have hu (o : Option Nat) (p : RunPhase) : (view s).unit = some (p, o) ↔
      placementBusy s = true ∧ runPhase s = p ∧ s.placement.run.map (·.slot) = o := by
    simp only [view, unitOf]; split <;> simp [*]
  simp only [anchorsHeldOnce, placing, hb, holdsAnchor_eq]
  constructor
  · rintro ⟨hp, honce, hheld, hunit⟩
    refine ⟨fun i hi => phaseAt_view s i ▸ (hp i hi).1, fun i p hi => ?_, fun n m i hn hm h1 h2 h3 h4 =>
      honce n m i hn hm ⟨h1, h2⟩ ⟨h3, h4⟩, fun n hn h => ?_, fun p o h => ?_⟩
    · rw [hu, phaseAt_view]; cases p
      · exact (hp i hi).2.1
      · exact (hp i hi).2.2
    · obtain ⟨i, hi, -, h⟩ := hheld n hn h; exact ⟨i, hi, h⟩
    · obtain ⟨h1, -, rfl⟩ := (hu o p).1 h; exact hunit h1
  · rintro ⟨hs, hp, honce, hheld, hunit⟩
    refine ⟨fun i hi => ⟨phaseAt_view s i ▸ hs i hi, ?_, ?_⟩, fun n m i hn hm h1 h2 =>
      honce n m i hn hm h1.1 h1.2 h2.1 h2.2, fun n hn h => ?_, fun h => ?_⟩
    · rw [← phaseAt_view, ← hu]; exact hp i .winching hi
    · rw [← phaseAt_view, ← hu]; exact hp i .grouting hi
    · obtain ⟨i, hi, he⟩ := hheld n hn h; exact ⟨i, hi, h, he⟩
    · exact hunit (runPhase s) _ ((hu _ _).2 ⟨h, rfl, rfl⟩)

theorem lockBounded_iff (s : State) : lockBounded s ↔ (view s).bounded s.tickOpen := by
  simp only [lockBounded]
  constructor
  · rintro ⟨hc, hn⟩
    constructor
    case classes => exact hc
    all_goals intro n h; obtain ⟨h1, h2, h3⟩ := hn n h; rw [holder_view]; assumption
  · rintro ⟨hc, hl, hk, hr⟩
    refine ⟨hc, fun n h => ?_⟩
    have h1 := hl n h
    have h2 := hk n h
    have h3 := hr n h
    rw [holder_view] at h1 h2 h3
    exact ⟨h1, h2, h3⟩

theorem power_rest (straps : Nat) (line : Bool) (s : State) :
    anchorsHeldOnce { State.power straps line with pending := s.pending }
      ∧ lockBounded { State.power straps line with pending := s.pending } := by
  have hh (n : Nat) (hn : n < 4) : (view { State.power straps line with pending := s.pending }).holder n =
      holderOf Stress.reset := by
    rw [holder_view, stressAt]; exact congrArg holderOf (look_replicate _ n hn)
  have hp (i : Nat) (hi : i < 96) : (view { State.power straps line with pending := s.pending }).phaseAt i = .free := by
    rw [phaseAt_view, anchorAt]; exact congrArg Anchor.phase (look_replicate _ i hi)
  constructor
  · rw [anchorsHeldOnce_iff]
    constructor
    case stressing =>
      intro i hi
      refine iff_of_false (by rw [hp i hi]; nofun) ?_
      rintro ⟨n, hn, h, -⟩; rw [hh n hn] at h; cases h
    case placing => intro i p hi; exact iff_of_false (by rw [hp i hi]; cases p <;> nofun) nofun
    case once => intro n m i hn _ h; rw [hh n hn] at h; cases h
    case holder => intro n hn h; rw [hh n hn] at h; cases h
    case unit => intro p o h; cases h
  · rw [lockBounded_iff]
    constructor
    case classes =>
      intro k hk
      have : look (view { State.power straps line with pending := s.pending }).classes k = none := look_replicate _ k hk
      rw [this]; rfl
    all_goals intro n hn; rw [hh n hn]
    · exact Nat.zero_le _
    · nofun
    · nofun

theorem anchorsHeldOnce_keptBy : KeptBy anchorsHeldOnce where
  changes s t h hs := by
    rw [anchorsHeldOnce_iff] at hs ⊢
    exact hs.along h
  settle s hs := by
    have h : (view (settleLoop settleFuel s)).heldOnce :=
      ((anchorsHeldOnce_iff s).1 hs).along (changes_settleLoop (b := false) settleFuel s)
    rw [anchorsHeldOnce_iff, view_settle]
    exact h.withTick _
  tick s hs := by
    have h : (view (tickPlacement (channels4.foldl tickStress (countTick s)))).heldOnce :=
      ((anchorsHeldOnce_iff s).1 hs).along changes_ticks
    rw [anchorsHeldOnce_iff, view_advanceTick]
    exact h.withTick _
  power straps line s := (power_rest straps line s).1

/-- Settles O12, by the changes that the units make to the anchors that they hold. -/
theorem anchorsStayHeldOnce : Obligations.AnchorsStayHeldOnce := fun _ _ hs he => anchorsHeldOnce_keptBy.step he hs

theorem advanceTick_tickOpen (s : State) : (advanceTick s).tickOpen = true := rfl

/-- A LOCKING channel whose window stands at 0 is due while the tick is open. -/
theorem window_of_nothing_due {s : State} (h : nextDue s = none) (ht : s.tickOpen = true) {n : Nat} (hn : n < 4)
    (hm : (stressAt s n).mode = .locking) : 0 < (workOf s n).window := by
  have hd := List.find?_eq_none.1 h (.lockRunOut n) (by
    have : n ∈ channels4 := by simp only [channels4, List.mem_cons, List.not_mem_nil, or_false]; omega
    simp [allDue, this])
  simp only [isDue, inMode, ht, hm, hn, decide_true, Bool.and_self, beq_self_eq_true, Bool.true_and, decide_eq_true_eq] at hd
  omega

theorem lockBounded_settle {s : State} (hs : lockBounded s) : lockBounded (settle s) := by
  have hc := changes_settleLoop (b := false) settleFuel s
  have ht : (settleLoop settleFuel s).tickOpen = s.tickOpen := View.tickOpen_along hc
  have hb := changes_settleLoop (b := s.tickOpen) settleFuel s
  have h : lockBounded (settleLoop settleFuel s) := by
    rw [lockBounded_iff, ht]
    exact ((lockBounded_iff s).1 hs).along hb
  unfold settle; dsimp only
  generalize settleLoop settleFuel s = t at h
  refine ⟨h.1, fun n hn => ?_⟩
  obtain ⟨h1, h2, h3⟩ := h.2 n hn
  refine ⟨h1, h2, fun hm => ?_⟩
  obtain hw | hw := h3 hm
  · exact .inl hw
  · match hd : nextDue t with
    | some d => exact .inr (by simp [hw])
    | none => exact .inl (window_of_nothing_due hd hw hn hm)

theorem lockBounded_keptBy : KeptBy lockBounded where
  changes s t h hs := by
    have ht : t.tickOpen = s.tickOpen := View.tickOpen_along h
    rw [lockBounded_iff] at hs ⊢
    rw [ht]
    exact hs.along (Relation.ReflTransGen.mono (fun _ _ hc => Change.ticking hc) _ _ h)
  settle s hs := lockBounded_settle hs
  tick s hs := by
    have h : (view (tickPlacement (channels4.foldl tickStress (countTick s)))).bounded true :=
      View.bounded.along changes_ticks (((lockBounded_iff s).1 hs).mono)
    rw [lockBounded_iff, view_advanceTick, advanceTick_tickOpen]
    exact h.withTick true
  power straps line s := (power_rest straps line s).2

/-- Settles O11, by the changes that the units make to the lock windows. -/
theorem lockWindowsStayBounded : Obligations.LockWindowsStayBounded := fun _ _ hs he => lockBounded_keptBy.step he hs

end Sys2Proof.Machine
end

section
/-! SUPPORT. The shapes of a request that is taken: a refusal, an answer, an effect with and without a hand-out pass, and the
checks in front of them; and the statements about READ_ requests and the requests of the anchor table (01). -/

namespace Sys2Proof.Machine

open Sys2Proof Sys2Proof.Config

/-! ### Responses -/

section
variable {s t : State} {tag code : Nat}

theorem respond_refuse (reason : Reason) (h : s.passDue = false) :
    respond tag code (refuse reason s) = refused tag code reason s := respond_of_none h

theorem respond_done (body : List Byte) (h : t.passDue = false) :
    respond tag code (done body t) = answered tag code none body t := respond_of_none h

theorem respond_done_pass (body : List Byte) (h : t.passDue = true) :
    respond tag code (done body t) = afterPass (answered tag code none body t) := respond_of_due h

theorem respond_done_run (body : List Byte) : respond tag code (done body t) = runPass (answered tag code none body t) := by
  unfold respond; rw [queueResponse_eq]; rfl

/-- A number out of range is refused before anything else. -/
theorem respond_numbered (hi v : Nat) (act : State → State × Reply) (h : s.passDue = false) :
    respond tag code (numbered hi v act s) = if hi < v then refused tag code .badValue s else respond tag code (act s) := by
  unfold numbered
  by_cases hv : v ≤ hi
  · rw [if_pos hv, if_neg (Nat.not_lt.2 hv)]
  · rw [if_neg hv, if_pos (Nat.lt_of_not_le hv)]
    exact respond_refuse _ h

/-- One check of a request: refused where it fails, and otherwise as what follows it. -/
theorem respond_check {c c' : Prop} [Decidable c] [Decidable c'] {reason : Reason} {r : State × Reply} {u : State}
    (h : s.passDue = false) (hc : c ↔ c') (next : respond tag code r = u) :
    respond tag code (if c then refuse reason s else r) = if c' then refused tag code reason s else u := by
  rw [apply_ite (respond tag code), respond_refuse reason h, next]
  exact if_congr hc rfl rfl

/-- The last check of a request, passed where it holds. -/
theorem respond_check_last {c c' : Prop} [Decidable c] [Decidable c'] {reason : Reason} {r : State × Reply} {u : State}
    (h : s.passDue = false) (hc : c ↔ c') (next : respond tag code r = u) :
    respond tag code (if c then r else refuse reason s) = if c' then u else refused tag code reason s := by
  rw [apply_ite (respond tag code), respond_refuse reason h, next]
  exact if_congr hc rfl rfl

theorem passDue_of_takesNow (h : takesNow s) : s.passDue = false := quiet_passDue h.1

/-- A request that reads one numbered item. -/
theorem request_read (h : takesNow s) (hi v : Nat) (body : State → List Byte) :
    request tag code (numbered hi v (answer body)) s
      = .next (if v ≤ hi then answered tag code none (body s) s else refused tag code .badValue s) := by
  rw [request_of_takesNow h]
  refine congrArg Host.Outcome.next (respond_check_last (passDue_of_takesNow h) .rfl ?_)
  exact respond_done _ (passDue_of_takesNow h)

/-- A request that reads without a number. -/
theorem request_answer (h : takesNow s) (body : State → List Byte) :
    request tag code (answer body) s = .next (answered tag code none (body s) s) := by
  rw [request_of_takesNow h]
  exact congrArg Host.Outcome.next (respond_done _ (passDue_of_takesNow h))

end

/-! ### READ_ requests -/

theorem within_iff {lo hi v : Nat} : within lo hi v = true ↔ lo ≤ v ∧ v ≤ hi := by
  simp [within]

theorem entryBytes_length (e : LogEntry) (h : e.data.length = 8) : (entryBytes e).length = 20 := by
  simp [entryBytes, word, be, h]

/-- R182: a number is held when it lies below the occupancy from the oldest on. -/
theorem seqHeld_iff {l : TestLog} (h : logInOrder l) (seq : Word32) :
    seqHeld l seq = true ↔ (seq - l.oldest).toNat < l.entries.length := by
  rw [seqHeld, occupancy_of_inOrder h, decide_eq_true_eq]

theorem exec_readLog {s : State} (h : takesNow s) (tag count : Nat) (start : Word32) :
    exec (.readLog tag start count) s = .next
      (if ¬(1 ≤ count ∧ count ≤ 6) then refused tag 0x58 .badValue s
      else if seqHeld s.log start = true then answered tag 0x58 none (readLogBody s start count) s
      else refused tag 0x58 .notFound s) := by
  have hp := passDue_of_takesNow h
  show request tag 0x58 (actReadLog start count) s = _
  rw [request_of_takesNow h]
  refine congrArg Host.Outcome.next (respond_check hp ?_ (respond_check_last hp .rfl (respond_done _ hp)))
  rw [Bool.not_eq_true', ← Bool.not_eq_true, within_iff]

/-- Settles O14, from the two shapes of a READ_ request and R187's checks. -/
theorem readsAnswerWhatStands : Obligations.ReadsAnswerWhatStands := by
  refine ⟨fun s tag v h => ?_, fun s tag count start h hl => ?_⟩
  · refine ⟨request_read h _ _ _, request_read h _ _ _, request_read h _ _ _, request_read h _ _ _, request_read h _ _ _,
      request_read h _ _ _, request_read h _ _ _, ?_, request_answer h _, request_answer h _, request_answer h _,
      request_answer h _, request_answer h _, request_answer h _, request_answer h _, request_answer h _⟩
    have hp := passDue_of_takesNow h
    show request tag 0x50 (actReadPending v) s = _
    rw [request_of_takesNow h]
    exact congrArg Host.Outcome.next (respond_check_last hp within_iff (respond_done _ hp))
  · simp only [exec_readLog h, seqHeld_iff hl]
    refine ⟨fun hc => ?_, fun h1 h6 hs => ?_, fun h1 h6 hs => ⟨?_, fun e _ => entryBytes_length e⟩⟩
    · rw [if_pos (by omega)]
    · rw [if_neg (by omega), if_neg (by omega)]
    · rw [if_neg (by omega), if_pos hs]; rfl

/-! ### The anchor table (01) -/

/-- R2, R3: the ranges of the design fields. -/
theorem designInRange_iff (d : Design) : designInRange d = true ↔
    (1 ≤ d.anchorId ∧ d.anchorId ≤ 65535) ∧ d.row ≤ 7 ∧ d.position ≤ 255 ∧ d.klass ≤ 7
      ∧ (1 ≤ d.strands ∧ d.strands ≤ 16) ∧ (1 ≤ d.freeLength ∧ d.freeLength ≤ 65535)
      ∧ (1 ≤ d.bondLength ∧ d.bondLength ≤ 65535) ∧ (1 ≤ d.workingLoad ∧ d.workingLoad ≤ 50000)
      ∧ (1 ≤ d.hardLimit ∧ d.hardLimit ≤ 8388607) ∧ (1 ≤ d.insertionTarget ∧ d.insertionTarget ≤ 65535)
      ∧ (1 ≤ d.groutTarget ∧ d.groutTarget ≤ 16777214) ∧ (d.groutTarget < d.groutMax ∧ d.groutMax ≤ 16777215)
      ∧ d.cureMinutes ≤ 65535 := by
  simp only [designInRange, Bool.and_eq_true, within_iff, and_assoc, Nat.zero_le, true_and, Nat.add_one_le_iff]

/-- R3, check 4, over the slots. -/
theorem duplicateAnchor_iff (s : State) (slot : Nat) (d : Design) : duplicateAnchor s slot d = true ↔
    ∃ i ∈ slots96, i ≠ slot ∧ (anchorAt s i).phase ≠ .free
      ∧ ((designOf s i).anchorId = d.anchorId ∨ ((designOf s i).row = d.row ∧ (designOf s i).position = d.position)) := by
  simp [duplicateAnchor, and_assoc]

section
variable {s : State} (h : takesNow s) (tag slot : Nat)
include h

theorem exec_loadAnchor (d : Design) : exec (.loadAnchor tag slot d) s = .next (
    if 95 < slot then refused tag 0x10 .badValue s
    else if (anchorAt s slot).phase ≠ .free ∧ (anchorAt s slot).phase ≠ .defined then refused tag 0x10 .badPhase s
    else if ¬designInRange d = true then refused tag 0x10 .badValue s
    else if look s.anchorTable.classes d.klass = none then refused tag 0x10 .badValue s
    else if duplicateAnchor s slot d = true then refused tag 0x10 .duplicate s
    else answered tag 0x10 none [] (s.onAnchor slot fun a => { a with phase := .defined, design := some d })) := by
  have hp := passDue_of_takesNow h
  show request tag 0x10 (actLoadAnchor slot d) s = _
  rw [request_of_takesNow h, actLoadAnchor, respond_numbered _ _ _ hp]
  refine congrArg Host.Outcome.next (if_congr .rfl rfl (respond_check hp ?_ (respond_check hp ?_
    (respond_check hp ?_ (respond_check hp .rfl (respond_done _ hp))))))
  · simp
  · simp
  · exact Option.isNone_iff_eq_none

/-- R5: WITHDRAW_ANCHOR by the phase of the anchor and its entry in the order list. -/
theorem exec_withdrawAnchor : exec (.withdrawAnchor tag slot) s = .next (
    if 95 < slot then refused tag 0x12 .badValue s
    else
      let freed := answered tag 0x12 none [] (s.onAnchor slot fun _ => Anchor.free)
      let kept := refused tag 0x12 .badPhase s
      match (anchorAt s slot).phase with
      | .free => refused tag 0x12 .notFound s
      | .defined | .accepted | .rejected | .halted => freed
      | .curing | .ready => if slot ∈ s.anchorTable.order then kept else freed
      | .winching | .placed | .grouting | .stressing => kept) := by
  have hp := passDue_of_takesNow h
  show request tag 0x12 (actWithdrawAnchor slot) s = _
  rw [request_of_takesNow h, actWithdrawAnchor, respond_numbered _ _ _ hp]
  refine congrArg Host.Outcome.next (if_congr .rfl rfl ?_)
  dsimp only
  cases (anchorAt s slot).phase
  case curing => exact respond_check hp List.contains_iff_mem (respond_done _ hp)
  case ready => exact respond_check hp List.contains_iff_mem (respond_done _ hp)
  case free => exact respond_refuse _ hp
  case winching => exact respond_refuse _ hp
  case placed => exact respond_refuse _ hp
  case grouting => exact respond_refuse _ hp
  case stressing => exact respond_refuse _ hp
  all_goals exact respond_done _ hp

/-- R15: RETRY_ANCHOR by what the anchor was halted from. -/
theorem exec_retryAnchor : exec (.retryAnchor tag slot) s = .next (
    if 95 < slot then refused tag 0x13 .badValue s
    else if (anchorAt s slot).phase ≠ .halted then refused tag 0x13 .badPhase s
    else match (anchorAt s slot).haltedFrom with
      | some .winching => answered tag 0x13 none [] (s.onAnchor slot retriedPlacement)
      | some .stressing => afterPass (answered tag 0x13 none [] (s.onAnchor slot retriedStressing).startPass)
      | _ => refused tag 0x13 .badPhase s) := by
  have hp := passDue_of_takesNow h
  show request tag 0x13 (actRetryAnchor slot) s = _
  rw [request_of_takesNow h, actRetryAnchor, respond_numbered _ _ _ hp]
  refine congrArg Host.Outcome.next (if_congr .rfl rfl (respond_check hp (by simp) ?_))
  match (anchorAt s slot).haltedFrom with
  | some .winching => exact respond_done _ hp
  | some .stressing => exact respond_done_pass _ rfl
  | some .grouting => exact respond_refuse _ hp
  | none => exact respond_refuse _ hp

end

/-- Settles O15, from the checks of the three requests in their order. -/
theorem anchorRecordsAreLoadedWithdrawnAndRetried : Obligations.AnchorRecordsAreLoadedWithdrawnAndRetried := by
  refine ⟨fun s tag slot d h => ?_, fun s tag slot h => ?_, fun s tag slot h => ?_⟩
  · rw [exec_loadAnchor h]
    refine congrArg Host.Outcome.next (if_congr .rfl rfl (if_congr .rfl rfl (if_congr ?_ rfl (if_congr .rfl rfl
      (if_congr (duplicateAnchor_iff s slot d) rfl rfl)))))
    exact not_congr (designInRange_iff d)
  · rw [exec_withdrawAnchor h]
    refine ⟨fun hs => by rw [if_pos hs], fun hs hf => ?_, fun hs hf => ?_, fun hs hf => ?_⟩ <;> rw [if_neg (by omega)]
    · rw [hf]
    · obtain hf | hf | hf | hf | ⟨hf | hf, ho⟩ := hf <;> rw [hf]
      · exact congrArg _ (if_neg ho)
      · exact congrArg _ (if_neg ho)
    · obtain hf | hf | hf | hf | ⟨hf | hf, ho⟩ := hf <;> rw [hf]
      · exact congrArg _ (if_pos ho)
      · exact congrArg _ (if_pos ho)
  · rw [exec_retryAnchor h]
    refine ⟨fun hs => by rw [if_pos hs], fun hs hf => ?_, fun hs hp hf => ?_, fun hs hp hf => ?_⟩ <;>
      rw [if_neg (by omega)]
    · by_cases hp : (anchorAt s slot).phase = .halted
      · have hf := hf.resolve_left (not_not.2 hp)
        rw [if_neg (not_not.2 hp), hf]
      · rw [if_pos hp]
    · rw [if_neg (not_not.2 hp), hf]; rfl
    · rw [if_neg (not_not.2 hp), hf]; rfl

/-! ### The order list and the exclusion (R20, R21, R23) -/

theorem anyStressing_iff (s : State) : anyStressing s = true ↔ ∃ i ∈ slots96, (anchorAt s i).phase = .stressing := by
  simp [anyStressing]

/-- Settles O17, from the checks of the two requests in their order. -/
theorem orderAndExclusionTakeTheirValues : Obligations.OrderAndExclusionTakeTheirValues := by
  refine ⟨fun s tag slot p h => ?_, fun s tag d h => ?_⟩ <;> have hp := passDue_of_takesNow h
  · show request tag 0x16 (actEnqueueStress slot p) s = _
    rw [request_of_takesNow h, actEnqueueStress, respond_numbered _ _ _ hp]
    refine congrArg Host.Outcome.next (if_congr .rfl rfl (respond_check hp (by simp)
      (respond_check hp List.contains_iff_mem ?_)))
    cases p <;> exact respond_done_pass _ rfl
  · show request tag 0x19 (actSetExclusion d) s = _
    rw [request_of_takesNow h, actSetExclusion, respond_numbered _ _ _ hp]
    exact congrArg Host.Outcome.next (if_congr .rfl rfl (respond_check hp (anyStressing_iff s) (respond_done_pass _ rfl)))

/-- Settles O18: the list without the entry, or a refusal. -/
theorem dequeueStressRemovesTheEntry : Obligations.DequeueStressRemovesTheEntry := by
  intro s tag slot h hs
  have hp := passDue_of_takesNow h
  have he : exec (.dequeueStress tag slot) s = .next (
      if slot ∈ s.anchorTable.order then answered tag 0x17 none []
        (s.onAnchorTable fun t => { t with order := t.order.filter fun e => !(e == slot) })
      else refused tag 0x17 .notFound s) := by
    show request tag 0x17 (actDequeueStress slot) s = _
    rw [request_of_takesNow h, actDequeueStress, respond_numbered _ _ _ hp, if_neg (by omega)]
    exact congrArg Host.Outcome.next (respond_check_last hp List.contains_iff_mem (respond_done _ hp))
  rw [he]
  refine ⟨fun hm => ?_, fun hm => by rw [if_neg hm]⟩
  rw [if_pos hm]
  simp only [decide_not, beq_eq_decide]

end Sys2Proof.Machine
end

section
/-! SUPPORT. LOAD_CLASS and the checks of a procedure, each as what it says of the steps by their numbers (R17, R18). -/

namespace Sys2Proof.Machine

open Sys2Proof Sys2Proof.Config

/-! ### The checks of R18 -/

/-- Check 1: END stands last, and nowhere else. -/
theorem finish_last_iff (p : List ProcStep) (h : 1 ≤ p.length) :
    (p.getLast? = some .finish ∧ ¬(p.dropLast.any (· == .finish)) = true)
      ↔ ∀ i : Nat, i < p.length → (p[i]? = some .finish ↔ i + 1 = p.length) := by
  rw [List.getLast?_eq_getElem?, List.any_eq_true]
  constructor
  · rintro ⟨hl, hn⟩ i hi
    refine ⟨fun hf => ?_, fun he => by rw [← hl]; congr 1; omega⟩
    by_contra hne
    refine hn ⟨.finish, List.mem_iff_getElem?.2 ⟨i, ?_⟩, beq_self_eq_true _⟩
    rw [List.getElem?_dropLast, if_pos (by omega), hf]
  · intro hall
    refine ⟨(hall (p.length - 1) (by omega)).2 (by omega), ?_⟩
    rintro ⟨q, hq, he⟩
    obtain ⟨i, hi⟩ := List.mem_iff_getElem?.1 hq
    rw [List.getElem?_dropLast] at hi
    split at hi
    · rw [beq_iff_eq.1 he] at hi
      have := (hall i (by omega)).1 hi
      omega
    · cases hi

/-- Check 3 for every step: what the step needs stands before it. -/
theorem procedureOrdered_iff (before p : List ProcStep) : procedureOrdered before p = true ↔
    ∀ (i : Nat) (q : ProcStep), p[i]? = some q → stepPreceded ((p.take i).reverse ++ before) q = true := by
  induction p generalizing before with
  | nil => simp [procedureOrdered]
  | cons a p ih =>
    rw [procedureOrdered, Bool.and_eq_true, ih]
    constructor
    · rintro ⟨ha, hp⟩ i q hq
      cases i with
      | zero => cases hq; exact ha
      | succ i => simpa using hp i q hq
    · intro hall
      exact ⟨by simpa using hall 0 a rfl, fun i q hq => by simpa using hall (i + 1) q hq⟩

/-- A step before another in the list, by its number. -/
theorem any_before_iff (f : ProcStep → Bool) (p : List ProcStep) (i : Nat) :
    (p.take i).reverse.any f = true ↔
    ∃ (j : Nat) (m : ProcStep), j < i ∧ p[j]? = some m ∧ f m = true := by
  rw [List.any_reverse]
  simp only [List.any_eq_true, List.mem_iff_getElem?, List.getElem?_take]
  constructor
  · rintro ⟨m, ⟨j, hj⟩, hf⟩
    split at hj
    · exact ⟨j, m, by omega, hj, hf⟩
    · cases hj
  · rintro ⟨j, m, hji, hj, hf⟩
    exact ⟨m, ⟨j, by rw [if_pos hji, hj]⟩, hf⟩

theorem stepIsLoad_iff (q : ProcStep) : stepIsLoad q = true ↔ ∃ m, q = .loadTo m := by
  cases q <;> simp [stepIsLoad]

theorem stepIsLockoff_iff (q : ProcStep) : stepIsLockoff q = true ↔ ∃ a, q = .lockoff a := by
  cases q <;> simp [stepIsLockoff]

/-- Check 3, apart for the steps that need a move and those that need a LOAD_TO. -/
theorem procedureOrdered_nil_iff (p : List ProcStep) : procedureOrdered [] p = true ↔
    (∀ (i : Nat) (q : ProcStep), p[i]? = some q → (stepIsLockoff q = true ∨ ∃ h, q = .holdSettle h) →
        ∃ (j : Nat) (m : ProcStep), j < i ∧ p[j]? = some m ∧ stepIsMove m = true)
      ∧ ∀ (i : Nat) (h : CreepParams), p[i]? = some (.holdCreep h) →
        ∃ (j : Nat) (m : MoveParams), j < i ∧ p[j]? = some (.loadTo m) := by
  simp only [procedureOrdered_iff, List.append_nil]
  have creep (i : Nat) : (p.take i).reverse.any stepIsLoad = true ↔
      ∃ (j : Nat) (m : MoveParams), j < i ∧ p[j]? = some (.loadTo m) := by
    rw [any_before_iff]
    simp only [stepIsLoad_iff]
    exact ⟨fun ⟨j, _, hj, hq, m, hm⟩ => ⟨j, m, hj, hm ▸ hq⟩, fun ⟨j, m, hj, hq⟩ => ⟨j, _, hj, hq, m, rfl⟩⟩
  constructor
  · refine fun hall => ⟨fun i q hq hk => ?_, fun i c hq => (creep i).1 (hall i _ hq)⟩
    rw [← any_before_iff stepIsMove p i]
    have := hall i q hq
    obtain hk | ⟨c, rfl⟩ := hk
    · obtain ⟨a, rfl⟩ := (stepIsLockoff_iff q).1 hk; exact this
    · exact this
  · rintro ⟨hm, hc⟩ i q hq
    cases q with
    | holdSettle c => exact (any_before_iff stepIsMove p i).2 (hm i _ hq (.inr ⟨c, rfl⟩))
    | lockoff a => exact (any_before_iff stepIsMove p i).2 (hm i _ hq (.inl rfl))
    | holdCreep c => exact (creep i).2 (hc i c hq)
    | _ => rfl

/-- At most one member of a list meets a condition when two that do are one. -/
theorem countP_le_one_iff {α : Type} (f : α → Bool) (l : List α) : l.countP f ≤ 1 ↔
    ∀ (i j : Nat) (a b : α), l[i]? = some a → l[j]? = some b → f a = true → f b = true → i = j := by
  induction l with
  | nil => simp
  | cons x l ih =>
    by_cases hx : f x = true
    · rw [List.countP_cons_of_pos hx]
      have h0 : l.countP f + 1 ≤ 1 ↔ ∀ a ∈ l, ¬f a = true := by
        rw [← List.countP_eq_zero]; omega
      rw [h0]
      constructor
      · intro hn i j a b ha hb fa fb
        have none (k : Nat) (c : α) (hk : (x :: l)[k]? = some c) (fc : f c = true) : k = 0 := by
          cases k with
          | zero => rfl
          | succ k => exact absurd fc (hn c (List.mem_of_getElem? hk))
        rw [none i a ha fa, none j b hb fb]
      · intro hall a ha fa
        obtain ⟨k, hk⟩ := List.mem_iff_getElem?.1 ha
        exact absurd (hall 0 (k + 1) x a rfl hk hx fa) (Nat.succ_ne_zero k).symm
    · rw [List.countP_cons_of_neg hx, ih]
      constructor
      · intro hall i j a b ha hb fa fb
        cases i with
        | zero => cases ha; exact absurd fa hx
        | succ i =>
          cases j with
          | zero => cases hb; exact absurd fb hx
          | succ j => rw [hall i j a b ha hb fa fb]
      · intro hall i j a b ha hb fa fb
        exact Nat.succ.inj (hall (i + 1) (j + 1) a b ha hb fa fb)

/-- Check 5: the steps that can fail have numbers below the reject exit. -/
theorem failsBefore_iff (exit k : Nat) (p : List ProcStep) : failsBefore exit k p = true ↔
    ∀ (i : Nat) (q : ProcStep), p[i]? = some q → stepCanFail q = true → i + k < exit := by
  induction p generalizing k with
  | nil => simp [failsBefore]
  | cons a p ih =>
    rw [failsBefore, Bool.and_eq_true, ih]
    constructor
    · rintro ⟨ha, hp⟩ i q hq hf
      cases i with
      | zero =>
        cases hq
        rw [hf] at ha
        simpa using ha
      | succ i => have := hp i q hq hf; omega
    · refine fun hall => ⟨?_, fun i q hq hf => ?_⟩
      · cases hf : stepCanFail a with
        | false => rfl
        | true => simpa using hall 0 a rfl hf
      · have := hall (i + 1) q hq hf; omega

/-- R18: the checks of a procedure. -/
theorem procedureAccepted_iff (exit : Option Nat) (p : List ProcStep) : procedureAccepted exit p = true ↔
    (1 ≤ p.length ∧ p.length ≤ 24)
      ∧ (∀ i : Nat, i < p.length → (p[i]? = some .finish ↔ i + 1 = p.length))
      ∧ (∀ q, q ∈ p → stepInRange q = true)
      ∧ (∀ (i : Nat) (q : ProcStep), p[i]? = some q → (stepIsLockoff q = true ∨ ∃ h, q = .holdSettle h) →
          ∃ (j : Nat) (m : ProcStep), j < i ∧ p[j]? = some m ∧ stepIsMove m = true)
      ∧ (∀ (i : Nat) (h : CreepParams), p[i]? = some (.holdCreep h) →
          ∃ (j : Nat) (m : MoveParams), j < i ∧ p[j]? = some (.loadTo m))
      ∧ (∀ (i j : Nat) (a b : LockParams), p[i]? = some (.lockoff a) → p[j]? = some (.lockoff b) → i = j)
      ∧ (∀ e, exit = some e → 1 ≤ e ∧ e ≤ 24 ∧ e ≤ p.length
          ∧ ∀ (i : Nat) (q : ProcStep), p[i]? = some q → stepCanFail q = true → i + 1 < e) := by
  have lock : (∀ (i j : Nat) (a b : ProcStep), p[i]? = some a → p[j]? = some b →
      stepIsLockoff a = true → stepIsLockoff b = true → i = j)
      ↔ ∀ (i j : Nat) (a b : LockParams), p[i]? = some (.lockoff a) → p[j]? = some (.lockoff b) → i = j := by
    simp only [stepIsLockoff_iff]
    exact ⟨fun hall i j a b ha hb => hall i j _ _ ha hb ⟨a, rfl⟩ ⟨b, rfl⟩,
      fun hall i j _ _ ha hb ⟨a, h⟩ ⟨b, k⟩ =>
      hall i j a b (h ▸ ha) (k ▸ hb)⟩
  unfold procedureAccepted
  rw [Bool.and_eq_true]
  refine (and_congr_right' (c := ∀ e, exit = some e → 1 ≤ e ∧ e ≤ 24 ∧ e ≤ p.length
      ∧ ∀ (i : Nat) (q : ProcStep), p[i]? = some q → stepCanFail q = true → i + 1 < e) ?_).trans ?_
  · cases exit with
    | none => simp
    | some e => simp [within_iff, failsBefore_iff, and_assoc]
  simp only [Bool.and_eq_true, within_iff, beq_iff_eq, Bool.not_eq_true', ← Bool.not_eq_true, List.all_eq_true,
    decide_eq_true_eq, countP_le_one_iff, procedureOrdered_nil_iff, lock]
  constructor
  · rintro ⟨⟨⟨⟨⟨⟨hlen, hl⟩, hn⟩, hr⟩, hm, hc⟩, hk⟩, hf⟩
    exact ⟨hlen, (finish_last_iff p hlen.1).1 ⟨hl, hn⟩, hr, hm, hc, hk, hf⟩
  · rintro ⟨hlen, hl, hr, hm, hc, hk, hf⟩
    obtain ⟨hl, hn⟩ := (finish_last_iff p hlen.1).2 hl
    exact ⟨⟨⟨⟨⟨⟨hlen, hl⟩, hn⟩, hr⟩, hm, hc⟩, hk⟩, hf⟩

/-! ### LOAD_CLASS -/

theorem classStressing_iff (s : State) (k : Nat) : classStressing s k = true ↔
    ∃ i ∈ slots96, (anchorAt s i).phase = .stressing ∧ (designOf s i).klass = k := by
  simp [classStressing]

/-- Settles O16, from the checks of LOAD_CLASS in their order and each check of a procedure apart. -/
theorem classesAreLoadedByTheirChecks : Obligations.ClassesAreLoadedByTheirChecks := by
  refine ⟨fun s tag k c h => ?_, procedureAccepted_iff⟩
  have hp := passDue_of_takesNow h
  show request tag 0x14 (actLoadClass k c) s = _
  rw [request_of_takesNow h, actLoadClass, respond_numbered _ _ _ hp]
  exact congrArg Host.Outcome.next (if_congr .rfl rfl (respond_check hp (classStressing_iff s k)
    (respond_check_last hp .rfl (respond_done_pass _ rfl))))

end Sys2Proof.Machine
end

section
/-! SUPPORT. The state that reset leaves and the release of the power-on reset line (R199), START_STRESS and HALT_CHANNEL
(R67, R86), CONFIG_PLACEMENT and START_PLACE (R115, R120), and the hand-out pass (R24). -/

namespace Sys2Proof.Machine

open Sys2Proof Sys2Proof.Config

/-! ### The state that reset leaves -/

/-- Every number of a collection of defaults reads the default, beyond the end too. -/
theorem look_replicate_default {α : Type} [Inhabited α] (n i : Nat) : look (Vector.replicate n (default : α)) i = default := by
  by_cases h : i < n
  · exact look_replicate _ i h
  · exact look_of_le _ i (by omega)

section
variable (straps : Nat) (line : Bool)

theorem ownerOf_power (a : Nat) : ownerOf (State.power straps line) a = none := by
  unfold ownerOf; split
  · exact look_replicate_default (α := Option Owner) 62 (a - 1)
  · rfl

theorem pollAt_power (e : Nat) : pollAt (State.power straps line) e = none :=
  look_replicate_default (α := Option Poll) 32 e

theorem lastSentAt_power (a : Nat) (k : CommandClass) : lastSentAt (State.power straps line) a k = none := by
  have h : look (State.power straps line).sched.lastSent (a - 1) = Vector.replicate 4 none :=
    look_replicate_default (α := Vector (Option Sent) 4) 62 (a - 1)
  rw [lastSentAt, h]
  exact look_replicate_default (α := Option Sent) 4 _

theorem failuresOf_power (a : Nat) : failuresOf (State.power straps line) a = 0 :=
  look_replicate_default (α := Nat) 62 (a - 1)

theorem holdsAnchor_power (n : Nat) : holdsAnchor (State.power straps line) n = false := by
  have h : (stressAt (State.power straps line) n).mode = .unbound := by
    by_cases hn : n < 4
    · rw [stressAt]; exact congrArg Stress.mode (look_replicate _ n hn)
    · rw [stressAt, look_of_le _ _ (by omega)]; rfl
  rw [holdsAnchor, h]

theorem tripsHold_power : tripsHold (State.power straps line) = false := by
  simp only [tripsHold, List.any_eq_false, counters8, List.mem_range]
  intro q hq
  have h : counterAt (State.power straps line) q = Counter.reset := look_replicate _ q hq
  rw [h]; decide

end

/-- R182: the log of the reset state holds nothing. -/
theorem occupancy_reset : occupancy State.reset.log = 0 := by decide

/-! ### A latching with nothing to halt -/

section
variable {s : State}

theorem haltStress_of_free {n : Nat} (cause : HaltCause) (h : holdsAnchor s n = false) : haltStress n cause s = s := by
  simp [haltStress, h]

theorem haltAllStress_of_free (cause : HaltCause) (h : ∀ n, holdsAnchor s n = false) : haltAllStress cause s = s := by
  simp [haltAllStress, channels4, haltStress_of_free, h]

theorem haltSweep_of_unowned (h : ∀ a, ownerOf s a = none) : haltSweep s = s := by
  unfold haltSweep
  generalize nodes62 = l
  induction l with
  | nil => rfl
  | cons a l ih => rw [List.foldl_cons, sweepNode, h a, ih]

theorem ownedCount_of_unowned (h : ∀ a, ownerOf s a = none) : ownedCount s = 0 := by
  simp [ownedCount, h]

theorem writeReserve_of_room {r : LogRecord} (h : occupancy s.log + recordLength r ≤ 2048) :
    writeReserve r s = s.onLog (appendRecord r) := if_pos h

/-- R196: where no unit is at work and no node is owned, the latching writes its record alone. -/
theorem latchEstop_of_free (hold : ∀ n, holdsAnchor s n = false) (idle : placementBusy s = false)
    (owner : ∀ a, ownerOf s a = none) (room : occupancy s.log = 0) :
    latchEstop s = (s.onStation fun t => { t with estop := true }).onLog (appendRecord
      { tick := now s, kind := .halt, unit := 6, slot := 255, detail := 30, data := [0] }) := by
  have hh : haltAllStress .estop (s.onStation fun t => { t with estop := true }) =
      s.onStation fun t => { t with estop := true } :=
    haltAllStress_of_free _ hold
  have hp : haltPlacement .estop (s.onStation fun t => { t with estop := true }) =
      s.onStation fun t => { t with estop := true } :=
    if_neg (by rw [show placementBusy (s.onStation _) = placementBusy s from rfl, idle]; nofun)
  have hs : haltSweep (s.onStation fun t => { t with estop := true }) = s.onStation fun t => { t with estop := true } :=
    haltSweep_of_unowned owner
  have hr : estopRecord (s.onStation fun t => { t with estop := true }) =
      { tick := now s, kind := .halt, unit := 6, slot := 255, detail := 30, data := [0] } := by
    rw [estopRecord, ownedCount_of_unowned (s := s.onStation fun t => { t with estop := true }) owner]; rfl
  unfold latchEstop
  dsimp only
  rw [hh, hp, hs, hr]
  refine writeReserve_of_room ?_
  rw [State.onStation_log, room]
  have := recordLength_le { tick := now s, kind := .halt, unit := 6, slot := 255, detail := 30, data := [0] }
  omega

end

/-- Settles O3, block by block, and the latching with nothing to halt. -/
theorem powerOnResetStartsEveryBlockAnew : Obligations.PowerOnResetStartsEveryBlockAnew := by
  constructor
  · refine ⟨fun slot h => look_replicate _ slot h, fun k h => look_replicate _ k h, rfl, rfl, fun m h => look_replicate _ m h,
      fun t h => look_replicate _ t h, rfl, rfl, rfl, fun c h => look_replicate _ c h, fun n h => look_replicate _ n h, rfl,
      fun x h => look_replicate _ x h, fun q h => look_replicate _ q h, rfl, rfl, rfl, rfl, rfl, rfl, rfl, rfl, rfl, rfl,
      ownerOf_power 1 false, rfl, rfl, rfl, rfl, rfl, rfl, pollAt_power 1 false, rfl, rfl, rfl, lastSentAt_power 1 false,
      failuresOf_power 1 false, rfl, rfl, rfl, rfl, rfl⟩
  · intro s straps hs
    have hm : straps % 64 = straps := Nat.mod_eq_of_lt hs
    constructor
    · show Host.Outcome.next (powerOn straps false s) = _
      rw [powerOn, hm]; rfl
    · show Host.Outcome.next (powerOn straps true s) = _
      rw [powerOn, hm]
      exact congrArg Host.Outcome.next (latchEstop_of_free (s := { State.power straps true with pending := s.pending })
        (holdsAnchor_power straps true) rfl (ownerOf_power straps true) occupancy_reset)

/-- Settles O4: the invariants at reset, and no row is due. -/
theorem resetMeetsTheInvariants : Obligations.ResetMeetsTheInvariants := by
  have hfree : ∀ a, ownerOf State.reset a = none := ownerOf_power 1 false
  refine ⟨?_, reset_logInOrder, ?_, ⟨?_, ?_, ?_⟩, (power_rest 1 false State.reset).2,
    (power_rest 1 false State.reset).1, ?_⟩
  · rintro (h | h)
    · cases h
    · exact absurd ((tripsHold_power 1 false).symm.trans h) nofun
  · exact ⟨Nat.zero_le _, Nat.zero_le _, List.nodup_nil, fun _ => Nat.le_refl 1⟩
  · exact ⟨Nat.zero_le _, List.nodup_nil, List.nodup_nil⟩
  · exact ⟨fun a n h => absurd ((hfree a).symm.trans h) nofun, fun a h => absurd ((hfree a).symm.trans h) nofun⟩
  · exact Nat.zero_le _
  · decide +kernel

/-! ### START_STRESS and HALT_CHANNEL -/

section
variable {s : State} (h : takesNow s) (tag n : Nat)
include h

/-- R86, R107: HALT_CHANNEL by the state of the channel. -/
theorem exec_haltChannel : exec (.haltChannel tag n) s = .next (
    if 3 < n then refused tag 0x35 .badValue s
    else match (stressAt s n).mode with
      | .unbound => refused tag 0x35 .notFound s
      | .idle => refused tag 0x35 .badPhase s
      | .locking => answered tag 0x35 none [] (s.onWork n fun w => { w with deferredHalt := true })
      | .running | .stalled | .frozen => afterPass (answered tag 0x35 none [] (haltRun n .station s))) := by
  have hp := passDue_of_takesNow h
  show request tag 0x35 (actHaltChannel n) s = _
  rw [request_of_takesNow h, actHaltChannel, respond_numbered _ _ _ hp]
  refine congrArg Host.Outcome.next (if_congr .rfl rfl ?_)
  have halted (hh : holdsAnchor s n = true) : respond tag 0x35 (done [] (haltStress n .station s)) =
      afterPass (answered tag 0x35 none [] (haltRun n .station s)) := by
    rw [haltStress, if_pos hh]; exact respond_done_pass _ rfl
  match hm : (stressAt s n).mode with
  | .unbound => exact respond_refuse _ hp
  | .idle => exact respond_refuse _ hp
  | .locking => exact respond_done _ hp
  | .running => exact halted (holdsAnchor_of_mode s hm rfl)
  | .stalled => exact halted (holdsAnchor_of_mode s hm rfl)
  | .frozen => exact halted (holdsAnchor_of_mode s hm rfl)

end

theorem ringUp_iff (s : State) : ringUp s = true ↔ s.ring.state = .up := by simp [ringUp]

/-- Settles O31, from the checks of START_STRESS in their order and HALT_CHANNEL by the channel's state. -/
theorem stressIsStartedAndHaltedByRequest : Obligations.StressIsStartedAndHaltedByRequest := by
  refine ⟨fun s tag n slot h => ?_, fun s tag n h => ?_⟩
  · have hp := passDue_of_takesNow h
    show request tag 0x34 (actStartStress n slot) s = _
    rw [request_of_takesNow h]
    refine congrArg Host.Outcome.next (respond_check hp ?_ (respond_check hp .rfl (respond_check hp .rfl
      (respond_check hp ?_ (respond_check hp .rfl (respond_check hp ?_ (respond_check hp ?_ (respond_check hp .rfl
      (respond_check hp ?_ (respond_done_run []))))))))))
    · simp only [Bool.not_eq_true', Bool.and_eq_false_iff, decide_eq_false_iff_not, Nat.not_le]
    · rw [Bool.not_eq_true', ← Bool.not_eq_true, ringUp_iff]
    · rw [Bool.not_eq_true', beq_eq_false_iff_ne]
    · rw [Bool.not_eq_true', beq_eq_false_iff_ne]
    · rw [Bool.not_eq_true']
  · rw [exec_haltChannel h]
    refine ⟨fun hn => by rw [if_pos hn], fun hn hm => ?_, fun hn hm => ?_, fun hn hm => ?_, fun hn hm => ?_⟩ <;>
      rw [if_neg (by omega)]
    · rw [hm]
    · rw [hm]
    · rw [hm]
    · obtain hm | hm | hm := hm <;> rw [hm]

/-! ### CONFIG_PLACEMENT and START_PLACE -/

theorem placementBusy_iff (s : State) : placementBusy s = true ↔ s.placement.mode ≠ .idle := by
  rw [placementBusy, Bool.not_eq_true', beq_eq_false_iff_ne]

theorem freeFor_iff (s : State) (node : Nat) (o : Owner) :
    freeFor s node o = true ↔ ownerOf s node = none ∨ ownerOf s node = some o := by
  simp [freeFor]

/-- The configuration taken, with a recorded command kept where its node stays (R114, R115). -/
theorem configurePlacement_eq (c : PlacementConfig) (s : State) : configurePlacement c s =
    (((releaseNodes s).setOwner c.winchNode (some .pu)).setOwner c.pumpNode (some .pu)).onPlacement fun p =>
      { p with
        config := some c
        winchCommand := if s.placement.config.map (·.winchNode) = some c.winchNode then p.winchCommand else none
        pumpCommand := if s.placement.config.map (·.pumpNode) = some c.pumpNode then p.pumpCommand else none } := by
  simp only [configurePlacement, keptDrive, beq_iff_eq]

section
variable {s : State} (h : takesNow s) (tag : Nat)
include h

theorem exec_configPlacement (cfg : Option PlacementConfig) : exec (.configPlacement tag cfg) s = .next (
    if s.placement.mode ≠ .idle then refused tag 0x38 .busy s
    else match cfg with
      | none => answered tag 0x38 none [] (unconfigurePlacement s)
      | some c =>
        if ¬placementConfigInRange c = true then refused tag 0x38 .badValue s
        else if ¬placementKinds s c = true then refused tag 0x38 .badValue s
        else if freeFor s c.winchNode .pu = true ∧ freeFor s c.pumpNode .pu = true then
          answered tag 0x38 none [] (configurePlacement c s)
        else refused tag 0x38 .inUse s) := by
  have hp := passDue_of_takesNow h
  have hs (t : State) (a : Nat) (o : Option Owner) : (t.setOwner a o).passDue = t.passDue := by
    unfold State.setOwner; split <;> rfl
  have hr : (releaseNodes s).passDue = s.passDue := by
    unfold releaseNodes; split
    · rw [hs, hs]
    · rfl
  show request tag 0x38 (actConfigPlacement cfg) s = _
  rw [request_of_takesNow h]
  refine congrArg Host.Outcome.next (respond_check hp (placementBusy_iff s) ?_)
  cases cfg with
  | none => exact respond_done _ (hr.trans hp)
  | some c =>
    refine respond_check hp (by simp) (respond_check hp (by simp) (respond_check_last hp (by simp) (respond_done _ ?_)))
    rw [configurePlacement, State.onPlacement_passDue, hs, hs, hr, hp]

end

/-! What a run's commands and ordinary records touch. -/

section
variable (s : State)

@[simp] theorem present_passDue (a : Nat) (c : Command) (o : Owner) : (present a c o s).passDue = s.passDue := by
  unfold present; split <;> rfl

@[simp] theorem writeOrDrop_passDue (r : LogRecord) : (writeOrDrop r s).passDue = s.passDue := by
  unfold writeOrDrop; split <;> rfl

@[simp] theorem wantDrive_passDue (p : RunPhase) (d : Drive) : (wantDrive p d s).passDue = s.passDue := by
  unfold wantDrive recordDrive; split
  · rfl
  · split
    · exact present_passDue s _ _ _
    · rfl

theorem beginRun_passDue (p : RunPhase) (slot : Nat) : (beginRun p slot s).passDue = s.passDue := by
  simp only [beginRun, driveChoice, judgeStarved, zeroTotal, wantDrive_passDue, writeOrDrop_passDue, State.onRun_passDue,
    State.onChannel_passDue, State.onPlacement_passDue, State.onAnchor_passDue]

end

/-- Settles O40, from the checks of the two requests in their order. -/
theorem placementIsConfiguredAndStarted : Obligations.PlacementIsConfiguredAndStarted := by
  refine ⟨fun s tag h => ?_, fun s tag slot h => ?_⟩
  · simp only [exec_configPlacement h]
    refine ⟨fun cfg hm => by rw [if_pos hm], fun hm => ?_, fun c hm hc => ?_,
      fun c hm hc hk => ⟨fun hf => ?_, fun hw hu => ?_⟩⟩ <;>
      rw [if_neg (not_not.2 hm)]
    · rfl
    · obtain hc | hc := hc
      · rw [if_pos (by simp [hc])]
      · by_cases hb : placementConfigInRange c = true
        · rw [if_neg (not_not.2 hb), if_pos (by simp [hc])]
        · rw [if_pos hb]
    · rw [if_neg (not_not.2 hc), if_neg (not_not.2 hk), if_neg fun hb =>
        hf ⟨(freeFor_iff ..).1 hb.1, (freeFor_iff ..).1 hb.2⟩]
    · rw [if_neg (not_not.2 hc), if_neg (not_not.2 hk), if_pos ⟨(freeFor_iff ..).2 hw, (freeFor_iff ..).2 hu⟩]
      exact congrArg (fun t => Host.Outcome.next (answered tag 0x38 none [] t)) (configurePlacement_eq c s)
  · have hp := passDue_of_takesNow h
    have hb (p : RunPhase) : (beginRun p slot s).passDue = false := (beginRun_passDue s p slot).trans hp
    show request tag 0x3A (actStartPlace slot) s = _
    rw [request_of_takesNow h, actStartPlace, respond_numbered _ _ _ hp]
    refine congrArg Host.Outcome.next (if_congr .rfl rfl (respond_check hp .rfl (respond_check hp .rfl
      (respond_check hp ?_ (respond_check hp Option.isNone_iff_eq_none (respond_check hp Option.isNone_iff_eq_none
      (respond_check hp (placementBusy_iff s) ?_)))))))
    · rw [Bool.not_eq_true', ← Bool.not_eq_true, ringUp_iff]
    · rw [apply_ite (respond tag 0x3A)]
      exact if_congr .rfl (respond_done _ (hb _)) (respond_check_last hp .rfl (respond_done _ (hb _)))

end Sys2Proof.Machine
end

section
/-! SUPPORT. The halt of a stressing channel (R85) and the verdict of an END step (R110), each written as one record update. -/

namespace Sys2Proof.Machine

open Sys2Proof Sys2Proof.Config

/-! ### Single records after an update -/

section
variable {s : State}

theorem anchorAt_onAnchor_same {i : Nat} (h : i < 96) (f : Anchor → Anchor) :
    anchorAt (s.onAnchor i f) i = f (anchorAt s i) := by simp [anchorAt_onAnchor, h]

theorem anchorAt_onAnchor_other {i j : Nat} (h : j ≠ i) (f : Anchor → Anchor) :
    anchorAt (s.onAnchor i f) j = anchorAt s j := by simp [anchorAt_onAnchor, h.symm]

theorem stressAt_onStress_other {i j : Nat} (h : j ≠ i) (f : Stress → Stress) :
    stressAt (s.onStress i f) j = stressAt s j := by simp [stressAt_onStress, h.symm]

end

/-! ### The shared operations as record updates -/

section
variable (s : State) (n : Nat)

/-- R176: the scheduler's lists after a halt has been placed. -/
def schedAfterHalt (node : Nat) (c : Command) (o : Owner) : Sched :=
  { s.sched with
    priority := priorityWith s node c o s.sched.priority
    queue := s.sched.queue.filter fun e => !(e.node == node) }

/-- A halt that a stressing channel places is no command of the placement unit. -/
theorem placeHalt_sc (node : Nat) (c : Command) (m : Nat) :
    placeHalt node c (.sc m) s = { s with sched := schedAfterHalt s node c (.sc m) } := rfl

/-- R184, R185: the log after a reserve record. -/
def reserveLog (r : LogRecord) (l : TestLog) : TestLog :=
  if occupancy l + recordLength r ≤ 2048 then appendRecord r l else { l with overrun := true }

theorem writeReserve_eq (r : LogRecord) : writeReserve r s = s.onLog (reserveLog r) := by
  exact (apply_ite (fun l => { s with log := l }) (occupancy s.log + recordLength r ≤ 2048) _ _).symm

theorem filter_ne {α : Type} (f : α → Nat) (x : Nat) (l : List α) :
    (l.filter fun e => !(f e == x)) = l.filter fun e => f e ≠ x :=
  congrArg (fun p => List.filter p l) (funext fun e => by by_cases h : f e = x <;> simp [h])

/-! ### The withdrawal of a cell request (R55) -/

/-- R55: a pending request after a channel has left it. -/
def pendingWithout (p : Option CellRequest) : Option CellRequest :=
  p.bind fun r => if r.waiting.contains n then withdrawPending n r else some r

/-- R55: the converter and the cells after a channel has left the requests of a cell. -/
def gaugeWithout (c : Nat) (g : Gauge) : Gauge :=
  { g with
    cells := put g.cells c { look g.cells c with pending := pendingWithout n (look g.cells c).pending }
    inService := if g.cell = some c then g.inService.map (withoutWaiting n) else g.inService }

theorem withdrawRequest_eq (c : Nat) : withdrawRequest c n s = s.onGauge (gaugeWithout n c) := by
  by_cases h : s.gauge.cell = some c
  · refine (if_pos h : withdrawRequest c n s = _).trans ?_
    simp only [State.onGauge, gaugeWithout, if_pos h]; rfl
  · refine (if_neg h : withdrawRequest c n s = _).trans ?_
    simp only [State.onGauge, gaugeWithout, if_neg h]; rfl

theorem withdrawRequest_cellAt (c d : Nat) : cellAt (withdrawRequest c n s) d =
    if c = d ∧ c < 4 then { cellAt s c with pending := pendingWithout n (cellAt s c).pending } else cellAt s d := by
  rw [withdrawRequest_eq]
  exact look_put s.gauge.cells c d _

theorem withoutWaiting_eq (q : CellRequest) :
    withoutWaiting n q = { q with waiting := q.waiting.filter fun w => w ≠ n } :=
  congrArg (fun l => { q with waiting := l }) (filter_ne id n q.waiting)

theorem not_mem_withoutWaiting (q : CellRequest) : n ∉ (withoutWaiting n q).waiting := by
  simp [withoutWaiting]

variable {n}

theorem pendingWithout_of_not_mem {q : CellRequest} (h : n ∉ q.waiting) : pendingWithout n (some q) = some q := by
  simp [pendingWithout, h]

theorem pendingWithout_of_mem {q : CellRequest} (h : n ∈ q.waiting) : pendingWithout n (some q) =
    if q.waiting.filter (fun w => w ≠ n) = [] ∧ q.station = false ∧ q.survey = false then none
    else some { q with waiting := q.waiting.filter fun w => w ≠ n } := by
  have hc : q.waiting.contains n = true := List.contains_iff_mem.2 h
  rw [pendingWithout, Option.bind_some, if_pos hc, withdrawPending, withoutWaiting_eq]
  refine if_congr ?_ rfl rfl
  simp only [Bool.and_eq_true, List.isEmpty_iff, Bool.not_eq_true', and_assoc]

/-- No channel waits in the request that it has left. -/
theorem not_mem_of_pendingWithout {p : Option CellRequest} {q : CellRequest} (h : pendingWithout n p = some q) :
    n ∉ q.waiting := by
  match p with
  | none => cases h
  | some r =>
    by_cases hr : n ∈ r.waiting
    · rw [pendingWithout_of_mem hr] at h
      split at h
      · cases h
      · cases h; simp
    · rw [pendingWithout_of_not_mem hr] at h
      cases h; exact hr

end

/-! ### The halt and the verdict as one record update each -/

section
variable (s : State) (n : Nat)

theorem haltRun_eq (cause : HaltCause) : haltRun n cause s =
    { s with
      anchorTable := (haltAnchor (slotOf s n) cause s).anchorTable
      gauge := gaugeWithout n (bindingOf s n).cell s.gauge
      stress := (leaveAnchor n s).stress
      log := reserveLog (haltRecord s n cause) s.log
      sched := schedAfterHalt s (bindingOf s n).jack .jackHold (.sc n)
      passDue := true } := by
  unfold haltRun
  rw [placeHalt_sc, withdrawRequest_eq, writeReserve_eq]; rfl

theorem giveVerdict_eq : giveVerdict n s =
    { s with
      anchorTable := (verdictAnchor (slotOf s n) (workOf s n).pendingCause s).anchorTable
      stress := (leaveAnchor n s).stress
      log := reserveLog (verdictRecord s n) s.log
      sched := if (workOf s n).commanded = some .hold then s.sched
        else schedAfterHalt s (bindingOf s n).jack .jackHold (.sc n)
      passDue := true } := by
  unfold giveVerdict
  by_cases h : (workOf s n).commanded = some .hold
  · simp only [if_pos h, writeReserve_eq]; rfl
  · simp only [if_neg h, writeReserve_eq]; rfl

variable {n}

theorem leaveAnchor_same (h : n < 4) : stressAt (leaveAnchor n s) n = { stressAt s n with mode := .idle, work := Work.clear } :=
  stressAt_onStress_same (s := s) h fun c => { c with mode := .idle, work := Work.clear }

theorem leaveAnchor_other {m : Nat} (h : m ≠ n) : stressAt (leaveAnchor n s) m = stressAt s m :=
  stressAt_onStress_other (s := s) h fun c => { c with mode := .idle, work := Work.clear }

variable (n)

theorem stressAt_haltRun (cause : HaltCause) (m : Nat) : stressAt (haltRun n cause s) m = stressAt (leaveAnchor n s) m := by
  rw [haltRun_eq]; rfl

theorem anchorAt_haltRun (cause : HaltCause) (i : Nat) :
    anchorAt (haltRun n cause s) i = anchorAt (haltAnchor (slotOf s n) cause s) i := by
  rw [haltRun_eq]; rfl

theorem cellAt_haltRun (cause : HaltCause) (c : Nat) :
    cellAt (haltRun n cause s) c = cellAt (withdrawRequest (bindingOf s n).cell n s) c := by
  rw [haltRun_eq, withdrawRequest_eq]; rfl

end

theorem haltKind_eq_halt_iff (c : HaltCause) :
    haltKind c = .halt ↔ c = .station ∨ c = .estop ∨ c = .ring ∨ c = .restart := by cases c <;> decide

theorem haltKind_halt_or_fault (c : HaltCause) : haltKind c = .halt ∨ haltKind c = .fault := by cases c <;> decide

/-- Settles O32, from the halt as one record update. -/
theorem haltOfAChannelIsOneChange : Obligations.HaltOfAChannelIsOneChange := by
  intro s n cause hn b slot t
  have hg : t.gauge = gaugeWithout n b.cell s.gauge := by rw [show t = _ from haltRun_eq s n cause]
  have hstress (m : Nat) : stressAt t m = stressAt (leaveAnchor n s) m := stressAt_haltRun s n cause m
  have hanchor (i : Nat) : anchorAt t i = anchorAt (haltAnchor slot cause s) i := anchorAt_haltRun s n cause i
  have hs : t.sched = schedAfterHalt s b.jack .jackHold (.sc n) := by rw [show t = _ from haltRun_eq s n cause]
  have hcell (c : Nat) : cellAt t c =
      if b.cell = c ∧ b.cell < 4 then { cellAt s b.cell with pending := pendingWithout n (cellAt s b.cell).pending }
      else cellAt s c := (cellAt_haltRun s n cause c).trans (withdrawRequest_cellAt s n b.cell c)
  have own : cellAt t b.cell =
      if b.cell < 4 then { cellAt s b.cell with pending := pendingWithout n (cellAt s b.cell).pending }
      else cellAt s b.cell := (hcell b.cell).trans (if_congr (by simp) rfl rfl)
  have kept (h : pendingWithout n (cellAt s b.cell).pending = (cellAt s b.cell).pending) :
      cellAt t b.cell = cellAt s b.cell := by rw [own, h]; simp
  refine ⟨by rw [hstress, leaveAnchor_same s hn], ?_, fun m hm => (hstress m).trans (leaveAnchor_other s hm),
    fun i hi => (hanchor i).trans (anchorAt_onAnchor_other hi _), fun hslot hp => ?_, ?_, ?_, fun q hq => ?_, fun q _ hq => ?_,
    fun c hc => (hcell c).trans (if_neg fun h => hc h.1.symm), fun h => kept (by rw [h]; rfl),
    fun q hq hw => kept (by rw [hq, pendingWithout_of_not_mem hw]), fun hb q hq hw => ?_, ?_,
    ⟨haltRecord s n cause, rfl, rfl, rfl, rfl, haltKind_eq_halt_iff cause, haltKind_halt_or_fault cause, ?_⟩, ?_, ?_,
    frame_haltRun s n cause⟩
  · rw [workOf, hstress, leaveAnchor_same s hn]
  · rw [hanchor, haltAnchor, anchorAt_onAnchor_same hslot, hp]; rfl
  · rw [hs]; exact filter_ne QueueEntry.node _ _
  · rw [hs]; rfl
  · by_cases hb : b.cell < 4
    · rw [own, if_pos hb] at hq
      exact not_mem_of_pendingWithout hq
    · rw [own, if_neg hb, cellAt, look_of_le _ _ (Nat.le_of_not_lt hb)] at hq
      cases hq
  · rename_i hc
    rw [hg] at hc hq
    replace hq : s.gauge.inService.map (withoutWaiting n) = some q := (if_pos hc).symm.trans hq
    obtain ⟨r, -, rfl⟩ := Option.map_eq_some_iff.1 hq
    exact not_mem_withoutWaiting n r
  · rw [own, if_pos hb, hq, pendingWithout_of_mem hw]
  · rw [hg]
    exact if_congr .rfl (congrArg (fun f => Option.map f s.gauge.inService) (funext (withoutWaiting_eq n))) rfl
  · rw [show t = _ from haltRun_eq s n cause]; rfl
  · rw [show t = _ from haltRun_eq s n cause]
  · rw [hg]; rfl

theorem startJudgment_of_finish {s : State} {n : Nat} (h : stepOf s n = .finish) :
    startJudgment n s = (giveVerdict n s, .goesOn) := by rw [startJudgment, h]

/-- A judgment that goes on is carried out as it stands (R70). -/
theorem settleStep_goesOn (fuel n : Nat) (s : State) : settleStep fuel n (s, .goesOn) = s := by
  cases fuel with
  | zero => rfl
  | succ k => rw [settleStep, if_pos rfl]

/-- Settles O36, from the verdict as one record update. -/
theorem endGivesTheVerdict : Obligations.EndGivesTheVerdict := by
  intro s n hn hslot t cause
  have ht : t = _ := giveVerdict_eq s n
  have hstress : stressAt t n = { stressAt s n with mode := .idle, work := Work.clear } := by
    rw [ht]; exact leaveAnchor_same s hn
  refine ⟨?_, by rw [hstress], by rw [workOf, hstress], by rw [ht], fun h => ?_, fun h => ?_,
    ⟨verdictRecord s n, rfl, rfl, rfl, rfl, ?_, ?_⟩, by rw [ht], frame_giveVerdict s n, fun hf => ?_⟩
  · rw [ht]
    refine (anchorAt_onAnchor_same (s := s) hslot fun a =>
      { a with phase := if (workOf s n).pendingCause.isSome then .rejected else .accepted,
               verdictCause := (workOf s n).pendingCause }).trans ?_
    show _ = { anchorAt s (slotOf s n) with
      phase := if (workOf s n).pendingCause = none then .accepted else .rejected, verdictCause := (workOf s n).pendingCause }
    cases (workOf s n).pendingCause <;> rfl
  · rw [ht]; exact if_pos h
  · rw [ht]; dsimp only; rw [if_neg h]
    exact ⟨rfl, filter_ne QueueEntry.node _ _⟩
  · show ((workOf s n).pendingCause.map rejectDetail).getD 0 = match (workOf s n).pendingCause with
      | none => 0
      | some c => rejectDetail c
    cases (workOf s n).pendingCause <;> rfl
  · rw [ht]; rfl
  · have hj := startJudgment_of_finish hf
    exact ⟨hj, fun k => by rw [hj, settleStep_goesOn]⟩

end Sys2Proof.Machine
end

section
/-! SUPPORT. The hand-out pass (R24) and the admission of an anchor to a channel (R11, R66, R69): the order list through the
step machine, and a first step's choice, which moves the jack alone. -/

namespace Sys2Proof.Machine

open Sys2Proof Sys2Proof.Config

/-! ### The order list through the step machine -/

section
variable (s : State) (n : Nat)

@[simp] theorem present_anchorTable (node : Nat) (c : Command) (o : Owner) :
    (present node c o s).anchorTable = s.anchorTable := by unfold present; split <;> rfl

@[simp] theorem wantMotion_anchorTable (m : Motion) : (wantMotion n m s).anchorTable = s.anchorTable := by
  unfold wantMotion; split
  · rfl
  · split
    · exact present_anchorTable s _ _ _
    · rfl

@[simp] theorem writeOrDrop_anchorTable (r : LogRecord) : (writeOrDrop r s).anchorTable = s.anchorTable := by
  unfold writeOrDrop; split <;> rfl

@[simp] theorem writeOrHold_anchorTable (r : LogRecord) : (writeOrHold n r s).anchorTable = s.anchorTable := by
  unfold writeOrHold stall; split
  · rfl
  · exact wantMotion_anchorTable _ n _

@[simp] theorem enterStep_anchorTable (k : Nat) : (enterStep n k s).anchorTable = s.anchorTable := rfl

@[simp] theorem chooseDirection_anchorTable (f : Int) (ok : Bool) :
    (chooseDirection n f ok s).anchorTable = s.anchorTable := by
  unfold chooseDirection; split
  · split <;> rfl
  · rfl

@[simp] theorem holdAtStart_anchorTable (f : Int) : (holdAtStart n f s).anchorTable = s.anchorTable := by
  unfold holdAtStart; split <;> rfl

@[simp] theorem haltRun_order (cause : HaltCause) : (haltRun n cause s).anchorTable.order = s.anchorTable.order := by
  rw [haltRun_eq]; rfl

@[simp] theorem haltStress_order (cause : HaltCause) : (haltStress n cause s).anchorTable.order = s.anchorTable.order := by
  unfold haltStress; split
  · exact haltRun_order s n cause
  · rfl

@[simp] theorem presentSeat_order : (presentSeat n s).anchorTable.order = s.anchorTable.order := by
  unfold presentSeat openWindow; split
  · split
    · dsimp only; split
      · simp
      · simp
    · rfl
  · rfl

@[simp] theorem choose_order (f : Int) (ok : Bool) : (choose n f ok s).anchorTable.order = s.anchorTable.order := by
  unfold choose; dsimp only; split <;> simp

@[simp] theorem startChoice_order : (startChoice n s).anchorTable.order = s.anchorTable.order := by
  unfold startChoice; dsimp only; split <;> simp

@[simp] theorem judgeOutcome_order (o : OutcomeRecord) : (judgeOutcome n o s).1.anchorTable.order = s.anchorTable.order := by
  unfold judgeOutcome; split
  · split
    · simp
    · dsimp only; split
      · rfl
      · exact haltStress_order _ n _
  · split
    · simp
    · dsimp only; split
      · rfl
      · split <;> rfl
  · rfl

@[simp] theorem requestCell_order : (requestCell n s).1.anchorTable.order = s.anchorTable.order := by
  unfold requestCell recordOutcome joinRequest; dsimp only; split
  · split
    · simp
    · rfl
  · rw [searchCells_frame]; rfl

@[simp] theorem startJudgment_order : (startJudgment n s).1.anchorTable.order = s.anchorTable.order := by
  unfold startJudgment; split
  case h_5 => unfold apparentStep; dsimp only; split <;> rfl
  case h_6 => simp
  case h_8 => rw [giveVerdict_eq]; rfl
  all_goals exact startChoice_order s n

@[simp] theorem settleStep_order : ∀ (fuel : Nat) (p : State × StepEnd),
    (settleStep fuel n p).anchorTable.order = p.1.anchorTable.order
  | 0, (_, _) => rfl
  | fuel + 1, (s, e) => by
    unfold settleStep; dsimp only; split
    · rfl
    · split
      · rw [settleStep_order fuel, startJudgment_order]; simp [endStep]
      · simp [endStep]

/-- R11: the entry of an admitted anchor goes, and no other. -/
theorem admitTo_order (slot : Nat) :
    (admitTo n slot s).anchorTable.order = s.anchorTable.order.filter fun e => e ≠ slot := by
  have h : (admitTo n slot s).anchorTable.order = (admitAnchor slot s).anchorTable.order := by
    unfold admitTo startTest; dsimp only; split
    · simp
    · split <;> simp
  exact h.trans (filter_ne id slot _)

end

/-! ### What a pass looks for -/

section
variable (s : State)

theorem distance_eq (a b : Nat) : distance a b = ((a : Int) - b).natAbs := by unfold distance; omega

theorem excluded_iff (slot : Nat) : excluded s slot = true ↔
    ∃ i, i < 96 ∧ (anchorAt s i).phase = .stressing ∧ (designOf s i).row = (designOf s slot).row
      ∧ ((designOf s i).position - (designOf s slot).position : Int).natAbs ≤ s.anchorTable.exclusion := by
  simp only [excluded, slots96, List.any_eq_true, List.mem_range, Bool.and_eq_true, beq_iff_eq, decide_eq_true_eq,
    distance_eq, and_assoc]

theorem targetsBelow_iff (slot : Nat) : targetsBelow s slot = true ↔
    ∀ q f, q ∈ (classOf s slot).procedure → stepFactor q = some f →
      (designOf s slot).workingLoad * f / 1000 < (designOf s slot).hardLimit := by
  rw [targetsBelow, List.all_eq_true]
  constructor
  · intro h q f hq hf
    have hb := h q hq
    rw [hf] at hb
    exact of_decide_eq_true hb
  · intro h q hq
    match hf : stepFactor q with
    | none => rfl
    | some f => exact decide_eq_true (h q f hq hf)

/-- R24: an entry is eligible where it is READY and nothing holds it back (R22). -/
theorem eligible_iff (slot : Nat) : eligible s slot = true ↔
    (anchorAt s slot).phase = .ready ∧ ¬excluded s slot = true ∧ targetsBelow s slot = true := by
  rw [eligible, Bool.and_eq_true, beq_iff_eq, beq_iff_eq]
  refine and_congr_right fun hr => ?_
  rw [holdReason, if_neg (by rw [hr]; nofun)]
  cases excluded s slot <;> cases targetsBelow s slot <;> decide

theorem canReceive_iff (n : Nat) : canReceive s n = true ↔ (stressAt s n).mode = .idle ∧ (stressAt s n).autoTake = true := by
  rw [canReceive, Bool.and_eq_true, beq_iff_eq]

theorem passOpen_iff : passOpen s = true ↔ s.trip.frozen = false ∧ s.station.estop = false ∧ s.ring.state = .up := by
  rw [passOpen, Bool.and_eq_true, Bool.and_eq_true, Bool.not_eq_true', Bool.not_eq_true', ringUp_iff, and_assoc]

variable {s}

theorem find?_channels4 {p : Nat → Bool} {n : Nat} (hn : n < 4) (h : p n = true) (first : ∀ m, m < n → p m = false) :
    channels4.find? p = some n := by
  have hc : channels4 = List.range 4 := rfl
  rw [hc, List.find?_range_eq_some]
  exact ⟨h, List.mem_range.2 hn, fun m hm => by rw [first m hm]; rfl⟩

/-- A pass finds nothing where no entry is eligible or no channel can receive. -/
theorem nextHandOut_none (h : nextHandOut s = none) :
    (∀ e ∈ s.anchorTable.order, eligible s e = false) ∨ ∀ n, n < 4 → canReceive s n = false := by
  unfold nextHandOut at h
  match ho : s.anchorTable.order.find? (eligible s), hc : channels4.find? (canReceive s) with
  | none, _ => exact .inl fun e he => Bool.not_eq_true _ ▸ List.find?_eq_none.1 ho e he
  | some _, none =>
    refine .inr fun n hn => Bool.not_eq_true _ ▸ List.find?_eq_none.1 hc n ?_
    rw [show channels4 = List.range 4 from rfl]; exact List.mem_range.2 hn
  | some slot, some n => rw [ho, hc] at h; cases h

/-! ### The fuel of a pass -/

/-- A hand-out takes its entry from the list. -/
theorem order_shrinks {n slot : Nat} (h : nextHandOut s = some (n, slot)) :
    (admitTo n slot s).anchorTable.order.length < s.anchorTable.order.length := by
  rw [admitTo_order]
  exact List.length_filter_lt_length_iff_exists.2 ⟨slot, List.mem_of_find?_eq_some (nextHandOut_spec h).1, by simp⟩

/-- With fuel for every entry a pass goes on until it finds nothing. -/
theorem nextHandOut_passLoop : ∀ (fuel : Nat) (s : State), s.anchorTable.order.length < fuel →
    nextHandOut (passLoop fuel s) = none
  | 0, _, h => absurd h (Nat.not_lt_zero _)
  | fuel + 1, s, h => by
    unfold passLoop; split
    · rename_i hn
      exact nextHandOut_passLoop fuel _ (by have := order_shrinks hn; omega)
    · assumption

/-- Any two fuels for every entry make the same pass. -/
theorem passLoop_fuel : ∀ (fuel more : Nat) (s : State), s.anchorTable.order.length < fuel →
    s.anchorTable.order.length < more → passLoop fuel s = passLoop more s
  | 0, _, _, h, _ => absurd h (Nat.not_lt_zero _)
  | _, 0, _, _, h => absurd h (Nat.not_lt_zero _)
  | fuel + 1, more + 1, s, h, k => by
    unfold passLoop; split
    · rename_i hn
      have := order_shrinks hn
      exact passLoop_fuel fuel more _ (by omega) (by omega)
    · rfl

theorem handOut_of_open (h : passOpen s = true) : handOut s = passLoop (s.anchorTable.order.length + 1) s := if_pos h

theorem passOpen_admitTo (n slot : Nat) : passOpen (admitTo n slot s) = passOpen s := by
  have h := frame_admit s n slot
  rw [passOpen, passOpen, ringUp, ringUp, h.trip, h.station, h.ring]

theorem handOut_of_next {n slot : Nat} (h : passOpen s = true) (hn : nextHandOut s = some (n, slot)) :
    handOut s = handOut (admitTo n slot s) := by
  have := order_shrinks hn
  rw [handOut_of_open h, handOut_of_open ((passOpen_admitTo n slot).trans h)]
  conv => lhs; unfold passLoop
  rw [hn]
  exact passLoop_fuel _ _ _ this (Nat.lt_succ_self _)

end

/-- Settles O19, with a pass unfolded by one hand-out. -/
theorem handOutPassGivesFirstEligible : Obligations.HandOutPassGivesFirstEligible := by
  refine ⟨fun s slot => ?_, canReceive_iff, fun s h => handOut_of_closed ?_,
    fun s before after slot n hf he hu ho hb hs hn hc hm => ?_, fun s hf he hu => ?_⟩
  · rw [eligible_iff, excluded_iff, targetsBelow_iff]
  · rw [← Bool.not_eq_true, passOpen_iff]
    rintro ⟨hf, he, hu⟩
    obtain h | h | h := h
    · rw [hf] at h; cases h
    · rw [he] at h; cases h
    · exact h hu
  · refine handOut_of_next ((passOpen_iff s).2 ⟨hf, he, hu⟩) ?_
    have hfind : s.anchorTable.order.find? (eligible s) = some slot := by
      rw [ho, List.find?_append, List.find?_eq_none.2 fun e h => by rw [hb e h]; nofun, Option.none_or, List.find?_cons, hs]
    rw [nextHandOut, hfind, find?_channels4 hn hc hm]
  · rw [handOut_of_open ((passOpen_iff s).2 ⟨hf, he, hu⟩)]
    exact nextHandOut_none (nextHandOut_passLoop _ s (Nat.lt_succ_self _))

/-! ### A change that moves the jack alone -/

/-- The working data with another motion commanded. -/
def moved (c : Option Motion) (h : Bool) (w : Work) : Work := { w with commanded := c, holdReached := h }

/-- The change touches the commanded motion and the hold reached of channel `n` and the scheduler's queue, and nothing
else. -/
def MotionOnly (n : Nat) (s t : State) : Prop :=
  ∃ (c : Option Motion) (h : Bool) (d : Sched),
    t = { s.onWork n (moved c h) with sched := d }

theorem put_put {α : Type} {k : Nat} (v : Vector α k) (i : Nat) (a b : α) : put (put v i a) i b = put v i b := by
  simp [put]

theorem onWork_onWork (s : State) (n : Nat) (f g : Work → Work) : (s.onWork n f).onWork n g = s.onWork n fun w => g (f w) := by
  by_cases hn : n < 4
  · simp only [State.onWork, State.onStress, put_put, look_put_same _ _ _ hn]
  · simp only [State.onWork, State.onStress, put_of_le _ _ _ (Nat.le_of_not_lt hn)]

namespace MotionOnly

variable {n : Nat} {s t u : State}

theorem refl (n : Nat) (s : State) : MotionOnly n s s := by
  refine ⟨(workOf s n).commanded, (workOf s n).holdReached, s.sched, ?_⟩
  exact congrArg (fun v => { s with stress := v }) (put_look s.stress n).symm

theorem trans (h : MotionOnly n s t) (k : MotionOnly n t u) : MotionOnly n s u := by
  obtain ⟨c, b, d, rfl⟩ := h
  obtain ⟨c', b', d', rfl⟩ := k
  exact ⟨c', b', d', congrArg (fun v => { s with stress := v.stress, sched := d' })
    (onWork_onWork s n (moved c b) (moved c' b'))⟩

theorem anchorTable (h : MotionOnly n s t) : t.anchorTable = s.anchorTable := by obtain ⟨_, _, _, rfl⟩ := h; rfl

theorem log (h : MotionOnly n s t) : t.log = s.log := by obtain ⟨_, _, _, rfl⟩ := h; rfl

/-- The channel with another motion commanded. -/
theorem stressAt (h : MotionOnly n s t) (hn : n < 4) : ∃ c b,
    Machine.stressAt t n = { Machine.stressAt s n with work := moved c b (workOf s n) } := by
  obtain ⟨c, b, _, rfl⟩ := h
  exact ⟨c, b, stressAt_onStress_same (s := s) hn fun x => { x with work := moved c b x.work }⟩

theorem stepOf (h : MotionOnly n s t) (hn : n < 4) : Machine.stepOf t n = Machine.stepOf s n := by
  obtain ⟨c, b, hs⟩ := h.stressAt hn
  have ha := h.anchorTable
  simp only [Machine.stepOf, classOf, classAt, designOf, anchorAt, slotOf, workOf, hs, ha, moved]

end MotionOnly

theorem motionOnly_wantMotion (n : Nat) (m : Motion) (s : State) : MotionOnly n s (wantMotion n m s) := by
  unfold wantMotion present; split
  · exact .refl n s
  · split
    · exact ⟨_, _, _, rfl⟩
    · exact .refl n s

theorem motionOnly_holdAtStart (n : Nat) (f : Int) (s : State) : MotionOnly n s (holdAtStart n f s) := by
  unfold holdAtStart; split
  · exact ⟨_, _, _, rfl⟩
  · exact .refl n s

/-! ### Command choices outside the approach of a LOCKOFF -/

/-- The channel is not in the approach of a LOCKOFF (R100). -/
def NoApproach (s : State) (n : Nat) : Prop := ∀ p, stepOf s n = .lockoff p → (workOf s n).progress ≠ some .approach

section
variable {s t : State} {n : Nat}

theorem noApproach_of_step (h : ∀ p, stepOf s n ≠ .lockoff p) : NoApproach s n := fun p hp => absurd hp (h p)

theorem MotionOnly.noApproach (h : MotionOnly n s t) (hn : n < 4) (k : NoApproach s n) : NoApproach t n := by
  intro p hp
  obtain ⟨c, b, hs⟩ := h.stressAt hn
  rw [workOf, hs]
  exact k p ((h.stepOf hn).symm.trans hp)

theorem chooseDirection_of_noApproach (h : NoApproach s n) (f : Int) (ok : Bool) : chooseDirection n f ok s = s := by
  unfold chooseDirection; split
  case h_1 p hp => exact if_neg (by simp [h p hp])
  case h_2 => rfl

theorem presentSeat_of_noApproach (h : NoApproach s n) : presentSeat n s = s := by
  unfold presentSeat; split
  case h_1 p hp => exact if_neg (by simp [h p hp])
  case h_2 => rfl

/-- R68: outside an approach a command choice moves the jack, and nothing else. -/
theorem motionOnly_choose (hn : n < 4) (h : NoApproach s n) (f : Int) (ok : Bool) : MotionOnly n s (choose n f ok s) := by
  rw [choose, chooseDirection_of_noApproach h]
  match wanted s n f ok with
  | none =>
    show MotionOnly n s (presentSeat n s)
    rw [presentSeat_of_noApproach h]
    exact .refl n s
  | some m =>
    have hm := motionOnly_wantMotion n m s
    show MotionOnly n s (presentSeat n (wantMotion n m s))
    rwa [presentSeat_of_noApproach (hm.noApproach hn h)]

theorem motionOnly_chooseStanding (hn : n < 4) (h : NoApproach s n) : MotionOnly n s (chooseStanding n s) := by
  unfold chooseStanding; dsimp only; split
  · exact motionOnly_choose hn h _ _
  · exact .refl n s

theorem motionOnly_startChoice (hn : n < 4) (h : NoApproach s n) : MotionOnly n s (startChoice n s) := by
  unfold startChoice; dsimp only; split
  · have hh := motionOnly_holdAtStart n (valueOf s (bindingOf s n).force) s
    rw [chooseDirection_of_noApproach h]
    exact hh.trans (motionOnly_choose hn (hh.noApproach hn h) _ _)
  · exact .refl n s

/-- R69, R73: the start judgment of a LOAD_TO moves the jack, and nothing else. -/
theorem motionOnly_startJudgment {p : MoveParams} (hn : n < 4) (h : stepOf s n = .loadTo p) :
    ∃ t, startJudgment n s = (t, .goesOn) ∧ MotionOnly n s t :=
  ⟨startChoice n s, by rw [startJudgment, h],
    motionOnly_startChoice hn (noApproach_of_step fun q hq => by rw [h] at hq; cases hq)⟩

end

/-! ### The start of a test -/

/-- The channel with a READY anchor taken, its START record still to be written. -/
def taken (n slot : Nat) (s : State) : State :=
  (admitAnchor slot s).onStress n fun c => { c with mode := .running, work := { Work.clear with slot := some slot } }

/-- The channel at the start of its first step. -/
def begun (n slot : Nat) (s : State) : State :=
  enterStep n 1 (writeOrHold n (startRecord (taken n slot s) n) (taken n slot s))

section
variable {s : State} {n slot : Nat}

theorem admitTo_eq : admitTo n slot s =
    if !isFresh (begun n slot s) (bindingOf (begun n slot s) n).force
        || !isFresh (begun n slot s) (bindingOf (begun n slot s) n).extension then
      haltRun n .sensorStale (begun n slot s)
    else if (stressAt (begun n slot s) n).mode = .running then
      settleStep stepFuel n (startJudgment n (begun n slot s))
    else (begun n slot s).onWork n fun w => { w with startOwing := true } := rfl

theorem frame_begun : TestFrame s (begun n slot s) :=
  (frame_enterStep _ n 1).after ((frame_writeOrHold _ n _).after ((frame_onStress _ n _).after (frame_admitAnchor s slot)))

theorem begun_fresh (m : Nat) : isFresh (begun n slot s) m = isFresh s m := by
  rw [isFresh, channelAt_of_measure (frame_begun (n := n) (slot := slot)).measure, isFresh]

theorem begun_binding : bindingOf (begun n slot s) n = bindingOf s n := by
  rw [bindingOf, frame_begun.binding, bindingOf]

theorem taken_stress (hn : n < 4) : stressAt (taken n slot s) n =
    { stressAt s n with mode := .running, work := { Work.clear with slot := some slot } } :=
  stressAt_onStress_same (s := admitAnchor slot s) hn fun c =>
    { c with mode := .running, work := { Work.clear with slot := some slot } }

theorem begun_anchor (h : slot < 96) : anchorAt (begun n slot s) slot = { anchorAt s slot with phase := .stressing } := by
  have ha : (begun n slot s).anchorTable = (admitAnchor slot s).anchorTable := writeOrHold_anchorTable _ n _
  rw [anchorAt, ha]
  exact anchorAt_onAnchor_same h fun a => { a with phase := .stressing }

theorem enterStep_stress (hn : n < 4) (k : Nat) : stressAt (enterStep n k s) n =
    { stressAt s n with
      work := withTarget (s.onWork n (stepWork k)) n (stepWork k (workOf s n)) (stepOf (s.onWork n (stepWork k)) n) } := by
  rw [enterStep]; dsimp only
  rw [onWork_onWork]
  exact stressAt_onStress_same hn _

/-- A step sets its target items and its progress, and nothing else (R69). -/
theorem withTarget_keeps (s : State) (n : Nat) (w : Work) (p : ProcStep) : ∃ a b c d,
    withTarget s n w p = { w with target := a, tolerance := b, direction := c, progress := d } := by
  cases p <;> exact ⟨_, _, _, _, rfl⟩

end

section
variable {s t : State} {n slot : Nat}

theorem TestFrame.designOf (h : TestFrame s t) (i : Nat) : Machine.designOf t i = Machine.designOf s i := by
  rw [Machine.designOf, h.design, Machine.designOf]

theorem TestFrame.classOf (h : TestFrame s t) (i : Nat) : Machine.classOf t i = Machine.classOf s i := by
  rw [Machine.classOf, h.designOf, classAt, h.classes]; rfl

/-- The step of a channel at work, by the class of its anchor before the change. -/
theorem TestFrame.stepOf (h : TestFrame s t) {k : Nat} (hs : (workOf t n).slot = some slot) (hk : (workOf t n).step = some k) :
    Machine.stepOf t n = ((Machine.classOf s slot).procedure[k - 1]?).getD .finish := by
  rw [Machine.stepOf, slotOf, hs, hk, Option.getD_some, Option.getD_some, h.classOf]

/-- R66: the START record of an admission. -/
theorem startRecord_taken (hn : n < 4) : startRecord (taken n slot s) n =
    { tick := now s, kind := .start, unit := n, slot := slot, detail := 0
      data := be 2 (designOf s slot).anchorId ++ be 1 (designOf s slot).klass } := by
  have hs : slotOf (taken n slot s) n = slot := by rw [slotOf, workOf, taken_stress hn]; rfl
  have hd : designOf (taken n slot s) slot = designOf s slot :=
    ((frame_onStress _ n _).after (frame_admitAnchor s slot) : TestFrame s (taken n slot s)).designOf slot
  rw [startRecord, hs, hd]; rfl

/-- R66, R89: a channel whose START record the log does not take stalls in step 1 and holds it. -/
theorem begun_stalled (hn : n < 4) (full : 2016 ≤ occupancy s.log) : (begun n slot s).log = s.log ∧
    (stressAt (begun n slot s) n).mode = .stalled ∧ (workOf (begun n slot s) n).slot = some slot
      ∧ (workOf (begun n slot s) n).step = some 1
      ∧ (workOf (begun n slot s) n).held = some (startRecord (taken n slot s) n) := by
  have room : ordinaryRoom (taken n slot s).log = false := decide_eq_false (Nat.not_lt.2 full)
  have hw : writeOrHold n (startRecord (taken n slot s) n) (taken n slot s) =
      stall n (startRecord (taken n slot s) n) (taken n slot s) := if_neg (by rw [room]; nofun)
  rw [begun, hw, workOf, enterStep_stress hn, workOf, stall]
  generalize hu : (taken n slot s).onStress n _ = u
  have hm := motionOnly_wantMotion n .hold u
  obtain ⟨c, b, hs⟩ := hm.stressAt hn
  have hus : stressAt u n = { stressAt s n with
      mode := .stalled
      work := { Work.clear with slot := some slot, held := some (startRecord (taken n slot s) n) } } := by
    rw [← hu, stressAt_onStress_same hn, taken_stress hn]
  obtain ⟨_, _, _, _, ht⟩ := withTarget_keeps ((wantMotion n .hold u).onWork n (stepWork 1)) n
    (stepWork 1 (stressAt (wantMotion n .hold u) n).work) (stepOf ((wantMotion n .hold u).onWork n (stepWork 1)) n)
  rw [ht, hs, workOf, hus]
  refine ⟨?_, rfl, rfl, rfl, rfl⟩
  exact hm.log.trans (by rw [← hu]; rfl)

theorem begun_slot (hn : n < 4) : slotOf (begun n slot s) n = slot := by
  by_cases full : 2016 ≤ occupancy s.log
  · rw [slotOf, (begun_stalled hn full).2.2.1]; rfl
  · have hw : writeOrHold n (startRecord (taken n slot s) n) (taken n slot s) =
        (taken n slot s).onLog (appendRecord (startRecord (taken n slot s) n)) :=
      if_pos (decide_eq_true (Nat.lt_of_not_le full))
    rw [slotOf, workOf, begun, hw, enterStep_stress hn]
    dsimp only
    rw [withTarget_slot]
    exact congrArg (fun c : Stress => c.work.slot.getD 0) (taken_stress hn)

/-- R66, R69: a channel whose START record is written runs in step 1, a LOAD_TO with its target set. -/
theorem begun_running (hn : n < 4) (room : occupancy s.log < 2016) {p : MoveParams}
    (hp : (classOf s slot).procedure[0]? = some (.loadTo p)) :
    (begun n slot s).log = appendRecord (startRecord (taken n slot s) n) s.log
      ∧ stressAt (begun n slot s) n = { stressAt s n with
          mode := .running
          work := { stepWork 1 { Work.clear with slot := some slot } with
            target := some ((designOf s slot).workingLoad * p.target / 1000 : Nat), tolerance := some p.tolerance
            direction := some .load } }
      ∧ stepOf (begun n slot s) n = .loadTo p := by
  have hr : ordinaryRoom (taken n slot s).log = true := decide_eq_true room
  have hw : writeOrHold n (startRecord (taken n slot s) n) (taken n slot s) =
      (taken n slot s).onLog (appendRecord (startRecord (taken n slot s) n)) := if_pos hr
  have hb : begun n slot s = enterStep n 1 ((taken n slot s).onLog (appendRecord (startRecord (taken n slot s) n))) := by
    rw [begun, hw]
  generalize hu : (taken n slot s).onLog _ = u at hb
  have hf : TestFrame s (u.onWork n (stepWork 1)) := by
    rw [← hu]
    exact (frame_onWork _ n _).after ((frame_onLog _ _).after ((frame_onStress _ n _).after (frame_admitAnchor s slot)))
  have hus : stressAt u n = { stressAt s n with mode := .running, work := { Work.clear with slot := some slot } } := by
    rw [← hu]; exact taken_stress hn
  have hus1 : workOf (u.onWork n (stepWork 1)) n = stepWork 1 { Work.clear with slot := some slot } := by
    rw [workOf, State.onWork, stressAt_onStress_same hn, hus]
  have hstep : stepOf (u.onWork n (stepWork 1)) n = .loadTo p := by
    rw [hf.stepOf (slot := slot) (k := 1) (by rw [hus1]; rfl) (by rw [hus1]; rfl), hp]; rfl
  have hst : stressAt (begun n slot s) n = { stressAt s n with
      mode := .running
      work := { stepWork 1 { Work.clear with slot := some slot } with
        target := some ((designOf s slot).workingLoad * p.target / 1000 : Nat), tolerance := some p.tolerance
        direction := some .load } } := by
    rw [hb, enterStep_stress hn, hstep, workOf, hus, withTarget, targetForce, slotOf, hus1]
    show _ = _
    rw [show (stepWork 1 { Work.clear with slot := some slot }).slot.getD 0 = slot from rfl, hf.designOf]; rfl
  refine ⟨?_, hst, ?_⟩
  · rw [hb, ← hu]; rfl
  · rw [frame_begun.stepOf (slot := slot) (k := 1) (by rw [workOf, hst]; rfl) (by rw [workOf, hst]; rfl), hp]; rfl

end

/-- Settles O20: the order list, and the three ways in which an admission begins a test. -/
theorem admissionStartsTheTest : Obligations.AdmissionStartsTheTest := by
  intro s n slot hn hslot start t fresh
  have hstart : startRecord (taken n slot s) n = start := startRecord_taken hn
  have hanchor := begun_anchor (s := s) (n := n) hslot
  have hphase : (anchorAt (begun n slot s) slot).phase = .stressing := by rw [hanchor]
  have hfresh : ((!isFresh (begun n slot s) (bindingOf (begun n slot s) n).force
      || !isFresh (begun n slot s) (bindingOf (begun n slot s) n).extension) = true) ↔ ¬fresh := by
    rw [begun_binding, begun_fresh, begun_fresh]
    simp only [Bool.or_eq_true, Bool.not_eq_true', fresh, not_and_or, Bool.not_eq_true]
  refine ⟨admitTo_order s n slot, fun hf => ?_, fun hf full => ?_, fun hf room p hp => ?_⟩
  · have ht : t = haltRun n .sensorStale (begun n slot s) := admitTo_eq.trans (if_pos (hfresh.2 hf))
    rw [workOf, ht, stressAt_haltRun, leaveAnchor_same _ hn, anchorAt_haltRun, begun_slot hn, haltAnchor,
      anchorAt_onAnchor_same hslot, hanchor]
    exact ⟨rfl, rfl, rfl, rfl, rfl⟩
  · obtain ⟨hlog, hm, hs, hk, hh⟩ := begun_stalled (slot := slot) hn full
    have ht : t = (begun n slot s).onWork n fun w => { w with startOwing := true } :=
      admitTo_eq.trans ((if_neg (hfresh.not.2 (not_not.2 hf))).trans (if_neg (by rw [hm]; nofun)))
    rw [workOf, ht, ← hstart, show stressAt (State.onWork _ n _) n = _ from stressAt_onStress_same hn _]
    have hslots := congrArg AnchorTable.slots ((begun n slot s).onWork_anchorTable n fun w => { w with startOwing := true })
    exact ⟨(congrArg Anchor.phase (anchorAt_of_slots hslots slot)).trans hphase, hm, hs, hk, rfl, hh, hlog⟩
  · obtain ⟨hlog, hst, hstep⟩ := begun_running (slot := slot) hn room hp
    obtain ⟨u, hu, hm⟩ := motionOnly_startJudgment hn hstep
    have ht : t = u := by
      refine admitTo_eq.trans ((if_neg (hfresh.not.2 (not_not.2 hf))).trans ((if_pos (by rw [hst])).trans ?_))
      rw [hu, settleStep_goesOn]
    obtain ⟨c, b, hs⟩ := hm.stressAt hn
    rw [workOf, ht, hs, workOf, hst, ← hstart, hm.log, hlog, anchorAt, hm.anchorTable]
    exact ⟨hphase, rfl, rfl, rfl, rfl, rfl, rfl, rfl, rfl, rfl, rfl⟩

end Sys2Proof.Machine
end

section
/-! SUPPORT. The placement unit's commands and records as record updates, and the halt and the points of a run (R117, R118,
R123, R131, R133). -/

namespace Sys2Proof.Machine

open Sys2Proof Sys2Proof.Config

/-! ### Reading the unit -/

section
variable {s : State} {c : PlacementConfig} {r : Run}

theorem runOf_of_run (h : s.placement.run = some r) : runOf s = r := by rw [runOf, h]; rfl

theorem placementConfig_of_config (h : s.placement.config = some c) : placementConfig s = c := by
  rw [placementConfig, h]; rfl

theorem onRun_of_run (h : s.placement.run = some r) (f : Run → Run) :
    s.onRun f = s.onPlacement fun p => { p with run := some (f r) } := by
  rw [State.onRun, State.onPlacement, h]; rfl

theorem runPhase_of_paused {p : RunPhase} (h : s.placement.mode = .paused) (hr : s.placement.run = some r)
    (hp : r.pausedFrom = some p) : runPhase s = p := by
  rw [runPhase, h, runOf_of_run hr, hp]; rfl

theorem driveNode_of_config (h : s.placement.config = some c) (p : RunPhase) :
    driveNode s p = match p with
      | .winching => c.winchNode
      | .grouting => c.pumpNode := by
  cases p
  · exact congrArg PlacementConfig.winchNode (placementConfig_of_config h)
  · exact congrArg PlacementConfig.pumpNode (placementConfig_of_config h)

end

/-! ### Commands and records as record updates -/

section
variable (s : State)

/-- R184: the log after an ordinary record that is dropped where it is not taken. -/
def ordinaryLog (r : LogRecord) (l : TestLog) : TestLog := if occupancy l < 2016 then appendRecord r l else l

theorem writeOrDrop_eq (r : LogRecord) : writeOrDrop r s = s.onLog (ordinaryLog r) := by
  by_cases h : occupancy s.log < 2016
  · refine (if_pos (decide_eq_true h) : writeOrDrop r s = _).trans ?_
    simp only [State.onLog, ordinaryLog, if_pos h]
  · refine (if_neg (by rw [show ordinaryRoom s.log = false from decide_eq_false h]; nofun) : writeOrDrop r s = _).trans ?_
    simp only [State.onLog, ordinaryLog, if_neg h]

theorem recordedDrive_recordDrive (p : RunPhase) (d : Drive) : recordedDrive (recordDrive p d s) p = some d := by
  cases p <;> rfl

/-- R131, R176: a stop by the priority route is the recorded command of its node at once. -/
theorem stopByPriority_eq (p : RunPhase) : stopByPriority p s =
    recordDrive p .stop { s with sched := schedAfterHalt s (driveNode s p) (driveCommand p .stop) .pu } := by
  cases p
  · exact if_pos rfl
  · exact if_pos rfl

/-- R118: the scheduler's lists after the stop that ends a run. -/
def schedAfterStop (p : RunPhase) : Sched :=
  if queueTakes s (driveNode s p) (driveCommand p .stop) then
    { s.sched with queue := queueWith (now s) (driveNode s p) (driveCommand p .stop) .pu s.sched.queue }
  else schedAfterHalt s (driveNode s p) (driveCommand p .stop) .pu

theorem present_of_taken {node : Nat} {c : Command} (o : Owner) (h : queueTakes s node c = true) :
    present node c o s = s.onSched fun d => { d with queue := queueWith (now s) node c o d.queue } := if_pos h

theorem stopRun_eq (p : RunPhase) : stopRun p s = recordDrive p .stop { s with sched := schedAfterStop s p } := by
  by_cases h : queueTakes s (driveNode s p) (driveCommand p .stop) = true
  · refine (if_pos h : stopRun p s = _).trans ?_
    rw [present_of_taken s .pu h, schedAfterStop, if_pos h]; rfl
  · refine (if_neg h : stopRun p s = _).trans ?_
    rw [stopByPriority_eq, schedAfterStop, if_neg h]

/-- All that a wanted drive can do: nothing, or its presentation and its recording. -/
theorem wantDrive_cases (p : RunPhase) (d : Drive) : wantDrive p d s = s
    ∨ ∃ q : Sched, wantDrive p d s = recordDrive p d { s with sched := q } := by
  unfold wantDrive; split
  · exact .inl rfl
  · split
    case isTrue h => exact .inr ⟨_, by rw [present_of_taken s .pu h]; rfl⟩
    case isFalse => exact .inl rfl

end

/-! ### The halt of a run (R131) -/

section
variable {s : State} (cause : HaltCause)

/-- R131: the record of a halt. -/
def placementHaltRecord (s : State) : LogRecord :=
  placementRecord s (placementHaltKind cause) (causeDetail cause) (placementHaltData s)

/-- R131: the halt of a run as one record update. -/
theorem haltPlacementRun_eq : haltPlacementRun cause s =
    { s with
      anchorTable := (haltAnchor (runOf s).slot cause s).anchorTable
      placement := { (recordDrive (runPhase s) .stop s).placement with mode := .idle, run := none }
      log := reserveLog (placementHaltRecord cause s) s.log
      sched := schedAfterHalt s (driveNode s (runPhase s)) (driveCommand (runPhase s) .stop) .pu } := by
  rw [haltPlacementRun]
  rw [stopByPriority_eq, writeReserve_eq]; rfl

theorem placementHaltKind_eq : placementHaltKind cause = if cause = .estop ∨ cause = .ring then .halt else .fault := by
  cases cause <;> rfl

end

/-! ### What falls due -/

/-- A row that is due and whose effect starts no pass. -/
theorem takeDue_of_due {s : State} {d : Due} (h : isDue s d = true) (hp : (effect s d).passDue = false) :
    takeDue d s = effect s d := by rw [takeDue, if_pos h, runPass_of_none hp]

section
variable {s : State} {i : Nat} (cause : HaltCause)

theorem anchorAt_haltAnchor_same (h : i < 96) : anchorAt (haltAnchor i cause s) i =
    { anchorAt s i with
      phase := .halted, haltedFrom := some (haltedFromOf (anchorAt s i).phase), haltCause := some cause } :=
  anchorAt_onAnchor_same h _

theorem anchorAt_haltAnchor_other {j : Nat} (h : j ≠ i) : anchorAt (haltAnchor i cause s) j = anchorAt s j :=
  anchorAt_onAnchor_other h _

end

/-- R133: a point is written or skipped, and its counter is back at 0. -/
theorem placementPoint_eq {s : State} {r : Run} (h : s.placement.run = some r) : placementPoint s =
    (if occupancy s.log < 2016 then s.onLog (appendRecord (placementRecord s .point 0 (placementPointData s))) else s).onPlacement
      fun p => { p with run := some { r with pointCounter := 0 } } := by
  rw [placementPoint, writeOrDrop_eq, onRun_of_run (by exact h)]
  congr 1
  rw [State.onLog, ordinaryLog]
  split <;> rfl

/-- Settles O42, from the halt as one record update. -/
theorem placementRunsAreHaltedAndPointed : Obligations.PlacementRunsAreHaltedAndPointed := by
  refine ⟨fun s cause c r hc hr => ?_, fun s c r ht hp hc hr => ⟨fun hm he => ?_, fun hm h0 hi => ?_⟩⟩
  · intro p node stop t
    have heq : t = _ := haltPlacementRun_eq cause
    have hrun := runOf_of_run hr
    have hnode : driveNode s p = node := driveNode_of_config hc p
    have hstop : driveCommand p .stop = stop := by simp only [stop]; cases p <;> rfl
    have hconfig : (recordDrive p .stop s).placement.config = s.placement.config := by cases p <;> rfl
    have hdrive : recordedDrive t p = some .stop := by
      rw [heq]; exact recordedDrive_recordDrive s p .stop
    have hanchor (i : Nat) : anchorAt t i = anchorAt (haltAnchor r.slot cause s) i := by rw [heq, hrun]; rfl
    refine ⟨by rw [heq], by rw [heq], ?_, hdrive, fun hslot hphase => ?_, fun i hi => ?_, ?_,
      ⟨placementHaltRecord cause s, rfl, rfl, congrArg Run.slot hrun, rfl, placementHaltKind_eq cause, by rw [heq]; rfl⟩,
      by rw [heq], by rw [heq], by rw [heq], by rw [heq], by rw [heq], by rw [heq], by rw [heq]⟩
    · rw [heq]; exact hconfig.trans hc
    · rw [hanchor, anchorAt_haltAnchor_same cause hslot, hphase]
      cases p <;> rfl
    · rw [hanchor, anchorAt_haltAnchor_other cause hi]
    · rw [heq, ← hnode, ← hstop, ← filter_ne QueueEntry.node]; rfl
  · have hbusy : placementBusy s = true := placementBusy_of_mode hm nofun
    have hdue : isDue s .winchTimeout = true := by
      simp [isDue, winchExpired, ht, hm, placementConfig_of_config hc, runOf_of_run hr, he]
    have heff : effect s .winchTimeout = haltPlacementRun .winchTimeout s := if_pos hbusy
    show Host.Outcome.next (takeDue .winchTimeout s) = _
    rw [takeDue_of_due hdue (by rw [heff, haltPlacementRun_eq]; exact hp), heff]
  · have hdue : isDue s .placementPoint = true := by
      simp [isDue, placementPointDue, placementInterval, ht, runOf_of_run hr, h0, hi, hm]
    show Host.Outcome.next (takeDue .placementPoint s) = _
    rw [takeDue_of_due hdue (by rw [effect, placementPoint, writeOrDrop_eq]; exact hp), effect, placementPoint_eq hr]

end Sys2Proof.Machine
end

section
/-! SUPPORT. The judgments of a placement run (R119, R122, R124, R126 to R130): what ends it, what starves it, and what the
unit wants where it goes on. -/

namespace Sys2Proof.Machine

open Sys2Proof Sys2Proof.Config

/-! ### Judging a run -/

/-- The run with its starvation judged (R119). -/
def withStarved (r : Run) (b : Bool) (s : State) : State :=
  s.onPlacement fun p => { p with run := some { r with starved := b } }

section
variable {s : State} {c : PlacementConfig} {r : Run}

theorem judgeStarved_eq (hr : s.placement.run = some r) (p : RunPhase) :
    judgeStarved p s = withStarved r (starvedNow s p) s := onRun_of_run hr _

theorem starvedNow_winching (hc : s.placement.config = some c) : starvedNow s .winching = !isFresh s c.payout := by
  rw [starvedNow, placementConfig_of_config hc]

theorem starvedNow_grouting (hc : s.placement.config = some c) :
    starvedNow s .grouting = (!isFresh s c.flow || !isFresh s c.ret) := by
  rw [starvedNow, placementConfig_of_config hc]

/-- R119: a starved run wants its stop, and nothing else is judged. -/
theorem judgeRun_starved (hr : s.placement.run = some r) {p : RunPhase} (h : starvedNow s p = true) :
    judgeRun p s = wantDrive p .stop (withStarved r true s) := by
  unfold judgeRun
  rw [judgeStarved_eq hr, h]; rfl

/-- R122: a winching run that is not starved completes at its target, and goes on before it. -/
theorem judgeRun_winching (hc : s.placement.config = some c) (hr : s.placement.run = some r)
    (h : starvedNow s .winching = false) : judgeRun .winching s =
      if ((designOf s r.slot).insertionTarget : Int) ≤ valueOf s c.payout then completeWinching (withStarved r false s)
      else wantDrive .winching (.run r.speed) (withStarved r false s) := by
  have ht : targetReached (withStarved r false s) =
      decide (((designOf s r.slot).insertionTarget : Int) ≤ valueOf s c.payout) := by
    rw [targetReached, placementConfig_of_config (s := withStarved r false s) hc]; rfl
  unfold judgeRun
  rw [judgeStarved_eq hr, h]
  show (if targetReached (withStarved r false s) = true then _ else _) = _
  rw [ht]
  exact if_congr decide_eq_true_iff rfl rfl

/-- R126, R127: a grouting run that is not starved completes at its target with the return showing, is halted at its
maximum without it, and otherwise goes on. -/
theorem judgeRun_grouting (hc : s.placement.config = some c) (hr : s.placement.run = some r)
    (h : starvedNow s .grouting = false) : judgeRun .grouting s =
      if ((designOf s r.slot).groutTarget : Int) ≤ valueOf s c.flow ∧ 1 ≤ valueOf s c.ret then
        completeGrouting (withStarved r false s)
      else if ((designOf s r.slot).groutMax : Int) ≤ valueOf s c.flow ∧ valueOf s c.ret < 1 then
        haltPlacementRun .groutExcess (withStarved r false s)
      else wantDrive .grouting (.run r.speed) (withStarved r false s) := by
  have hp : placementConfig (withStarved r false s) = c := placementConfig_of_config hc
  have ht : returnShows (withStarved r false s) = decide (1 ≤ valueOf s c.ret) := by rw [returnShows, hp]; rfl
  unfold judgeRun
  rw [judgeStarved_eq hr, h]
  dsimp only
  rw [if_neg (show ¬(runOf (withStarved r false s)).starved = true from nofun), hp, ht]
  refine if_congr (and_congr .rfl decide_eq_true_iff) rfl (if_congr (and_congr .rfl ?_) rfl rfl)
  rw [decide_eq_false_iff_not, Int.not_le]

/-! ### The samples of a phase -/

theorem judgedChannel_winching (hc : s.placement.config = some c) (m : Nat) :
    judgedChannel s m .winching = true ↔ c.payout = m := by
  rw [judgedChannel, placementConfig_of_config hc, beq_iff_eq]

theorem judgedChannel_grouting (hc : s.placement.config = some c) (m : Nat) :
    judgedChannel s m .grouting = true ↔ c.flow = m ∨ c.ret = m := by
  rw [judgedChannel, placementConfig_of_config hc, Bool.or_eq_true, beq_iff_eq, beq_iff_eq]

theorem placementSample_winching (hc : s.placement.config = some c) (hm : s.placement.mode = .winching) (m : Nat) :
    placementSample m s = if c.payout = m then judgeRun .winching s else s := by
  rw [placementSample, hm]
  exact if_congr (judgedChannel_winching hc m) rfl rfl

theorem placementSample_grouting (hc : s.placement.config = some c) (hm : s.placement.mode = .grouting) (m : Nat) :
    placementSample m s = if c.flow = m ∨ c.ret = m then judgeRun .grouting s else s := by
  rw [placementSample, hm]
  exact if_congr (judgedChannel_grouting hc m) rfl rfl

theorem placementStale_winching (hc : s.placement.config = some c) (hm : s.placement.mode = .winching) (m : Nat) :
    placementStale m s = if c.payout = m then driveChoice .winching (judgeStarved .winching s) else s := by
  rw [placementStale, hm]
  exact if_congr (judgedChannel_winching hc m) rfl rfl

theorem placementStale_grouting (hc : s.placement.config = some c) (hm : s.placement.mode = .grouting) (m : Nat) :
    placementStale m s = if c.flow = m ∨ c.ret = m then driveChoice .grouting (judgeStarved .grouting s) else s := by
  rw [placementStale, hm]
  exact if_congr (judgedChannel_grouting hc m) rfl rfl

/-- R119: what a STALE channel of the phase makes the unit want. -/
theorem driveChoice_starved (hr : s.placement.run = some r) {p : RunPhase} (h : starvedNow s p = true) :
    driveChoice p (judgeStarved p s) = wantDrive p .stop (withStarved r true s) := by
  rw [judgeStarved_eq hr, h]; rfl

/-! ### A run begins -/

theorem wantDrive_anchorTable (p : RunPhase) (d : Drive) (s : State) :
    (wantDrive p d s).anchorTable = s.anchorTable := by
  obtain h | ⟨q, h⟩ := wantDrive_cases s p d
  · rw [h]
  · rw [h]; rfl

theorem wantDrive_mode (p : RunPhase) (d : Drive) (s : State) :
    (wantDrive p d s).placement.mode = s.placement.mode := by
  obtain h | ⟨q, h⟩ := wantDrive_cases s p d
  · rw [h]
  · rw [h]; cases p <;> rfl

theorem wantDrive_run (p : RunPhase) (d : Drive) (s : State) : (wantDrive p d s).placement.run = s.placement.run := by
  obtain h | ⟨q, h⟩ := wantDrive_cases s p d
  · rw [h]
  · rw [h]; cases p <;> rfl

theorem wantDrive_grouting_winchCommand (d : Drive) (s : State) :
    (wantDrive .grouting d s).placement.winchCommand = s.placement.winchCommand := by
  obtain h | ⟨q, h⟩ := wantDrive_cases s .grouting d
  · rw [h]
  · rw [h]; rfl

/-- The state of a run that begins, its first command apart (R121, R125). -/
def runBegun (p : RunPhase) (slot : Nat) (s : State) : State :=
  let s1 := (s.onAnchor slot fun a => { a with phase := phaseAnchor p }).onPlacement fun u =>
    { u with
      mode := phaseMode p
      run := some
        { slot := slot, pausedFrom := none, elapsed := 0, speed := phaseSpeed s p, starved := false
          pointCounter := 0 } }
  let s2 := zeroTotal (totalChannel s1 p) s1
  judgeStarved p (s2.onLog (ordinaryLog (placementRecord s2 .start 0
    (be 2 (designOf s2 slot).anchorId ++ be 1 (runPhaseCode p) ++ beInt 3 (valueOf s1 (totalChannel s1 p))
      ++ be 1 (runOf s2).speed))))

theorem beginRun_eq (p : RunPhase) (slot : Nat) (s : State) :
    beginRun p slot s = wantDrive p (wantedDrive (runOf (runBegun p slot s))) (runBegun p slot s) := by
  rw [beginRun]
  rw [writeOrDrop_eq]; rfl

theorem beginRun_anchorTable (p : RunPhase) (slot : Nat) (s : State) :
    (beginRun p slot s).anchorTable = (s.onAnchor slot fun a => { a with phase := phaseAnchor p }).anchorTable := by
  rw [beginRun_eq, wantDrive_anchorTable]; rfl

theorem beginRun_mode (p : RunPhase) (slot : Nat) (s : State) : (beginRun p slot s).placement.mode = phaseMode p := by
  rw [beginRun_eq, wantDrive_mode]; rfl

theorem beginRun_slot (p : RunPhase) (slot : Nat) (s : State) :
    (beginRun p slot s).placement.run.map (·.slot) = some slot := by
  rw [beginRun_eq, wantDrive_run]; rfl

theorem beginRun_grouting_winchCommand (slot : Nat) (s : State) :
    (beginRun .grouting slot s).placement.winchCommand = s.placement.winchCommand := by
  rw [beginRun_eq, wantDrive_grouting_winchCommand]; rfl

end

/-! ### A run completes -/

section
variable {s : State} {c : PlacementConfig} {r : Run}

/-- R8, R118, R122: the end of a winching run, the unit's release apart. -/
def winchingDone (c : PlacementConfig) (r : Run) (s : State) : State :=
  let length := min 65535 (valueOf s c.payout).toNat
  { s with
    anchorTable := (s.onAnchor r.slot fun a => { a with phase := .placed, insertionLength := some length }).anchorTable
    placement := { s.placement with winchCommand := some .stop }
    sched := schedAfterStop s .winching
    log := ordinaryLog
      { tick := now s, kind := .complete, unit := 4, slot := r.slot, detail := 0
        data := be 1 (runPhaseCode .winching) ++ be 2 length ++ be 2 r.elapsed } s.log }

theorem winchingDone_design (i : Nat) : (anchorAt (winchingDone c r s) i).design = (anchorAt s i).design := by
  refine (congrArg Anchor.design (anchorAt_onAnchor s r.slot i fun a =>
    { a with phase := .placed, insertionLength := _ })).trans ?_
  split
  · rename_i h; rw [h.1]
  · rfl

theorem winchingDone_anchor (h : r.slot < 96) : anchorAt (winchingDone c r s) r.slot =
    { anchorAt s r.slot with phase := .placed, insertionLength := some (min 65535 (valueOf s c.payout).toNat) } :=
  anchorAt_onAnchor_same (s := s) h fun a => { a with phase := .placed, insertionLength := _ }

/-- R122: with grout-follows set a grouting run begins; otherwise the unit is IDLE. -/
theorem completeWinching_eq (hc : s.placement.config = some c) (hr : s.placement.run = some r) : completeWinching s =
    if (classOf s r.slot).groutFollows then beginRun .grouting r.slot (winchingDone c r s)
    else releasePlacement (winchingDone c r s) := by
  have hd : designOf (winchingDone c r s) r.slot = designOf s r.slot := by
    rw [designOf, winchingDone_design, designOf]
  have hk : classOf (winchingDone c r s) r.slot = classOf s r.slot := by rw [classOf, hd]; rfl
  rw [← hk, completeWinching]
  rw [runOf_of_run hr, placementConfig_of_config hc, stopRun_eq, writeOrDrop_eq, placementRecord, runOf_of_run hr]
  rfl

/-- R9, R118: the end of a grouting run, the cure evaluation, the record and the unit's release apart. -/
def groutingDone (c : PlacementConfig) (r : Run) (s : State) : State :=
  { s with
    anchorTable := (s.onAnchor r.slot fun a =>
      { a with
        phase := .curing, groutTake := some (valueOf s c.flow).toNat
        completionMinute := s.station.site.map (·.1) }).anchorTable
    placement := { s.placement with pumpCommand := some .stop }
    sched := schedAfterStop s .grouting }

theorem groutingDone_anchor (h : r.slot < 96) : anchorAt (groutingDone c r s) r.slot =
    { anchorAt s r.slot with
      phase := .curing, groutTake := some (valueOf s c.flow).toNat, completionMinute := s.station.site.map (·.1) } :=
  anchorAt_onAnchor_same (s := s) h fun a =>
    { a with phase := .curing, groutTake := _, completionMinute := s.station.site.map (·.1) }

/-- R9, R126: what the completion of a grouting run writes. -/
def groutingRecord (c : PlacementConfig) (r : Run) (s : State) : LogRecord :=
  { tick := now s, kind := .complete, unit := 4, slot := r.slot, detail := 0
    data := be 1 (runPhaseCode .grouting) ++ be 3 (valueOf s c.flow).toNat
      ++ be 4 (s.station.site.elim 0 fun p => p.1.toNat) ++ be 2 r.elapsed }

theorem completeGrouting_eq (hc : s.placement.config = some c) (hr : s.placement.run = some r) : completeGrouting s =
    releasePlacement ((cureOne r.slot (groutingDone c r s)).onLog (ordinaryLog (groutingRecord c r s))) := by
  have hw : word ((s.station.site.map (·.1)).getD 0) = be 4 (s.station.site.elim 0 fun p => p.1.toNat) := by
    cases s.station.site <;> rfl
  rw [completeGrouting]
  rw [runOf_of_run hr, placementConfig_of_config hc, stopRun_eq, writeOrDrop_eq, placementRecord, runOf_of_run hr, hw]
  rfl

/-- What a cure evaluation of one anchor touches beside the anchor table: the start of a pass (R10). -/
theorem cureOne_frame (i : Nat) (s : State) : cureOne i s =
    { s with anchorTable := (cureOne i s).anchorTable, passDue := (cureOne i s).passDue } := by
  unfold cureOne; split <;> rfl

theorem cureOne_anchor {i : Nat} (h : i < 96) : anchorAt (cureOne i s) i =
    { anchorAt s i with phase := if cured s (anchorAt s i) then .ready else (anchorAt s i).phase } := by
  unfold cureOne; split
  · exact anchorAt_onAnchor_same h fun a => { a with phase := .ready }
  · rfl

/-- R10: an anchor that has just completed is cured at once where its cure time is 0. -/
theorem cured_at_once (h : r.slot < 96) :
    cured (groutingDone c r s) (anchorAt (groutingDone c r s) r.slot) = true ↔
      s.station.site.isSome = true ∧ (anchorAt s r.slot).design.isSome = true ∧ (designOf s r.slot).cureMinutes = 0 := by
  rw [groutingDone_anchor h, cured, designOf]
  show (true && match s.station.site, s.station.site.map (·.1), (anchorAt s r.slot).design with
    | some (minute, _), some done, some d => decide (done.toNat + d.cureMinutes ≤ minute.toNat)
    | _, _, _ => false) = true ↔ _
  cases s.station.site with
  | none => simp
  | some p => cases (anchorAt s r.slot).design <;> simp

end

end Sys2Proof.Machine
end

section
/-! SUPPORT. The judgments of placement runs, settled from the samples, the completions and the wanted drives (R117 to R130). -/

namespace Sys2Proof.Machine

open Sys2Proof Sys2Proof.Config

section
variable {s : State} {c : PlacementConfig} {r : Run}

/-- The end of a winching run by a sample (R122). -/
theorem placementSample_placed (hc : s.placement.config = some c) (hr : s.placement.run = some r)
    (hm : s.placement.mode = .winching) (hf : isFresh s c.payout = true)
    (ht : ((designOf s r.slot).insertionTarget : Int) ≤ valueOf s c.payout) :
    placementSample c.payout s =
      if (classOf s r.slot).groutFollows then
        beginRun .grouting r.slot (winchingDone c { r with starved := false } (withStarved r false s))
      else releasePlacement (winchingDone c { r with starved := false } (withStarved r false s)) := by
  have hs : starvedNow s .winching = false := by rw [starvedNow_winching hc, hf]; rfl
  rw [placementSample_winching hc hm, if_pos rfl, judgeRun_winching hc hr hs, if_pos ht]
  exact completeWinching_eq (s := withStarved r false s) (r := { r with starved := false }) hc rfl

/-- The end of a grouting run by a sample (R126). -/
theorem placementSample_grouted (hc : s.placement.config = some c) (hr : s.placement.run = some r)
    (hm : s.placement.mode = .grouting) (hf : isFresh s c.flow = true) (hb : isFresh s c.ret = true)
    (ht : ((designOf s r.slot).groutTarget : Int) ≤ valueOf s c.flow) (h1 : 1 ≤ valueOf s c.ret) :
    placementSample c.flow s = releasePlacement
      ((cureOne r.slot (groutingDone c { r with starved := false } (withStarved r false s))).onLog
        (ordinaryLog (groutingRecord c { r with starved := false } (withStarved r false s)))) := by
  have hs : starvedNow s .grouting = false := by rw [starvedNow_grouting hc, hf, hb]; rfl
  rw [placementSample_grouting hc hm, if_pos (.inl rfl), judgeRun_grouting hc hr hs, if_pos ⟨ht, h1⟩]
  exact completeGrouting_eq (s := withStarved r false s) (r := { r with starved := false }) hc rfl

theorem anchorAt_beginRun {i : Nat} (h : i < 96) (p : RunPhase) (s : State) :
    anchorAt (beginRun p i s) i = { anchorAt s i with phase := phaseAnchor p } := by
  rw [anchorAt_of_slots (congrArg AnchorTable.slots (beginRun_anchorTable p i s))]
  exact anchorAt_onAnchor_same h fun a => { a with phase := phaseAnchor p }

/-- R118: the scheduler's lists after a stop, with the node and the stop written out. -/
theorem schedAfterStop_eq (p : RunPhase) (node : Nat) (stop : Command) (hn : driveNode s p = node)
    (hs : driveCommand p .stop = stop) : schedAfterStop s p =
      if queueTakes s node stop = true then { s.sched with queue := queueWith (now s) node stop .pu s.sched.queue }
      else { s.sched with
        priority := priorityWith s node stop .pu s.sched.priority
        queue := s.sched.queue.filter fun e => e.node ≠ node } := by
  rw [schedAfterStop, hn, hs, ← filter_ne QueueEntry.node]; rfl

/-- R130: a thaw judges the run in the phase in which it was paused. -/
theorem thawPlacement_of_paused (hr : s.placement.run = some r) (hm : s.placement.mode = .paused) {p : RunPhase}
    (hp : r.pausedFrom = some p) : thawPlacement s =
      judgeRun p (s.onPlacement fun u => { u with mode := phaseMode p, run := some { r with pausedFrom := none } }) := by
  rw [thawPlacement, if_pos hm]
  rw [runPhase_of_paused hm hr hp, onRun_of_run hr]; rfl

/-- R119: a winching run with a STALE payout channel is starved, at a sample and at the change to STALE. -/
theorem winching_starves (hc : s.placement.config = some c) (hr : s.placement.run = some r)
    (hm : s.placement.mode = .winching) (hf : isFresh s c.payout = false) :
    placementSample c.payout s = wantDrive .winching .stop (withStarved r true s)
      ∧ placementStale c.payout s = wantDrive .winching .stop (withStarved r true s) := by
  have hs : starvedNow s .winching = true := by rw [starvedNow_winching hc, hf]; rfl
  rw [placementSample_winching hc hm, placementStale_winching hc hm, if_pos rfl, if_pos rfl]
  exact ⟨judgeRun_starved hr hs, driveChoice_starved hr hs⟩

/-- R122: a winching run short of its target goes on. -/
theorem winching_goesOn (hc : s.placement.config = some c) (hr : s.placement.run = some r)
    (hm : s.placement.mode = .winching) (hf : isFresh s c.payout = true)
    (ht : valueOf s c.payout < (designOf s r.slot).insertionTarget) :
    placementSample c.payout s = wantDrive .winching (.run r.speed) (withStarved r false s) := by
  have hs : starvedNow s .winching = false := by rw [starvedNow_winching hc, hf]; rfl
  rw [placementSample_winching hc hm, if_pos rfl, judgeRun_winching hc hr hs, if_neg (Int.not_le.2 ht)]

/-- R119: a grouting run with a STALE channel is starved, at a sample and at the change to STALE. -/
theorem grouting_starves {m : Nat} (hc : s.placement.config = some c) (hr : s.placement.run = some r)
    (hm : s.placement.mode = .grouting) (hj : c.flow = m ∨ c.ret = m)
    (hf : isFresh s c.flow = false ∨ isFresh s c.ret = false) :
    placementSample m s = wantDrive .grouting .stop (withStarved r true s)
      ∧ placementStale m s = wantDrive .grouting .stop (withStarved r true s) := by
  have hs : starvedNow s .grouting = true := by
    rw [starvedNow_grouting hc]
    obtain h | h := hf <;> simp [h]
  rw [placementSample_grouting hc hm, placementStale_grouting hc hm, if_pos hj, if_pos hj]
  exact ⟨judgeRun_starved hr hs, driveChoice_starved hr hs⟩

/-- The judgment of a grouting run whose channels are FRESH (R126, R127). -/
theorem placementSample_flow (hc : s.placement.config = some c) (hr : s.placement.run = some r)
    (hm : s.placement.mode = .grouting) (hf : isFresh s c.flow = true) (hb : isFresh s c.ret = true) :
    placementSample c.flow s =
      if ((designOf s r.slot).groutTarget : Int) ≤ valueOf s c.flow ∧ 1 ≤ valueOf s c.ret then
        completeGrouting (withStarved r false s)
      else if ((designOf s r.slot).groutMax : Int) ≤ valueOf s c.flow ∧ valueOf s c.ret < 1 then
        haltPlacementRun .groutExcess (withStarved r false s)
      else wantDrive .grouting (.run r.speed) (withStarved r false s) := by
  have hs : starvedNow s .grouting = false := by rw [starvedNow_grouting hc, hf, hb]; rfl
  rw [placementSample_grouting hc hm, if_pos (.inl rfl), judgeRun_grouting hc hr hs]

/-! ### Classifier events (R124, R128, R129) -/

theorem phaseClassifier_eq (hc : s.placement.config = some c) (p : RunPhase) : phaseClassifier s p = match p with
    | .winching => c.tensionX
    | .grouting => c.pressureX := by
  cases p
  · exact congrArg PlacementConfig.tensionX (placementConfig_of_config hc)
  · exact congrArg PlacementConfig.pressureX (placementConfig_of_config hc)

variable {x : Nat} {k : EventKind}

theorem placementEvent_of_other (h : s.placement.mode = .idle ∨ phaseClassifier s (runPhase s) ≠ some x) :
    placementEvent x k s = s := by
  rw [placementEvent]
  obtain h | h := h
  · exact if_pos (by rw [placementBusy, h]; rfl)
  · split
    · rfl
    · exact if_neg h

/-- The state with an event recorded and the speed it leaves (R124, R128). -/
def eventTold (r : Run) (x : Nat) (k : EventKind) (s : State) : State :=
  let slowed := s.onPlacement fun u => { u with run := some { r with speed := speedAfter (runPhase s) r.speed k } }
  writeOrDrop (eventRecord slowed x k) slowed

/-- What an event of the phase's classifier does, by its kind and by the unit's state. -/
theorem placementEvent_of_watched (hr : s.placement.run = some r) (hm : s.placement.mode ≠ .idle)
    (hx : phaseClassifier s (runPhase s) = some x) : placementEvent x k s =
      if k = .overlong then haltPlacementRun (overlongCause (runPhase s)) s
      else if s.placement.mode = .paused then eventTold r x k s
      else driveChoice (runPhase s) (judgeStarved (runPhase s) (eventTold r x k s)) := by
  rw [placementEvent, if_neg (by rw [(placementBusy_iff s).2 hm]; nofun)]
  dsimp only
  rw [if_pos hx, onRun_of_run hr]; rfl

/-- R119: the choice that follows an event in a phase at work. -/
theorem driveChoice_eventTold (p : RunPhase) : driveChoice p (judgeStarved p (eventTold r x k s)) =
    wantDrive p (if starvedNow s p = true then .stop else .run (speedAfter (runPhase s) r.speed k))
      ((eventTold r x k s).onPlacement fun u => { u with
        run := some { r with speed := speedAfter (runPhase s) r.speed k, starved := starvedNow s p } }) := by
  have hrun : (eventTold r x k s).placement.run = some { r with speed := speedAfter (runPhase s) r.speed k } := by
    rw [eventTold, writeOrDrop_eq]; rfl
  have hst : starvedNow (eventTold r x k s) p = starvedNow s p := by
    rw [eventTold, writeOrDrop_eq]; cases p <;> rfl
  rw [judgeStarved_eq hrun, hst]; rfl

end

/-- Settles O43, from the samples of each phase, the two completions, the wanted drives and the events. -/
theorem placementRunsEndAsJudged : Obligations.PlacementRunsEndAsJudged := by
  refine ⟨fun s c r hc hr hslot => ⟨fun hm hf ht => ?_, fun hm hf hb ht h1 => ?_, fun hm hf hb ht h1 => ?_⟩,
    fun s c r hc hr hslot => ⟨fun hm hf ht => ?_, fun hm hf hb ht h1 => ?_⟩, ⟨fun s p d => ?_, fun s c r m hc hr => ?_⟩,
    fun s c r x k hc hr => ?_⟩
  · intro t
    have hdone := winchingDone_anchor (c := c) (r := { r with starved := false }) (s := withStarved r false s) hslot
    have heq : t = _ := placementSample_placed hc hr hm hf ht
    by_cases hg : (classOf s r.slot).groutFollows = true
    · rw [if_pos hg] at heq
      have ha := anchorAt_beginRun hslot .grouting (winchingDone c { r with starved := false } (withStarved r false s))
      rw [heq, ha, hdone, beginRun_mode, beginRun_slot]
      exact ⟨rfl, fun h => absurd (hg.symm.trans h) nofun, fun _ => ⟨rfl, rfl, rfl⟩⟩
    · rw [if_neg hg] at heq
      have ha : anchorAt t r.slot = _ := (congrArg (anchorAt · r.slot) heq).trans hdone
      rw [ha, heq]
      exact ⟨rfl, fun _ => ⟨rfl, rfl, rfl⟩, fun h => absurd h hg⟩
  · intro t
    have heq : t = _ := placementSample_grouted hc hr hm hf hb ht h1
    have ha : anchorAt t r.slot = _ := (congrArg (anchorAt · r.slot) heq).trans
      (cureOne_anchor (s := groutingDone c { r with starved := false } (withStarved r false s)) hslot)
    have hd := groutingDone_anchor (c := c) (r := { r with starved := false }) (s := withStarved r false s) hslot
    rw [ha]
    refine ⟨congrArg Anchor.groutTake hd, congrArg Anchor.completionMinute hd, ?_, by rw [heq]; rfl, by rw [heq]; rfl⟩
    exact if_congr (cured_at_once (r := { r with starved := false }) hslot) rfl (congrArg Anchor.phase hd)
  · exact (placementSample_flow hc hr hm hf hb).trans ((if_neg (by omega)).trans (if_pos ⟨ht, h1⟩))
  · have heq := placementSample_placed hc hr hm hf ht
    refine ⟨?_, fun hg => ?_⟩
    · rw [heq]; split
      · rw [recordedDrive, beginRun_grouting_winchCommand]; rfl
      · rfl
    · rw [if_neg (by rw [hg]; nofun)] at heq
      rw [heq]
      exact ⟨rfl, schedAfterStop_eq (s := withStarved r false s) .winching c.winchNode .winchStop
        (driveNode_of_config (s := withStarved r false s) hc .winching) rfl, rfl⟩
  · rw [placementSample_grouted hc hr hm hf hb ht h1, cureOne_frame]
    exact ⟨rfl, schedAfterStop_eq (s := withStarved r false s) .grouting c.pumpNode .pumpStop
      (driveNode_of_config (s := withStarved r false s) hc .grouting) rfl, rfl⟩
  · exact ⟨fun h => if_pos h, fun h hq => (if_neg h).trans (if_neg (by rw [hq]; nofun)),
      fun h hq => (if_neg h).trans (if_pos hq)⟩
  · intro d flow starve resumed
    refine ⟨fun hm => ⟨fun hne => ?_, fun hf => ?_, fun hf ht => ?_⟩,
      fun hm => ⟨fun hn1 hn2 => ?_, ?_, fun hj hf => ?_, fun hf hb ht hx => ?_⟩, fun hm => ?_, fun hm => if_neg hm,
      fun hm hp => ?_, fun hm hp => ?_⟩
    · rw [placementSample_winching hc hm, placementStale_winching hc hm, if_neg hne.symm, if_neg hne.symm]
      exact ⟨rfl, rfl⟩
    · exact winching_starves hc hr hm hf
    · exact winching_goesOn hc hr hm hf ht
    · have hn : ¬(c.flow = m ∨ c.ret = m) := not_or.2 ⟨hn1 ∘ Eq.symm, hn2 ∘ Eq.symm⟩
      rw [placementSample_grouting hc hm, placementStale_grouting hc hm, if_neg hn, if_neg hn]
      exact ⟨rfl, rfl⟩
    · rw [placementSample_grouting hc hm, placementSample_grouting hc hm, if_pos (.inr rfl), if_pos (.inl rfl)]
    · exact grouting_starves hc hr hm (hj.imp Eq.symm Eq.symm) hf
    · exact (placementSample_flow hc hr hm hf hb).trans ((if_neg ht).trans (if_neg hx))
    · rw [placementSample, placementStale]
      obtain hm | hm := hm <;> rw [hm] <;> exact ⟨rfl, rfl⟩
    · rw [thawPlacement_of_paused hr hm hp]
      exact ((placementSample_winching (s := resumed .winching) hc rfl c.payout).trans (if_pos rfl)).symm
    · rw [thawPlacement_of_paused hr hm hp]
      exact ((placementSample_grouting (s := resumed .grouting) hc rfl c.flow).trans (if_pos (.inl rfl))).symm
  · intro p watcher speed detail slowed told starved
    have hw : phaseClassifier s p = watcher := phaseClassifier_eq hc p
    have hs : speedAfter p r.speed k = speed := by simp only [speed]; cases k <;> cases p <;> rfl
    have hd : eventDetail k = detail := by simp only [detail]; cases k <;> rfl
    have hcause : (if p = .winching then HaltCause.snag else .blockage) = overlongCause p := by cases p <;> rfl
    have htold : eventTold r x k s = told := by
      simp only [told, slowed, ← hs, ← hd]; rfl
    have hst : starvedNow s p = starved := by
      simp only [starved]; cases p
      · exact starvedNow_winching hc
      · exact starvedNow_grouting hc
    have event (hm : s.placement.mode ≠ .idle) (hx : watcher = some x) :=
      placementEvent_of_watched (k := k) hr hm (hw.trans hx)
    refine ⟨fun h => placementEvent_of_other (h.imp_right (hw ▸ ·)), fun hm hx hk => ?_, fun hm hx hk => ?_, fun hm hx hk => ?_⟩
    · rw [hcause, event hm hx, if_pos hk]
    · rw [event (by rw [hm]; nofun) hx, if_neg hk, if_pos hm, htold]
    · have hb : s.placement.mode ≠ .idle ∧ s.placement.mode ≠ .paused := by obtain hm | hm := hm <;> rw [hm] <;> decide
      rw [event hb.1 hx, if_neg hk, if_neg hb.2, driveChoice_eventTold, htold, hst, hs]

end Sys2Proof.Machine
end

section
/-! SUPPORT. The tick advance and the cure evaluation (R194, R195, R10): what each block counts, and what a stressing channel
chooses at a tick. -/

namespace Sys2Proof.Machine

open Sys2Proof Sys2Proof.Config

/-! ### The tick of a stressing channel -/

/-- The channel with its counts of a tick advance, its choice apart (R69, R77, R80, R102). -/
def ticked (s : State) (n : Nat) : State := s.onWork n (tickWork (stressAt s n).mode (pointInterval s n))

section
variable {s : State} {n : Nat}

theorem ticked_work (hn : n < 4) : workOf (ticked s n) n = tickWork (stressAt s n).mode (pointInterval s n) (workOf s n) := by
  rw [workOf, ticked, State.onWork, stressAt_onStress_same hn]; rfl

theorem ticked_step (hn : n < 4) : stepOf (ticked s n) n = stepOf s n := by
  have hs : slotOf (ticked s n) n = slotOf s n := by rw [slotOf, ticked_work hn]; rfl
  have hc (i : Nat) : classOf (ticked s n) i = classOf s i := rfl
  rw [stepOf, hs, ticked_work hn, hc]; rfl

theorem ticked_borrowed (hn : n < 4) : borrowed (ticked s n) n = borrowed s n := by
  have hs : slotOf (ticked s n) n = slotOf s n := by rw [slotOf, ticked_work hn]; rfl
  have hk : stepNumber (ticked s n) n = stepNumber s n := by rw [stepNumber, ticked_work hn]; rfl
  have hc (i : Nat) : classOf (ticked s n) i = classOf s i := rfl
  rw [borrowed, stepsBefore, hs, hk, hc]; rfl

theorem ticked_noApproach (hn : n < 4) (h : NoApproach s n) : NoApproach (ticked s n) n := by
  intro p hp
  rw [ticked_work hn]
  exact h p ((ticked_step hn).symm.trans hp)

/-- The counts of a tick advance, written out. -/
theorem ticked_eq : ticked s n = s.onWork n fun w =>
    { w with
      elapsed := min 4294967295 (w.elapsed + 1)
      pointCounter := if ((stressAt s n).mode = .running ∨ (stressAt s n).mode = .locking) ∧ 0 < pointInterval s n then
        min 65535 (w.pointCounter + 1) else w.pointCounter
      settle := if (stressAt s n).mode = .running then w.settle.map fun d => { d with progress := d.progress + 1 } else w.settle
      window := if (stressAt s n).mode = .locking then w.window - 1 else w.window } := by
  refine congrArg (s.onWork n) (funext fun w => ?_)
  simp only [tickWork, Bool.and_eq_true, Bool.or_eq_true, beq_iff_eq, decide_eq_true_eq]

/-- What a channel does at a tick, by its state (R68, R75, R78, R89). -/
theorem tickStress_of_holds (h : holdsAnchor s n = true) : tickStress s n =
    match (stressAt s n).mode with
    | .running => if endsAtTick (ticked s n) n = true then ticked s n else chooseStanding n (ticked s n)
    | .locking => if (workOf (ticked s n) n).window = 0 then ticked s n else chooseStanding n (ticked s n)
    | .stalled => wantMotion n .hold (ticked s n)
    | .frozen => ticked s n
    | .idle => ticked s n
    | .unbound => ticked s n := by
  rw [tickStress, if_neg (by rw [h]; nofun)]
  generalize hm : (stressAt s n).mode = m
  cases m <;> simp only [ticked, hm]

theorem tickStress_of_free (h : holdsAnchor s n = false) : tickStress s n = s := if_pos (by rw [h]; rfl)

/-- Outside an approach the choice at a tick moves the jack, and nothing else. -/
theorem motionOnly_tickStress (h : holdsAnchor s n = true) (k : NoApproach s n) :
    MotionOnly n (ticked s n) (tickStress s n) := by
  have hn := number_of_holdsAnchor s h
  have chosen := motionOnly_chooseStanding hn (ticked_noApproach hn k)
  rw [tickStress_of_holds h]
  cases (stressAt s n).mode with
  | running => dsimp only; split
               · exact .refl n _
               · exact chosen
  | locking => dsimp only; split
               · exact .refl n _
               · exact chosen
  | stalled => exact motionOnly_wantMotion n .hold _
  | frozen => exact .refl n _
  | idle => exact .refl n _
  | unbound => exact .refl n _

/-- R75, R78: what makes a tick end the step of a channel. -/
theorem endsAtTick_iff : endsAtTick s n = true ↔
    (∃ p, (stepOf s n = .loadTo p ∨ stepOf s n = .unloadTo p) ∧ p.timeout ≤ (workOf s n).elapsed)
      ∨ (∃ p, stepOf s n = .lockoff p ∧ (workOf s n).progress = some .approach ∧ (borrowed s n).timeout ≤ (workOf s n).elapsed)
      ∨ ∃ p, stepOf s n = .holdSettle p ∧ (p.maximum ≤ (workOf s n).elapsed
          ∨ ∃ d, (workOf s n).settle = some d ∧ p.interval ≤ d.progress ∧ p.limit ≤ d.count + 1) := by
  rw [endsAtTick, pastTimeout, settlesNow, pastMaximum]
  cases hs : stepOf s n with
  | holdSettle p =>
    cases (workOf s n).settle with
    | none => simp
    | some d => simp [or_comm]
  | _ => simp

/-- R75, R78: whether a tick ends the step of a RUNNING channel, by the state before its counts. -/
theorem endsAtTick_ticked (hn : n < 4) (hm : (stressAt s n).mode = .running) : endsAtTick (ticked s n) n = true ↔
    (∃ p, (stepOf s n = .loadTo p ∨ stepOf s n = .unloadTo p) ∧ p.timeout ≤ min 4294967295 ((workOf s n).elapsed + 1))
      ∨ (∃ p, stepOf s n = .lockoff p ∧ (workOf s n).progress = some .approach
          ∧ (borrowed s n).timeout ≤ min 4294967295 ((workOf s n).elapsed + 1))
      ∨ ∃ p, stepOf s n = .holdSettle p ∧ (p.maximum ≤ min 4294967295 ((workOf s n).elapsed + 1)
          ∨ ∃ d, (workOf s n).settle = some d ∧ p.interval ≤ d.progress + 1 ∧ p.limit ≤ d.count + 1) := by
  have hset : (tickWork (stressAt s n).mode (pointInterval s n) (workOf s n)).settle =
      (workOf s n).settle.map fun d => { d with progress := d.progress + 1 } := if_pos (by rw [hm]; rfl)
  rw [endsAtTick_iff, ticked_step hn, ticked_work hn, ticked_borrowed hn, hset]
  simp only [Option.map_eq_some_iff, exists_exists_and_eq_and]
  exact .rfl

end

/-! ### The tick of the placement unit -/

section
variable {s : State} {c : PlacementConfig} {r : Run}

/-- The run with its counts of a tick advance (R123, R133). -/
def tickedRun (s : State) (r : Run) : Run :=
  { r with
    elapsed := min 65535 (r.elapsed + 1)
    pointCounter := if (classOf s r.slot).pointInterval = 0 then 0 else min 65535 (r.pointCounter + 1) }

/-- The unit with its run's counts of a tick advance. -/
def tickedUnit (s : State) (r : Run) : State := s.onPlacement fun u => { u with run := some (tickedRun s r) }

theorem onRun_tickRun (hr : s.placement.run = some r) : s.onRun (tickRun (placementInterval s)) = tickedUnit s r := by
  rw [onRun_of_run hr, placementInterval, runOf_of_run hr]; rfl

theorem tickPlacement_winching (hc : s.placement.config = some c) (hr : s.placement.run = some r)
    (hm : s.placement.mode = .winching) : tickPlacement s =
      if c.winchTimeout ≤ min 65535 (r.elapsed + 1) then tickedUnit s r
      else driveChoice .winching (judgeStarved .winching (tickedUnit s r)) := by
  have he : winchExpired (tickedUnit s r) = decide (c.winchTimeout ≤ min 65535 (r.elapsed + 1)) := by
    rw [winchExpired, placementConfig_of_config (s := tickedUnit s r) hc]
    show (s.placement.mode == .winching && _) = _
    rw [hm]; rfl
  rw [tickPlacement, hm]
  dsimp only
  rw [onRun_tickRun hr, he]
  exact if_congr decide_eq_true_iff rfl rfl

theorem tickPlacement_grouting (hr : s.placement.run = some r) (hm : s.placement.mode = .grouting) :
    tickPlacement s = driveChoice .grouting (judgeStarved .grouting (tickedUnit s r)) := by
  have he : winchExpired (tickedUnit s r) = false := by
    rw [winchExpired]
    show (s.placement.mode == .winching && _) = _
    rw [hm]; rfl
  rw [tickPlacement, hm]
  dsimp only
  rw [onRun_tickRun hr, he]; rfl

/-- R117, R119: the choice that follows the counts of a run. -/
theorem driveChoice_tickedUnit (p : RunPhase) : driveChoice p (judgeStarved p (tickedUnit s r)) =
    wantDrive p (if starvedNow s p = true then .stop else .run r.speed)
      (s.onPlacement fun u => { u with run := some { tickedRun s r with starved := starvedNow s p } }) := by
  have hs : starvedNow (tickedUnit s r) p = starvedNow s p := by cases p <;> rfl
  rw [judgeStarved_eq (s := tickedUnit s r) rfl, hs]; rfl

end

/-! ### The cure evaluation (R10) -/

section
variable {s : State}

theorem cured_iff (a : Anchor) : cured s a = true ↔ a.phase = .curing ∧ ∃ minute sub done d,
    s.station.site = some (minute, sub) ∧ a.completionMinute = some done ∧ a.design = some d
      ∧ done.toNat + d.cureMinutes ≤ minute.toNat := by
  rw [cured, Bool.and_eq_true, beq_iff_eq]
  refine and_congr_right fun _ => ?_
  rcases s.station.site with _ | ⟨minute, sub⟩
  · simp
  · cases a.completionMinute <;> cases a.design <;> simp

/-- No number beyond the slots is that of an anchor that has cured. -/
theorem number_of_cured {slot : Nat} (h : cured s (anchorAt s slot) = true) : slot < 96 := by
  by_contra hn
  have hd : anchorAt s slot = default := look_of_le s.anchorTable.slots slot (Nat.le_of_not_lt hn)
  rw [hd, cured_iff] at h
  cases h.1

theorem anchorAt_cureAll (slot : Nat) : anchorAt (cureAll s) slot =
    if cured s (anchorAt s slot) then { anchorAt s slot with phase := .ready } else anchorAt s slot := by
  have hs : anchorAt (cureAll s) slot =
      look (s.anchorTable.slots.map fun a => if cured s a then { a with phase := .ready } else a) slot := by
    unfold cureAll; dsimp only; split <;> rfl
  rw [hs]
  by_cases h : slot < 96
  · exact look_map s.anchorTable.slots _ slot h
  · rw [look_of_le _ slot (Nat.le_of_not_lt h), if_neg fun hc => h (number_of_cured hc)]
    exact (look_of_le s.anchorTable.slots slot (Nat.le_of_not_lt h)).symm

theorem cureAll_frame : ∃ slots, cureAll s =
    { s with anchorTable := { s.anchorTable with slots := slots }, passDue := (cureAll s).passDue } := by
  unfold cureAll; dsimp only; split <;> exact ⟨_, rfl⟩

theorem cureAll_passDue : (cureAll s).passDue = true ↔
    s.passDue = true ∨ ∃ slot, slot < 96 ∧ cured s (anchorAt s slot) = true := by
  have h : (slots96.any fun i => cured s (anchorAt s i)) = true ↔ ∃ slot, slot < 96 ∧ cured s (anchorAt s slot) = true := by
    simp only [slots96, List.any_eq_true, List.mem_range]
  rw [← h]
  unfold cureAll; dsimp only; split
  · simp [*]
  · simp [*]

end

/-! ### The tick advance -/

theorem ReaderFrame.openTick {s t : State} (h : ReaderFrame s t) :
    ReaderFrame { s with tickOpen := true } { t with tickOpen := true } := { h with tickOpen := rfl }

/-- R194: what a tick advance leaves to the requests alone. -/
theorem reader_tick (s : State) : ReaderFrame { countTick s with tickOpen := true } (runPass (advanceTick s)) := by
  have h : ReaderFrame (countTick s) (tickPlacement (channels4.foldl tickStress (countTick s))) :=
    (reader_tickPlacement _).after (frame_foldl tickStress frame_tickStress channels4 _).reader
  exact (frame_runPass _).reader.after h.openTick

/-- Settles O57, from the frame of the tick, the tick of each unit and the cure evaluation of each anchor. -/
theorem timeAdvancesAndCures : Obligations.TimeAdvancesAndCures := by
  refine ⟨fun s hq => ⟨⟨_, event_of_quiet hq, rfl, reader_tick s⟩, fun n hn hh hs => ?_, fun n hn hm hp => ?_,
    fun n h => tickStress_of_free h⟩, fun s n hh => ?_, fun s c r hc hr => ?_, fun s => ?_, fun s tag minute h => ?_,
    fun s minute sub hsite hfull => ?_⟩
  · obtain ⟨c, b, hw⟩ := (motionOnly_tickStress hh (noApproach_of_step hs)).stressAt hn
    rw [workOf, hw, ticked_work hn]
    refine ⟨rfl, if_congr ?_ rfl rfl⟩
    simp only [Bool.and_eq_true, Bool.or_eq_true, beq_iff_eq, decide_eq_true_eq]
  · obtain ⟨c, b, hw⟩ := (motionOnly_tickStress (holdsAnchor_of_mode s hm rfl) fun _ _ => hp).stressAt hn
    rw [workOf, hw, ticked_work hn]
    exact if_pos (by rw [hm]; rfl)
  · have hn := number_of_holdsAnchor s hh
    intro w mode elapsed t ends
    have ht : ticked s n = t := ticked_eq
    have hends (hm : mode = .running) : endsAtTick (ticked s n) n = true ↔ ends := endsAtTick_ticked hn hm
    have hwin (hm : mode = .locking) : (workOf (ticked s n) n).window = w.window - 1 := by
      rw [ticked_work hn]; exact if_pos (by simpa [mode] using hm)
    have heq := tickStress_of_holds hh
    rw [← ht]
    refine ⟨fun hm he => ?_, fun hm he => ?_, fun hm hw => ?_, fun hm hw => ?_, fun hm => ?_, fun hm => ?_⟩ <;>
      rw [show (stressAt s n).mode = _ from hm] at heq
    · exact heq.trans (if_pos ((hends hm).2 he))
    · exact heq.trans (if_neg ((hends hm).not.2 he))
    · exact heq.trans (if_pos (by rw [hwin hm]; omega))
    · exact heq.trans (if_neg (by rw [hwin hm]; omega))
    · exact heq
    · exact heq
  · intro elapsed counted
    refine ⟨fun hm he => ?_, fun hm he => ?_, fun hm => ?_, fun hm => ?_⟩
    · rw [tickPlacement_winching hc hr hm, if_pos he]; rfl
    · rw [tickPlacement_winching hc hr hm, if_neg (Nat.not_le.2 he), driveChoice_tickedUnit, starvedNow_winching hc]
      cases isFresh s c.payout <;> rfl
    · rw [tickPlacement_grouting hr hm, driveChoice_tickedUnit, starvedNow_grouting hc]
      cases isFresh s c.flow
      · rfl
      · cases isFresh s c.ret <;> rfl
    · obtain hm | hm := hm <;> rw [tickPlacement, hm]
  · intro t ready
    have hready (slot : Nat) : ready slot ↔ slot < 96 ∧ cured s (anchorAt s slot) = true :=
      and_congr_right fun _ => (cured_iff _).symm
    refine ⟨fun slot h => ?_, fun slot h => ?_, ?_, cureAll_frame⟩
    · rw [anchorAt_cureAll, if_pos ((hready slot).1 h).2]
    · rw [anchorAt_cureAll, if_neg fun hc => h ((hready slot).2 ⟨number_of_cured hc, hc⟩)]
    · rw [cureAll_passDue]
      exact or_congr .rfl (exists_congr fun slot => (hready slot).symm)
  · show request tag 0x61 (actSetTime minute) s = _
    rw [request_of_takesNow h]
    exact congrArg Host.Outcome.next (respond_done_run [])
  · have hdue : isDue s .siteMinute = true := by simp [isDue, minuteFull, hsite, hfull]
    show Host.Outcome.next (takeDue .siteMinute s) = _
    rw [takeDue, if_pos hdue, effect, advanceMinute, State.onStation, hsite]; rfl

end Sys2Proof.Machine
end

section
/-! SUPPORT. What a RESTART leaves (R198): the halt sweep of an emptied priority list, and the parts of the blocks. -/

namespace Sys2Proof.Machine

open Sys2Proof Sys2Proof.Config

/-! ### The halt sweep of an emptied list (R177) -/

/-- The halt that the sweep places for an owned node. -/
def haltEntry (s : State) (a : Nat) (o : Owner) : PriorityEntry := { node := a, command := haltOf s a o, origin := o }

/-- The halts of the owned nodes among those of a list. -/
def haltsOf (s : State) (nodes : List Nat) : List PriorityEntry :=
  nodes.filterMap fun a => (ownerOf s a).map (haltEntry s a)

section
variable {s : State}

/-- A halt that is placed touches the scheduler's lists and the placement unit's recorded commands (R176, R179). -/
theorem placeHalt_frame (node : Nat) (c : Command) (o : Owner) (s : State) : ∃ w p, placeHalt node c o s =
    { s with
      sched := schedAfterHalt s node c o
      placement := { s.placement with winchCommand := w, pumpCommand := p } } := by
  unfold placeHalt recordStop; split
  · split <;> exact ⟨_, _, rfl⟩
  · split <;> exact ⟨_, _, rfl⟩
  · exact ⟨_, _, rfl⟩

/-- No entry leaves a list of owned nodes, and a node that has none gets its own at the back. -/
theorem priorityWith_of_owned {node : Nat} {c : Command} {o : Owner} {l : List PriorityEntry}
    (owned : ∀ e ∈ l, (ownerOf s e.node).isSome = true) (fresh : ∀ e ∈ l, e.node ≠ node) :
    priorityWith s node c o l = l ++ [{ node := node, command := c, origin := o }] := by
  have hroom : priorityRoom s l = l := by
    unfold priorityRoom; split
    · rfl
    · refine List.eraseP_of_forall_not fun e he hn => ?_
      rw [Option.isNone_iff_eq_none] at hn
      have := owned e he
      rw [hn] at this; cases this
  rw [priorityWith, if_neg, hroom]
  simp only [List.any_eq_true, beq_iff_eq, not_exists, not_and]
  exact fresh

/-- R177: a sweep of distinct nodes beside a list of other owned nodes, with an empty queue. -/
theorem foldl_sweepNode : ∀ (nodes : List Nat) (s : State), nodes.Nodup → s.sched.queue = [] →
    (∀ e ∈ s.sched.priority, (ownerOf s e.node).isSome = true ∧ e.node ∉ nodes) →
    ∃ w p, nodes.foldl sweepNode s =
      { s with
        sched := { s.sched with priority := s.sched.priority ++ haltsOf s nodes }
        placement := { s.placement with winchCommand := w, pumpCommand := p } }
  | [], s, _, _, _ => ⟨_, _, by rw [haltsOf, List.filterMap_nil, List.append_nil]; rfl⟩
  | a :: nodes, s, hd, hq, hp => by
    obtain ⟨ha, hd⟩ := List.nodup_cons.1 hd
    rw [List.foldl_cons, sweepNode]
    match ho : ownerOf s a with
    | none =>
      obtain ⟨w, p, h⟩ := foldl_sweepNode nodes s hd hq fun e he =>
        ⟨(hp e he).1, fun hm => (hp e he).2 (List.mem_cons_of_mem a hm)⟩
      refine ⟨w, p, h.trans ?_⟩
      rw [haltsOf, haltsOf, List.filterMap_cons, ho]; rfl
    | some o =>
      obtain ⟨w, p, h⟩ := placeHalt_frame a (haltOf s a o) o s
      have hl : schedAfterHalt s a (haltOf s a o) o = { s.sched with priority := s.sched.priority ++ [haltEntry s a o] } := by
        have hf : (s.sched.queue.filter fun e => !(e.node == a)) = s.sched.queue := by rw [hq]; rfl
        rw [schedAfterHalt, hf, priorityWith_of_owned (fun e he => (hp e he).1) fun e he h =>
          (hp e he).2 (h ▸ List.mem_cons_self)]
        rfl
      rw [hl] at h
      dsimp only
      rw [h]
      obtain ⟨w', p', h'⟩ := foldl_sweepNode nodes
        { s with
          sched := { s.sched with priority := s.sched.priority ++ [haltEntry s a o] }
          placement := { s.placement with winchCommand := w, pumpCommand := p } } hd hq fun e he => by
          obtain he | he := List.mem_append.1 he
          · exact ⟨(hp e he).1, fun hm => (hp e he).2 (List.mem_cons_of_mem a hm)⟩
          · rw [List.mem_singleton.1 he]
            exact ⟨congrArg Option.isSome ho, ha⟩
      refine ⟨w', p', h'.trans ?_⟩
      rw [haltsOf, haltsOf, List.filterMap_cons, ho]
      dsimp only [Option.map_some]
      rw [List.append_assoc]; rfl

theorem haltSweep_of_empty {s : State} (hq : s.sched.queue = []) (hp : s.sched.priority = []) : ∃ w p, haltSweep s =
    { s with
      sched := { s.sched with priority := haltsOf s nodes62 }
      placement := { s.placement with winchCommand := w, pumpCommand := p } } := by
  obtain ⟨w, p, h⟩ := foldl_sweepNode nodes62 s (by decide) hq (by rw [hp]; nofun)
  exact ⟨w, p, h.trans (by rw [hp, List.nil_append])⟩

end

/-! ### The blocks -/

section
variable {s : State}

/-- R16: the anchor of a run becomes HALTED. -/
theorem restartedAnchor_of_run {a : Anchor} {f : HaltedFrom}
    (h : (a.phase = .winching ∧ f = .winching) ∨ (a.phase = .grouting ∧ f = .grouting)
      ∨ (a.phase = .stressing ∧ f = .stressing)) :
    restartedAnchor a = { a with phase := .halted, haltedFrom := some f, haltCause := some .restart } := by
  unfold restartedAnchor runsNow
  obtain ⟨h, rfl⟩ | ⟨h, rfl⟩ | ⟨h, rfl⟩ := h <;> rw [h] <;> rfl

theorem restartedAnchor_of_rest {a : Anchor} (hw : a.phase ≠ .winching) (hg : a.phase ≠ .grouting)
    (hs : a.phase ≠ .stressing) : restartedAnchor a = a := if_neg (by simp [runsNow, hw, hg, hs])

/-- R59: the cells after the abort. -/
theorem cellAt_abortMeasurement (c : Nat) (h : c < 4) : cellAt (abortMeasurement s) c =
    { cellAt s c with
      last := if s.gauge.cell = some c then some
          { outcome := .aborted, endTick := now s, reused := s.gauge.reused, t := s.gauge.timeT, m := none
            g := none, saturated := none, served := s.gauge.inService.getD (newRequest 0) }
        else (cellAt s c).last } := by
  unfold abortMeasurement
  match s.gauge.cell with
  | none => rw [if_neg nofun]
  | some d =>
    refine (cellAt_onCell s d c fun cell => { cell with
      last := some (lastResult s { outcome := .aborted, m := none, g := none, saturated := none }) }).trans ?_
    by_cases hd : d = c
    · rw [if_pos ⟨hd, hd ▸ h⟩, if_pos (congrArg some hd), hd]; rfl
    · rw [if_neg fun hc => hd hc.1, if_neg fun hc => hd (Option.some.inj hc)]

theorem abortMeasurement_of_none (h : s.gauge.cell = none) : abortMeasurement s = s := by rw [abortMeasurement, h]

theorem abortMeasurement_gauge (h : s.gauge.cell ≠ none) : (abortMeasurement s).gauge =
    { s.gauge with
      phase := .idle, cell := none, inService := none, timeT := none, reused := false
      cells := (abortMeasurement s).gauge.cells } := by
  unfold abortMeasurement
  match hc : s.gauge.cell with
  | none => exact absurd hc h
  | some d => rfl

/-- R56: the first survey after a RESTART. -/
theorem surveyFrom_eq (tick : Word32) (cfg : Option CellConfig) : surveyFrom tick cfg = match cfg with
    | some k => if k.surveyPeriod = 0 then none else some (tick + BitVec.ofNat 32 k.surveyPeriod)
    | none => none := by
  cases cfg with
  | none => rfl
  | some k =>
    show (if 0 < k.surveyPeriod then _ else _) = ite _ _ _
    by_cases hk : k.surveyPeriod = 0
    · rw [if_neg (by omega), if_pos hk]
    · rw [if_pos (Nat.pos_of_ne_zero hk), if_neg hk]

theorem classifierAt_abandonAll (x : Nat) (h : x < 4) : classifierAt (abandonAll s) x =
    { config := (classifierAt s x).config, mode := .quiet, start := none } := by
  simp only [abandonAll, channels4, List.foldl, quietClassifier, classifierAt_onClassifier]
  interval_cases x <;> rfl

end

/-! ### RESTART -/

/-- The state that a RESTART leaves, its response apart (R198). -/
theorem actRestart_eq (s : State) : ∃ w p, (actRestart s).1 =
    { restartBlocks s with
      sched := { restartedSched s.sched with priority := haltsOf s nodes62 }
      placement := { s.placement with mode := .idle, run := none, winchCommand := w, pumpCommand := p }
      log := reserveLog (restartRecord s) s.log } := by
  obtain ⟨w, p, h⟩ := haltSweep_of_empty (s := restartBlocks s) (by rw [restartBlocks_eq]; rfl) (by rw [restartBlocks_eq]; rfl)
  refine ⟨w, p, ?_⟩
  show writeReserve (restartRecord s) (haltSweep (restartBlocks s)) = _
  rw [h, writeReserve_eq, restartBlocks_eq]; rfl

/-- R171: a response that is alone in the queue has a passed-over count of 0. -/
theorem answered_sched_of_first {s : State} (h : s.ring.responses = []) (tag code : Nat) (reason : Option Reason)
    (body : List Byte) : (answered tag code reason body s).sched = { s.sched with passedOver := 0 } := if_pos h

/-- R198: the HALT record of a RESTART. -/
theorem restartRecord_eq (s : State) : restartRecord s =
    { tick := now s, kind := .halt, unit := 6, slot := 255, detail := 32
      data := be 1 (restartSlots s).length ++ (restartSlots s).flatMap fun i => be 1 i ++ be 1 (match (anchorAt s i).phase with
        | .winching => 0
        | .grouting => 1
        | _ => 2) } := by
  have h (p : Phase) : haltedFromCode (haltedFromOf p) = match p with
      | .winching => 0
      | .grouting => 1
      | _ => 2 := by cases p <;> rfl
  simp only [restartRecord, counted, h]; rfl

/-- Settles O59, from the blocks, the sweep and the response. -/
theorem restartLeavesEveryBlockAsItsRule : Obligations.RestartLeavesEveryBlockAsItsRule := by
  intro s tag h
  obtain ⟨w, p, he⟩ := actRestart_eq s
  rw [restartBlocks_eq] at he
  have hpass : (actRestart s).1.passDue = false := by
    rw [he]; exact (passDue_of_takesNow h : s.passDue = false)
  have hexec : exec (.restart tag) s = .next (answered tag 0x62 none [] (actRestart s).1) := by
    show request tag 0x62 actRestart s = _
    rw [request_of_takesNow h]
    exact congrArg Host.Outcome.next (respond_of_none hpass)
  generalize ht : answered tag 0x62 none [] (actRestart s).1 = t at hexec
  have hanchor (slot : Nat) (hs : slot < 96) : anchorAt t slot = restartedAnchor (anchorAt s slot) := by
    rw [← ht, he]; exact look_map _ _ slot hs
  have hstress (n : Nat) (hn : n < 4) : stressAt t n = restartedStress (stressAt s n) := by
    rw [← ht, he]; exact look_map _ _ n hn
  have hcell (c : Nat) (hc : c < 4) : cellAt t c = restartedCell (now s) (cellAt (abortMeasurement s) c) := by
    rw [← ht, he]; exact look_map _ _ c hc
  have hgauge : t.gauge = { (abortMeasurement s).gauge with cells := t.gauge.cells } := by rw [← ht, he]; rfl
  refine ⟨t, hexec, fun slot hs => ⟨fun f hf => ?_, fun hw hg hs' => ?_⟩, by rw [← ht, he]; rfl, by rw [← ht, he]; rfl,
    by rw [← ht, he]; rfl, by rw [← ht, he]; rfl, fun hn => ?_, fun hn => ?_, fun c hc => ?_, fun n hn => ?_,
    by rw [← ht, he]; rfl, by rw [← ht, he]; rfl, by rw [← ht, he]; rfl, fun x hx => ?_, by rw [← ht, he]; rfl,
    by rw [← ht, he]; rfl, fun q hq => ?_, ?_, ?_, ?_, ?_, ?_, ?_, by rw [← ht, he]; rfl⟩
  · rw [hanchor slot hs, restartedAnchor_of_run hf]
  · rw [hanchor slot hs, restartedAnchor_of_rest hw hg hs']
  · rw [abortMeasurement_of_none hn] at hgauge; exact hgauge
  · rw [abortMeasurement_gauge hn] at hgauge; exact hgauge
  · rw [hcell c hc, cellAt_abortMeasurement c hc]
    unfold restartedCell
    congr 1
    exact surveyFrom_eq _ _
  · rw [workOf, hstress n hn, restartedStress]
    split
    case isTrue hm => exact ⟨rfl, rfl, fun _ => rfl, fun h => absurd hm h⟩
    case isFalse hm => exact ⟨rfl, rfl, fun h => absurd h hm, fun _ => ⟨rfl, rfl⟩⟩
  · rw [← ht, he]; exact classifierAt_abandonAll x hx
  · rw [← ht, he]; exact look_map _ _ q hq
  · have hlog : t.log = (writeReserve (restartRecord s) s).log := by rw [← ht, he, writeReserve_eq]; rfl
    exact hlog.trans (congrArg (fun r => (writeReserve r s).log) (restartRecord_eq s))
  · rw [← ht, he]; rfl
  · rw [← ht, answered_sched_of_first (s := (actRestart s).1) (by rw [he]; rfl), he]; rfl
  · rw [← ht, he]; rfl
  · rw [← ht, he]; exact (quiet_tickOpen h.1 : s.tickOpen = false)
  · rw [← ht]; exact hpass

end Sys2Proof.Machine
end

section
/-! SUPPORT. The beginning of a placement run (R121, R125) written as one record update, with the command that follows it. -/

namespace Sys2Proof.Machine

open Sys2Proof Sys2Proof.Config

section
variable (s : State)

/-- What a wanted drive touches beside the unit's recorded commands and the queue: nothing. -/
theorem wantDrive_frame (p : RunPhase) (d : Drive) :
    wantDrive p d s = { s with placement := (wantDrive p d s).placement, sched := (wantDrive p d s).sched } := by
  obtain h | ⟨q, h⟩ := wantDrive_cases s p d <;> rw [h]
  cases p <;> rfl

/-- A wanted drive that is recorded already is not presented (R117). -/
theorem wantDrive_of_recorded {p : RunPhase} {d : Drive} (h : recordedDrive s p = some d) : wantDrive p d s = s :=
  if_pos h

/-- A wanted drive that the queue takes is recorded (R117). -/
theorem wantDrive_of_taken {p : RunPhase} {d : Drive} (h : recordedDrive s p ≠ some d)
    (hq : queueTakes s (driveNode s p) (driveCommand p d) = true) : wantDrive p d s =
      recordDrive p d (s.onSched fun q =>
        { q with queue := queueWith (now s) (driveNode s p) (driveCommand p d) .pu q.queue }) := by
  rw [wantDrive, if_neg h, if_pos hq, present_of_taken s .pu hq]

/-- A wanted drive that the queue does not take changes nothing (R117). -/
theorem wantDrive_of_full {p : RunPhase} {d : Drive} (h : recordedDrive s p ≠ some d)
    (hq : queueTakes s (driveNode s p) (driveCommand p d) = false) : wantDrive p d s = s := by
  rw [wantDrive, if_neg h, if_neg (by rw [hq]; nofun)]

/-- R36: a zeroing request reaches the one channel, and that only where it is a COUNTER. -/
theorem channelAt_zeroTotal_other {m i : Nat} (h : i ≠ m) : channelAt (zeroTotal m s) i = channelAt s i := by
  rw [zeroTotal, channelAt_onChannel, if_neg fun hi => h hi.1.symm]

theorem channelAt_zeroTotal_counter {m : Nat} (h : m < 24) {a d l : Nat} (hc : (channelAt s m).config = .counter a d l) :
    channelAt (zeroTotal m s) m = { channelAt s m with total := some 0, value := some 0, mark := some .within } := by
  rw [zeroTotal, channelAt_onChannel, if_pos ⟨rfl, h⟩]
  split
  · rfl
  all_goals rename_i hk; exact absurd (hk.symm.trans hc) nofun

theorem zeroTotal_fresh (m i : Nat) : isFresh (zeroTotal m s) i = isFresh s i := (reader_zeroTotal s m).fresh i

/-- An anchor whose phase changes keeps its design. -/
theorem designOf_onPhase (slot : Nat) (f : Anchor → Phase) (i : Nat) :
    designOf (s.onAnchor slot fun a => { a with phase := f a }) i = designOf s i :=
  congrArg (Option.getD · default) ((frame_onAnchor s slot fun a => { a with phase := f a }).design i)

variable {s}

theorem totalChannel_eq {c : PlacementConfig} (hc : s.placement.config = some c) (p : RunPhase) :
    totalChannel s p = match p with
      | .winching => c.payout
      | .grouting => c.flow := by
  cases p
  · exact congrArg PlacementConfig.payout (placementConfig_of_config hc)
  · exact congrArg PlacementConfig.flow (placementConfig_of_config hc)

theorem phaseSpeed_eq {c : PlacementConfig} (hc : s.placement.config = some c) (p : RunPhase) :
    phaseSpeed s p = match p with
      | .winching => c.winchSpeed
      | .grouting => c.pumpSpeed := by
  cases p
  · exact congrArg PlacementConfig.winchSpeed (placementConfig_of_config hc)
  · exact congrArg PlacementConfig.pumpSpeed (placementConfig_of_config hc)

theorem starvedNow_eq {c : PlacementConfig} (hc : s.placement.config = some c) (p : RunPhase) :
    starvedNow s p = match p with
      | .winching => !isFresh s c.payout
      | .grouting => !isFresh s c.flow || !isFresh s c.ret := by
  cases p
  · exact starvedNow_winching hc
  · exact starvedNow_grouting hc

/-- R121, R125: the START record of a run. -/
def placementStart (p : RunPhase) (slot : Nat) (s : State) : LogRecord :=
  { tick := now s, kind := .start, unit := unitPU, slot := slot, detail := 0
    data := be 2 (designOf s slot).anchorId ++ be 1 (runPhaseCode p) ++ beInt 3 (valueOf s (totalChannel s p))
      ++ be 1 (phaseSpeed s p) }

/-- The run items of a run that begins (R121, R125). -/
def freshRun (p : RunPhase) (slot : Nat) (s : State) : Run :=
  { slot := slot, pausedFrom := none, elapsed := 0, speed := phaseSpeed s p, starved := starvedNow s p, pointCounter := 0 }

/-- A run that begins, its first command apart, as one record update. -/
theorem runBegun_eq (p : RunPhase) (slot : Nat) (s : State) : runBegun p slot s =
    { s with
      anchorTable := (s.onAnchor slot fun a => { a with phase := phaseAnchor p }).anchorTable
      measure := (zeroTotal (totalChannel s p) s).measure
      placement := { s.placement with mode := phaseMode p, run := some (freshRun p slot s) }
      log := ordinaryLog (placementStart p slot s) s.log } := by
  have hd : designOf (s.onAnchor slot fun a => { a with phase := phaseAnchor p }) slot = designOf s slot :=
    designOf_onPhase s slot (fun _ => phaseAnchor p) slot
  have hs : starvedNow (zeroTotal (totalChannel s p) s) p = starvedNow s p := by
    cases p
    · exact congrArg (!·) (zeroTotal_fresh s _ _)
    · exact congrArg₂ (fun a b => !a || !b) (zeroTotal_fresh s _ _) (zeroTotal_fresh s _ _)
  rw [freshRun, placementStart, ← hs, ← hd]
  cases p <;> rfl

end

/-- Settles O41, from the beginning of a run as one record update and the three answers of the queue to its command. -/
theorem runsBeginAsOneChange : Obligations.RunsBeginAsOneChange := by
  intro s p slot c hc hslot t total starved speed drive start
  have htotal : totalChannel s p = total := totalChannel_eq hc p
  have hspeed : phaseSpeed s p = speed := phaseSpeed_eq hc p
  have hstarved : starvedNow s p = starved := starvedNow_eq hc p
  have hstart : placementStart p slot s = start := by rw [placementStart, htotal, hspeed]
  generalize hu : runBegun p slot s = u
  have hdrive : wantedDrive (runOf u) = drive := by
    rw [← hu, runBegun_eq]
    show (if starvedNow s p = true then Drive.stop else .run (phaseSpeed s p)) = _
    rw [hstarved, hspeed]
  have ht : t = wantDrive p drive u := by rw [← hdrive, ← hu]; exact beginRun_eq p slot s
  have heq := ht.trans (wantDrive_frame u p drive)
  rw [runBegun_eq] at hu
  have hnode : driveNode u p = driveNode s p := by rw [← hu]; cases p <;> rfl
  have hrec : recordedDrive u p = recordedDrive s p := by rw [← hu]; cases p <;> rfl
  have htakes (a : Nat) (k : Command) : queueTakes u a k = queueTakes s a k := by rw [← hu]; rfl
  have hmeasure (m : Nat) : channelAt t m = channelAt (zeroTotal total s) m := by rw [heq, ← hu, ← htotal]; rfl
  refine ⟨beginRun_mode p slot s, ?_, anchorAt_beginRun hslot p s, fun i hi => ?_, fun m d l hm hk => ?_, fun m hm => ?_,
    ?_, fun hr => ?_, fun hr hq => ?_, fun hr hq => ?_, ?_, ?_, ?_, ?_, ?_, ?_⟩
  · rw [ht, wantDrive_run, ← hu]
    show some (freshRun p slot s) = _
    rw [freshRun, hspeed, hstarved]
  · rw [anchorAt_of_slots (congrArg AnchorTable.slots (beginRun_anchorTable p slot s)), anchorAt_onAnchor_other hi]
  · rw [hmeasure, channelAt_zeroTotal_counter s hm hk]
  · rw [hmeasure, channelAt_zeroTotal_other s hm]
  · rw [heq, ← hu, ← hstart]; rfl
  · rw [ht, wantDrive_of_recorded u (hrec.trans hr), hrec, ← hu]
    exact ⟨rfl, hr⟩
  · rw [ht, wantDrive_of_taken u (hrec ▸ hr) (by rw [hnode, htakes, hq]), recordedDrive_recordDrive, hnode, ← hu]
    exact ⟨rfl, by cases p <;> rfl⟩
  · rw [ht, wantDrive_of_full u (hrec ▸ hr) (by rw [hnode, htakes, hq]), hrec, ← hu]
    exact ⟨rfl, rfl⟩
  all_goals rw [heq, ← hu]

end Sys2Proof.Machine
end

section
/-! SUPPORT. What is in use (R28, R45, R135), CONFIG_CHANNEL (R27) and LOAD_TABLE (R41, R42). -/

namespace Sys2Proof.Machine

open Sys2Proof Sys2Proof.Config

/-! ### In use -/

section
variable (s : State)

theorem mem_channels4 (n : Nat) : n ∈ channels4 ↔ n < 4 := by
  rw [show channels4 = List.range 4 from rfl, List.mem_range]

theorem any_channels4 (p : Nat → Bool) : channels4.any p = true ↔ ∃ n, n < 4 ∧ p n = true := by
  simp only [List.any_eq_true, mem_channels4]

/-- R28: how a channel serves a stressing channel. -/
theorem servesStress_iff (m n : Nat) : servesStress s m n = true ↔ holdsAnchor s n = true
    ∧ ((bindingOf s n).force = m ∨ (bindingOf s n).extension = m ∨ (bindingOf s n).seat = m
      ∨ ∃ c, (cellAt s (bindingOf s n).cell).config = some c ∧ c.output = m) := by
  rw [servesStress, Bool.and_eq_true]
  refine and_congr_right fun _ => ?_
  cases (cellAt s (bindingOf s n).cell).config <;> simp [or_assoc]

theorem placementNames_iff (c : PlacementConfig) (m : Nat) : placementNames c m = true ↔
    c.payout = m ∨ c.tension = m ∨ c.flow = m ∨ c.pressure = m ∨ c.ret = m := by
  simp [placementNames, or_assoc]

/-- A placement unit at work whose configuration meets a condition. -/
theorem busy_config_iff (f : PlacementConfig → Bool) :
    (placementBusy s && (match s.placement.config with
      | some c => f c
      | none => false)) = true ↔ s.placement.mode ≠ .idle ∧ ∃ c, s.placement.config = some c ∧ f c = true := by
  rw [Bool.and_eq_true, placementBusy_iff]
  refine and_congr_right fun _ => ?_
  cases s.placement.config <;> simp

theorem channelInUse_iff (m : Nat) : channelInUse s m = true ↔
    (∃ n, n < 4 ∧ servesStress s m n = true)
      ∨ (s.placement.mode ≠ .idle ∧ ∃ c, s.placement.config = some c ∧ placementNames c m = true) := by
  rw [← any_channels4, ← busy_config_iff s fun c => placementNames c m, ← Bool.or_eq_true]; rfl

theorem namesTable_iff (c : ChanConfig) (t : Nat) :
    namesTable c t = true ↔ ∃ l, c = .calibrated t l ∨ c = .gauge t l := by
  cases c <;> simp [namesTable]

theorem tableInUse_iff (t : Nat) : tableInUse s t = true ↔
    ∃ m, m < 24 ∧ channelInUse s m = true
      ∧ ∃ l, (channelAt s m).config = .calibrated t l ∨ (channelAt s m).config = .gauge t l := by
  simp only [tableInUse, List.any_eq_true, List.mem_range, Bool.and_eq_true, namesTable_iff, and_comm]

theorem cellInUse_iff (c : Nat) : cellInUse s c = true ↔
    ∃ n, n < 4 ∧ holdsAnchor s n = true ∧ (bindingOf s n).cell = c := by
  rw [cellInUse, any_channels4]
  simp only [Bool.and_eq_true, beq_iff_eq]

theorem classifierInUse_iff (x : Nat) : classifierInUse s x = true ↔
    s.placement.mode ≠ .idle ∧ ∃ c, s.placement.config = some c ∧ (c.tensionX = some x ∨ c.pressureX = some x) := by
  have h := busy_config_iff s fun c => c.tensionX == some x || c.pressureX == some x
  simp only [Bool.or_eq_true, beq_iff_eq] at h
  rw [← h]; rfl

end

/-! ### CONFIG_CHANNEL -/

/-- The checks of CONFIG_CHANNEL in their order, and the configured channel presented where it was FRESH (R27). -/
theorem exec_configChannel {s : State} (h : takesNow s) (tag m : Nat) (c : ChanConfig) :
    exec (.configChannel tag m c) s = .next (
      if 23 < m then refused tag 0x20 .badValue s
      else if channelInUse s m = true then refused tag 0x20 .inUse s
      else if chanConfigInRange c = true ∧ tableLoaded s c = true then
        runPass (answered tag 0x20 none [] (if isFresh s m then presentStale m (s.onChannel m fun _ => configured s c)
          else s.onChannel m fun _ => configured s c))
      else refused tag 0x20 .badValue s) := by
  have hp := passDue_of_takesNow h
  show request tag 0x20 (actConfigChannel m c) s = _
  rw [request_of_takesNow h, actConfigChannel, respond_numbered _ _ _ hp]
  exact congrArg Host.Outcome.next (if_congr .rfl rfl (respond_check hp .rfl
    (respond_check_last hp (Bool.and_eq_true _ _ ▸ .rfl) (respond_done_run _))))

/-- Settles O21, from the checks of CONFIG_CHANNEL in their order and each "in use" apart. -/
theorem configChannelStartsTheChannel : Obligations.ConfigChannelStartsTheChannel := by
  refine ⟨fun s tag m c h => ?_, fun s m => ?_, tableInUse_iff, cellInUse_iff, classifierInUse_iff⟩
  · intro blank initial
    have hi : configured s c = initial := by simp only [initial, blank]; cases c <;> rfl
    simp only [exec_configChannel h, hi]
    refine ⟨fun hm => by rw [if_pos hm], fun hm hu => ?_, fun hm hu hb => ?_, fun hm hu hc hl hf => ?_,
      fun hm hu hc hl hf => ?_⟩ <;> rw [if_neg (Nat.not_lt.2 hm)]
    · rw [if_pos hu]
    · rw [if_neg (by rw [hu]; nofun), if_neg hb]
    · rw [if_neg (by rw [hu]; nofun), if_pos ⟨hc, hl⟩, if_neg (by rw [hf]; nofun), runPass_of_none]
      exact (passDue_of_takesNow h : s.passDue = false)
    · rw [if_neg (by rw [hu]; nofun), if_pos ⟨hc, hl⟩, if_pos hf]
  · simp only [channelInUse_iff, servesStress_iff, placementNames_iff]

/-! ### LOAD_TABLE -/

section
variable (t : Nat) (bps : List (Nat × Int)) (c : Channel)

/-- R42: a channel that names another table, or none, keeps its value. -/
theorem reconvert_of_other (h : namesTable c.config t = false) : reconvert t bps c = c := by
  unfold reconvert
  cases hc : c.config with
  | calibrated u l => exact if_neg (by simpa [namesTable, hc] using h)
  | gauge u l => exact if_neg (by simpa [namesTable, hc] using h)
  | _ => rfl

theorem reconvert_of_calibrated {l : Nat} (h : c.config = .calibrated t l) : reconvert t bps c =
    { c with value := some (convert bps (c.lastRaw.getD 0).toNat).1, mark := some (convert bps (c.lastRaw.getD 0).toNat).2 } := by
  unfold reconvert
  dsimp only; split
  case h_1 u k hk => cases hk.symm.trans h; exact if_pos rfl
  all_goals rename_i hk; exact absurd (hk.symm.trans h) nofun

theorem reconvert_of_gauge {l : Nat} (h : c.config = .gauge t l) : reconvert t bps c =
    { c with
      value := some (convert bps (c.lastRaw.getD 0).toNat).1
      mark := some (gaugeMark (c.saturated.getD false) (convert bps (c.lastRaw.getD 0).toNat).2) } := by
  unfold reconvert
  dsimp only; split
  case h_2 u k hk => cases hk.symm.trans h; exact if_pos rfl
  all_goals rename_i hk; exact absurd (hk.symm.trans h) nofun

end

/-- R37: the mark of a GAUGE value, by the saturated item. -/
theorem gaugeMark_getD (b : Option Bool) (k : Mark) :
    gaugeMark (b.getD false) k = if b = some true then .over else k := by
  match b with
  | none => rfl
  | some true => rfl
  | some false => rfl

theorem exec_loadTable {s : State} (h : takesNow s) (tag t : Nat) (bps : List (Nat × Int)) :
    exec (.loadTable tag t bps) s = .next (
      if 15 < t then refused tag 0x22 .badValue s
      else if tableInUse s t = true then refused tag 0x22 .inUse s
      else if tableInRange bps = true then answered tag 0x22 none [] (replaceTable t bps s)
      else refused tag 0x22 .badValue s) := by
  have hp := passDue_of_takesNow h
  show request tag 0x22 (actLoadTable t bps) s = _
  rw [request_of_takesNow h, actLoadTable, respond_numbered _ _ _ hp]
  exact congrArg Host.Outcome.next (if_congr .rfl rfl (respond_check hp .rfl (respond_check_last hp .rfl (respond_done _ hp))))

/-- Settles O22, from the checks of LOAD_TABLE in their order and the reconversion of one channel by its kind. -/
theorem loadTableReconvertsItsChannels : Obligations.LoadTableReconvertsItsChannels := by
  intro s tag t bps h
  simp only [exec_loadTable h]
  refine ⟨fun ht => by rw [if_pos ht], fun ht hu => ?_, fun ht hu hr => ?_, fun ht hu hr =>
    ⟨(replaceTable t bps s).measure, ?_, rfl, fun m hm => ?_⟩⟩
  · rw [if_neg (Nat.not_lt.2 ht), if_pos hu]
  · rw [if_neg (Nat.not_lt.2 ht), if_neg (by rw [hu]; nofun), if_neg (by rw [hr]; nofun)]
  · rw [if_neg (Nat.not_lt.2 ht), if_neg (by rw [hu]; nofun), if_pos hr]; rfl
  · have hc : look (replaceTable t bps s).measure.channels m = reconvert t bps (channelAt s m) :=
      look_map s.measure.channels _ m hm
    rw [hc]
    refine ⟨fun l hk => reconvert_of_calibrated t bps _ hk, fun l hk => ?_, fun hk => reconvert_of_other t bps _ ?_⟩
    · rw [reconvert_of_gauge t bps _ hk, gaugeMark_getD]
    · rw [← Bool.not_eq_true, namesTable_iff]
      exact fun ⟨l, hl⟩ => hl.elim (hk l).1 (hk l).2

end Sys2Proof.Machine
end

section
/-! SUPPORT. Conversion through a table (R33): the breakpoints passed, the segment found, and the rounding between two. -/

namespace Sys2Proof.Machine

open Sys2Proof Sys2Proof.Config

/-! ### Rounding (00) -/

/-- 00: the nearest integer to a quotient, at most a half away, and a half away only away from zero. -/
theorem roundDiv_nearest (n : Int) {d : Nat} (hd : 0 < d) :
    2 * (roundDiv n d * d - n).natAbs ≤ d
      ∧ (2 * (roundDiv n d * d - n).natAbs = d → n.natAbs ≤ (roundDiv n d * d).natAbs) := by
  have hq : 2 * d * ((2 * n.natAbs + d) / (2 * d)) ≤ 2 * n.natAbs + d := Nat.mul_div_le _ _
  have hr : 2 * n.natAbs + d < 2 * d * ((2 * n.natAbs + d) / (2 * d) + 1) := Nat.lt_mul_div_succ _ (by omega)
  unfold roundDiv
  generalize (2 * n.natAbs + d) / (2 * d) = q at hq hr ⊢
  rw [Nat.mul_add] at hr
  rw [Nat.mul_assoc] at hq hr
  have hp : ((q : Int) * d) = ((d * q : Nat) : Int) := by rw [Nat.mul_comm]; push_cast; rfl
  dsimp only
  split
  · rw [Int.neg_mul, hp]; omega
  · rw [hp]; omega

/-- A quotient between two whole numbers is rounded to one between them. -/
theorem roundDiv_between {n lo hi : Int} {d : Nat} (hd : 0 < d) (hlo : lo * d ≤ n) (hhi : n ≤ hi * d) :
    lo ≤ roundDiv n d ∧ roundDiv n d ≤ hi := by
  have hn := (roundDiv_nearest n hd).1
  generalize roundDiv n d = q at hn ⊢
  have hd' : (0 : Int) ≤ d := Int.natCast_nonneg d
  have below : (lo - 1) * d < q * d := by rw [Int.sub_mul]; omega
  have above : q * d < (hi + 1) * d := by rw [Int.add_mul]; omega
  have := Int.lt_of_mul_lt_mul_right below hd'
  have := Int.lt_of_mul_lt_mul_right above hd'
  omega

/-- 00: a value on the way from one breakpoint's value to the next one's lies between the two. -/
theorem interpolated_between {v w lo hi : Int} {e d : Nat} (hd : 0 < d) (he : e ≤ d) (hv : lo ≤ v ∧ v ≤ hi)
    (hw : lo ≤ w ∧ w ≤ hi) : lo ≤ v + roundDiv ((w - v) * e) d ∧ v + roundDiv ((w - v) * e) d ≤ hi := by
  have he' : (e : Int) ≤ d := Int.ofNat_le.2 he
  have h0 : (0 : Int) ≤ e := Int.natCast_nonneg e
  have step : min 0 (w - v) ≤ roundDiv ((w - v) * e) d ∧ roundDiv ((w - v) * e) d ≤ max 0 (w - v) := by
    refine roundDiv_between hd ?_ ?_
    · obtain h | h := Int.le_total 0 (w - v)
      · rw [Int.min_eq_left h, Int.zero_mul]; exact Int.mul_nonneg h h0
      · rw [Int.min_eq_right h]; exact Int.mul_le_mul_of_nonpos_left h he'
    · obtain h | h := Int.le_total 0 (w - v)
      · rw [Int.max_eq_right h]; exact Int.mul_le_mul_of_nonneg_left he' h
      · rw [Int.max_eq_left h, Int.zero_mul]; exact Int.mul_nonpos_of_nonpos_of_nonneg h h0
  omega

/-! ### Conversion (R33) -/

/-- R41: the raw values of a table rise from each breakpoint to every later one. -/
theorem rawsRise_pairwise : ∀ {bps : List (Nat × Int)}, rawsRise bps = true → bps.Pairwise fun a b => a.1 < b.1
  | [], _ => .nil
  | [_], _ => List.pairwise_singleton _ _
  | a :: b :: rest, h => by
    simp only [rawsRise, Bool.and_eq_true, decide_eq_true_eq] at h
    obtain ⟨hab, hrest⟩ := h
    have ih := rawsRise_pairwise hrest
    refine List.pairwise_cons.2 ⟨fun c hc => ?_, ih⟩
    obtain rfl | hc := List.mem_cons.1 hc
    · exact hab
    · exact hab.trans ((List.pairwise_cons.1 ih).1 c hc)

section
variable {x : Nat}

theorem convertFrom_cons (p a : Nat × Int) (rest : List (Nat × Int)) : convertFrom x p (a :: rest) =
    if x = a.1 then (a.2, .within)
    else if x < a.1 then (p.2 + roundDiv ((a.2 - p.2) * ((x : Int) - p.1)) (a.1 - p.1), .within)
    else convertFrom x a rest := rfl

theorem convert_cons (a : Nat × Int) (rest : List (Nat × Int)) : convert (a :: rest) x =
    if x < a.1 then (a.2, .under) else if x = a.1 then (a.2, .within) else convertFrom x a rest := rfl

/-- The search passes the breakpoints below the raw value. -/
theorem convertFrom_past {a : Nat × Int} (ha : a.1 < x) (rest : List (Nat × Int)) :
    ∀ (front : List (Nat × Int)) (p : Nat × Int), (∀ b ∈ front, b.1 < x) →
      convertFrom x p (front ++ a :: rest) = convertFrom x a rest
  | [], p, _ => by rw [List.nil_append, convertFrom_cons, if_neg (by omega), if_neg (by omega)]
  | b :: front, p, h => by
    have hb : b.1 < x := h b List.mem_cons_self
    rw [List.cons_append, convertFrom_cons, if_neg (by omega), if_neg (by omega)]
    exact convertFrom_past ha rest front b fun c hc => h c (List.mem_cons_of_mem b hc)

/-- A raw value above a breakpoint is converted by what follows the breakpoint. -/
theorem convert_past {front rest : List (Nat × Int)} {a : Nat × Int} (hp : (front ++ a :: rest).Pairwise fun a b => a.1 < b.1)
    (ha : a.1 < x) : convert (front ++ a :: rest) x = convertFrom x a rest := by
  have hf : ∀ b ∈ front, b.1 < x := fun b hb => ((List.pairwise_append.1 hp).2.2 b hb a List.mem_cons_self).trans ha
  cases front with
  | nil => rw [List.nil_append, convert_cons, if_neg (by omega), if_neg (by omega)]
  | cons c front =>
    have hc : c.1 < x := hf c List.mem_cons_self
    rw [List.cons_append, convert_cons, if_neg (by omega), if_neg (by omega)]
    exact convertFrom_past ha rest front c fun b hb => hf b (List.mem_cons_of_mem c hb)

/-- On a breakpoint the value is the breakpoint's. -/
theorem convert_on {front back : List (Nat × Int)} {b : Nat × Int} (hp : (front ++ b :: back).Pairwise fun a b => a.1 < b.1)
    (hb : b.1 = x) : convert (front ++ b :: back) x = (b.2, .within) := by
  obtain rfl | ⟨front', a, rfl⟩ := front.eq_nil_or_concat
  · rw [List.nil_append, convert_cons, if_neg (by omega), if_pos hb.symm]
  · have ha : a.1 < b.1 := (List.pairwise_append.1 hp).2.2 a (by simp) b List.mem_cons_self
    rw [List.concat_append] at hp ⊢
    rw [convert_past hp (by omega), convertFrom_cons, if_pos hb.symm]

/-- Between two neighbouring breakpoints the value is interpolated. -/
theorem convert_between {front back : List (Nat × Int)} {a b : Nat × Int}
    (hp : (front ++ a :: b :: back).Pairwise fun a b => a.1 < b.1) (ha : a.1 < x) (hb : x < b.1) :
    convert (front ++ a :: b :: back) x =
      (a.2 + roundDiv ((b.2 - a.2) * ((x : Int) - a.1)) (b.1 - a.1), .within) := by
  rw [convert_past hp ha, convertFrom_cons, if_neg (by omega), if_pos hb]

/-- What follows a breakpoint converts to a value between the bounds of the table's values. -/
theorem convertFrom_bounded {lo hi : Int} : ∀ (rest : List (Nat × Int)) (p : Nat × Int), p.1 < x → (lo ≤ p.2 ∧ p.2 ≤ hi) →
    (∀ b ∈ rest, lo ≤ b.2 ∧ b.2 ≤ hi) → lo ≤ (convertFrom x p rest).1 ∧ (convertFrom x p rest).1 ≤ hi
  | [], p, _, hv, _ => hv
  | a :: rest, p, hx, hv, h => by
    have ha := h a List.mem_cons_self
    rw [convertFrom_cons]
    split
    · exact ha
    · split
      · have he : ((x : Int) - p.1) = ((x - p.1 : Nat) : Int) := by omega
        rw [he]
        exact interpolated_between (by omega) (by omega) hv ha
      · exact convertFrom_bounded rest a (by omega) ha fun b hb => h b (List.mem_cons_of_mem a hb)

theorem convert_bounded {lo hi : Int} {bps : List (Nat × Int)} (hne : bps.length ≠ 0)
    (h : ∀ b ∈ bps, lo ≤ b.2 ∧ b.2 ≤ hi) : lo ≤ (convert bps x).1 ∧ (convert bps x).1 ≤ hi := by
  cases bps with
  | nil => exact absurd rfl hne
  | cons a rest =>
    have ha := h a List.mem_cons_self
    rw [convert_cons]
    split
    · exact ha
    · split
      · exact ha
      · exact convertFrom_bounded rest a (by omega) ha fun b hb => h b (List.mem_cons_of_mem a hb)

end

end Sys2Proof.Machine
end
section
/-! SUPPORT. What a delivery makes of a channel of each kind (R30 to R37), and the presentation of its sample to the readers
(R32, R68, R136). -/

namespace Sys2Proof.Machine

open Sys2Proof Sys2Proof.Config

/-! ### Deliveries by kind -/

section
variable (s : State) (raw : Word32) (g : Nat) (sat : Bool) {c : Channel}

theorem deliverRaw_calibrated {t l : Nat} (h : c.config = .calibrated t l) :
    deliverRaw s raw c = some (sampled (now s) raw (convert (tableAt s t) raw.toNat) c) := by rw [deliverRaw, h]

theorem deliverRaw_scaled {m o : Int} {d l : Nat} (h : c.config = .scaled m d o l) :
    deliverRaw s raw c = some (sampled (now s) raw (convertScaled m d o raw.toNat) c) := by rw [deliverRaw, h]

theorem deliverRaw_counter {m d l : Nat} (h : c.config = .counter m d l) : deliverRaw s raw c =
    some { sampled (now s) raw (accumulate m d c.lastRaw (c.total.getD 0) raw,
        totalMark (accumulate m d c.lastRaw (c.total.getD 0) raw)) c with
      total := some (accumulate m d c.lastRaw (c.total.getD 0) raw) } := by rw [deliverRaw, h]

theorem deliverReading_gauge {t l : Nat} (h : c.config = .gauge t l) : deliverReading s g sat c =
    some { sampled (now s) (BitVec.ofNat 32 g) ((convert (tableAt s t) g).1, gaugeMark sat (convert (tableAt s t) g).2) c with
      saturated := some sat } := by rw [deliverReading, h]

/-- R31: the kinds that take no reading. -/
theorem deliverReading_none (h : ∀ t l, c.config ≠ .gauge t l) : deliverReading s g sat c = none := by
  unfold deliverReading; split
  case h_1 t l hc => exact absurd hc (h t l)
  all_goals rfl

/-- R34: a SCALED value is cut off at the ends of the force range. -/
theorem convertScaled_eq (m o : Int) (d x : Nat) : convertScaled m d o x =
    (max (-8388608) (min 8388607 (roundDiv ((x : Int) * m) d + o)),
      if 8388607 < roundDiv ((x : Int) * m) d + o then .over
      else if roundDiv ((x : Int) * m) d + o < -8388608 then .under else .within) := by
  unfold convertScaled
  dsimp only
  generalize roundDiv ((x : Int) * m) d + o = v
  by_cases hi : 8388607 < v
  · rw [if_pos hi, if_pos hi]; exact congrArg (·, Mark.over) (show (8388607 : Int) = _ by omega)
  · by_cases lo : v < -8388608
    · rw [if_neg hi, if_pos lo, if_neg hi, if_pos lo]; exact congrArg (·, Mark.under) (show (-8388608 : Int) = _ by omega)
    · rw [if_neg hi, if_neg lo, if_neg hi, if_neg lo]; exact congrArg (·, Mark.within) (by omega)

/-- R30, R38: a channel that takes a raw value is FRESH, with the tick's stamp. -/
theorem deliverRaw_stamp {k : Channel} (h : deliverRaw s raw k = some c) : c.stamp = some (now s) ∧ c.fresh = true := by
  unfold deliverRaw at h
  split at h <;> cases h <;> exact ⟨rfl, rfl⟩

/-- R31, R38: a channel that takes a reading is FRESH, with the tick's stamp. -/
theorem deliverReading_stamp {k : Channel} (h : deliverReading s g sat k = some c) :
    c.stamp = some (now s) ∧ c.fresh = true := by
  unfold deliverReading at h
  split at h <;> cases h
  exact ⟨rfl, rfl⟩

/-- R31: a channel keeps its kind at a reading. -/
theorem deliverReading_config {k : Channel} (h : deliverReading s g sat k = some c) : c.config = k.config := by
  unfold deliverReading at h
  split at h <;> cases h
  rfl

end

/-! ### The readers of a sample -/

section
variable (s : State)

theorem channelAt_onChannel_same {m : Nat} (h : m < 24) (f : Channel → Channel) :
    channelAt (s.onChannel m f) m = f (channelAt s m) := by rw [channelAt_onChannel, if_pos ⟨rfl, h⟩]

/-- R32: a sample is presented with the value and the mark of its channel. -/
theorem presentSample_of_value {m : Nat} {v : Int} {k : Mark} (hv : (channelAt s m).value = some v)
    (hk : (channelAt s m).mark = some k) : presentSample m s =
      observe (.sample m v) (channels4.foldl (classifierSample m v) (placementSample m
        (channels4.foldl (fun u n => stressSample m n v k u) s))) := by
  have hval : valueOf s m = v := by rw [valueOf, hv]; rfl
  have hmark : markOf s m = k := by rw [markOf, hk]; rfl
  rw [← hval, ← hmark]; rfl

/-- R32: what a delivery that the channel takes presents, and what it leaves of the channel. -/
theorem presentSample_delivered {m : Nat} (h : m < 24) {c : Channel} (hc : c.stamp = some (now s) ∧ c.fresh = true) :
    (∀ v, c.value = some v → ∀ k, c.mark = some k → presentSample m (s.onChannel m fun _ => c) =
        observe (.sample m v) (channels4.foldl (classifierSample m v) (placementSample m
          (channels4.foldl (fun u n => stressSample m n v k u) (s.onChannel m fun _ => c)))))
      ∧ (channelAt (presentSample m (s.onChannel m fun _ => c)) m).lastRaw = c.lastRaw
      ∧ (channelAt (presentSample m (s.onChannel m fun _ => c)) m).stamp = some (now s)
      ∧ (channelAt (presentSample m (s.onChannel m fun _ => c)) m).fresh = true
      ∧ ReaderFrame (s.onChannel m fun _ => c) (presentSample m (s.onChannel m fun _ => c)) := by
  have hs : channelAt (s.onChannel m fun _ => c) m = c := channelAt_onChannel_same s h _
  have hr := reader_presentSample (s.onChannel m fun _ => c) m
  refine ⟨fun v hv k hk => presentSample_of_value _ (by rw [hs, hv]) (by rw [hs, hk]), ?_, ?_, ?_, hr⟩
  · rw [hr.lastRaw, hs]
  · rw [hr.stamp, hs, hc.1]
  · rw [hr.fresh, hs, hc.2]

theorem deliver_of_taken {m : Nat} {raw : Word32} {c : Channel} (h : deliverRaw s raw (channelAt s m) = some c) :
    deliver m raw s = presentSample m (s.onChannel m fun _ => c) := by rw [deliver, h]

theorem deliver_of_discarded {m : Nat} {raw : Word32} (h : deliverRaw s raw (channelAt s m) = none) :
    deliver m raw s = s := by rw [deliver, h]

theorem deliverGauge_of_taken {m g : Nat} {sat : Bool} {c : Channel} (h : deliverReading s g sat (channelAt s m) = some c) :
    deliverGauge m g sat s = presentSample m (s.onChannel m fun _ => c) := by rw [deliverGauge, h]

theorem deliverGauge_of_discarded {m g : Nat} {sat : Bool} (h : deliverReading s g sat (channelAt s m) = none) :
    deliverGauge m g sat s = s := by rw [deliverGauge, h]

theorem isSeating_iff (n : Nat) :
    isSeating s n = true ↔ (stressAt s n).mode = .locking ∧ (workOf s n).progress = some .seating := by
  rw [isSeating, Bool.and_eq_true, beq_iff_eq, beq_iff_eq]

/-- R68: the force, and then the extension, that a sample is to a stressing channel. -/
def forceAndExtension (m n : Nat) (v : Int) (k : Mark) : State :=
  let forced := if (bindingOf s n).force = m then forceSample n v k s else s
  if (bindingOf s n).extension = m then extensionSample n v forced else forced

/-- R68, R103: a sample as the seat mask comes last, where the window was open before it and still is. -/
theorem stressSample_of_holds {n : Nat} (h : holdsAnchor s n = true) (m : Nat) (v : Int) (k : Mark) :
    stressSample m n v k s =
      if (bindingOf s n).seat = m ∧ isSeating s n = true ∧ isSeating (forceAndExtension s m n v k) n = true then
        seatSample n v (forceAndExtension s m n v k)
      else forceAndExtension s m n v k := by
  rw [stressSample]
  dsimp only
  rw [if_neg (by rw [h]; nofun)]
  exact if_congr (by simp only [Bool.and_eq_true, decide_eq_true_eq, and_assoc]; rfl) rfl rfl

/-- R136: a classifier takes the samples of its own channel alone. -/
theorem classifierSample_of_other {m x : Nat} (v : Int) (h : ∀ c, (classifierAt s x).config = some c → c.watched ≠ m) :
    classifierSample m v s x = s := by
  unfold classifierSample; split
  · exact if_neg (h _ ‹_›)
  · rfl

end

/-- Settles O23, from the segments of a table, the kinds of a channel and the readers of a sample. -/
theorem conversionFollowsTheTableAndTheKind : Obligations.ConversionFollowsTheTableAndTheKind := by
  refine ⟨fun bps x hne hr => ?_, fun s raw g sat c => ?_, fun s m hm => ?_, fun s m n v k hn => ?_,
    fun s m x v h => classifierSample_of_other s v h⟩
  · have hp := rawsRise_pairwise hr
    refine ⟨?_, ?_, fun b hb hx => ?_, ?_, fun lo hi h => convert_bounded hne h⟩
    · rintro a rest rfl hx
      rw [convert_cons, if_pos hx]
    · rintro z front rfl hx
      rw [convert_past hp hx]; rfl
    · obtain ⟨front, back, rfl⟩ := List.append_of_mem hb
      exact convert_on hp hx
    · rintro front back a b rfl ha hb
      have hd : ((b.1 - a.1 : Nat) : Int) = (b.1 : Int) - a.1 := by omega
      have hn := roundDiv_nearest ((b.2 - a.2) * ((x : Int) - a.1)) (d := b.1 - a.1) (by omega)
      rw [convert_between hp ha hb, add_sub_cancel_left, ← hd]
      exact ⟨rfl, hn⟩
  · intro taken
    refine ⟨fun t l h => ⟨deliverRaw_calibrated s raw h, deliverReading_none s g sat (by rw [h]; nofun)⟩,
      fun m d o l h => ⟨?_, deliverReading_none s g sat (by rw [h]; nofun)⟩,
      fun m d l h => ⟨deliverRaw_counter s raw h, deliverReading_none s g sat (by rw [h]; nofun)⟩,
      fun t l h => ⟨by rw [deliverRaw, h], deliverReading_gauge s g sat h⟩,
      fun h => ⟨by rw [deliverRaw, h], deliverReading_none s g sat (by rw [h]; nofun)⟩⟩
    rw [deliverRaw_scaled s raw h, convertScaled_eq]; rfl
  · intro presents
    refine ⟨fun raw c h => ?_, fun g sat c h => ?_, fun raw h => deliver_of_discarded s h,
      fun g sat h => deliverGauge_of_discarded s h⟩
    · rw [deliver_of_taken s h]
      exact presentSample_delivered s hm (deliverRaw_stamp s raw h)
    · rw [deliverGauge_of_taken s h]
      exact presentSample_delivered s hm (deliverReading_stamp s g sat h)
  · intro b seats forced stretched
    have heq : stressSample m n v k s =
        if b.seat = m ∧ isSeating s n = true ∧ isSeating stretched n = true then seatSample n v stretched else stretched :=
      stressSample_of_holds s hn m v k
    simp only [isSeating_iff] at heq
    refine ⟨fun hf he hs => ?_, fun hf he hs => ?_, fun hf he hs => ?_, fun hs h1 h2 => ?_, fun hs h => ?_⟩
    · rw [heq, if_neg fun h => hs h.1]
      exact (if_neg he).trans (if_pos hf)
    · rw [heq, if_neg fun h => hs h.1]
      exact (if_pos he).trans (congrArg (extensionSample n v) (if_neg hf))
    · rw [heq, if_neg fun h => hs h.1]
      exact (if_neg he).trans (if_neg hf)
    · rw [heq, if_pos ⟨hs, h1, h2⟩]
    · rw [heq, if_neg fun hc => h.elim (· hc.2.1) (· hc.2.2)]

end Sys2Proof.Machine
end

section
/-! SUPPORT. A change of a channel to STALE (R38, R39): what it does to each reader of the channel. -/

namespace Sys2Proof.Machine

open Sys2Proof Sys2Proof.Config

/-! ### The placement unit -/

/-- What a change to STALE touches of the placement unit's surroundings: the queue (R119). -/
theorem placementStale_frame (m : Nat) (s : State) : placementStale m s =
    { s with placement := (placementStale m s).placement, sched := (placementStale m s).sched } := by
  have h (p : RunPhase) : driveChoice p (judgeStarved p s) =
      { s with
        placement := (driveChoice p (judgeStarved p s)).placement, sched := (driveChoice p (judgeStarved p s)).sched } :=
    wantDrive_frame (judgeStarved p s) p _
  unfold placementStale
  split
  · split
    · exact h .winching
    · rfl
  · split
    · exact h .grouting
    · rfl
  · rfl
  · rfl

/-! ### The classifiers -/

/-- R139: a classifier after a change of channel `m` to STALE. -/
def staleClassifier (m : Nat) (k : Classifier) : Classifier :=
  match k.config with
  | some c => if c.watched = m then { k with mode := .quiet, start := none } else k
  | none => k

theorem staleClassifier_of_watching {m : Nat} {k : Classifier} {c : ClassifierConfig} (h : k.config = some c)
    (hw : c.watched = m) : staleClassifier m k = { k with mode := .quiet, start := none } := by
  unfold staleClassifier
  rw [h]
  exact if_pos hw

theorem staleClassifier_of_other {m : Nat} {k : Classifier} (h : ∀ c, k.config = some c → c.watched ≠ m) :
    staleClassifier m k = k := by
  unfold staleClassifier; split
  · exact if_neg (h _ ‹_›)
  · rfl

theorem classifierStale_eq (m : Nat) (s : State) (x : Nat) :
    classifierStale m s x = s.onClassifier x (staleClassifier m) := by
  have same : s = s.onClassifier x id := congrArg (fun v => { s with classifiers := v }) (put_look s.classifiers x).symm
  unfold classifierStale; split
  case h_1 c hc =>
    split
    case isTrue hw =>
      exact congrArg (fun k => s.onClassifier x fun _ => k) (staleClassifier_of_watching hc hw).symm
    case isFalse hw =>
      refine same.trans (congrArg (fun k => s.onClassifier x fun _ => k) (staleClassifier_of_other fun d hd => ?_).symm)
      cases hc.symm.trans hd; exact hw
  case h_2 hc =>
    exact same.trans (congrArg (fun k => s.onClassifier x fun _ => k)
      (staleClassifier_of_other fun d hd => absurd (hc.symm.trans hd) nofun).symm)

/-- One change of each classifier in turn is the change of all. -/
theorem foldl_onClassifier (f : Classifier → Classifier) (s : State) :
    channels4.foldl (fun u x => u.onClassifier x f) s = { s with classifiers := s.classifiers.map f } := by
  have h : (channels4.foldl (fun u x => u.onClassifier x f) s).classifiers = s.classifiers.map f := by
    apply Vector.ext
    intro i hi
    simp only [channels4, List.foldl, State.onClassifier_classifiers, put, look, Vector.getElem_map,
      Vector.getElem_setIfInBounds]
    interval_cases i <;> simp
  rw [← h]; rfl

/-- R39: a change to STALE presented to the stressing channels and the placement unit. -/
def unitsStale (m : Nat) (s : State) : State :=
  placementStale m (channels4.foldl (fun u n => stressStale m n u) s)

theorem presentStale_eq (m : Nat) (s : State) : presentStale m s =
    { unitsStale m s with
      classifiers := (unitsStale m s).classifiers.map (staleClassifier m)
      trip := { (unitsStale m s).trip with counters := (unitsStale m s).trip.counters.map (staleCounter m) } } := by
  have hc : classifierStale m = fun u x => u.onClassifier x (staleClassifier m) := by
    funext u x; exact classifierStale_eq m u x
  show tripStale m (channels4.foldl (classifierStale m) (unitsStale m s)) = _
  rw [hc, foldl_onClassifier]; rfl

/-- The frame of a change to STALE in the stressing channels. -/
theorem frame_stressStales (m : Nat) (s : State) : TestFrame s (channels4.foldl (fun u n => stressStale m n u) s) :=
  frame_foldl (fun u n => stressStale m n u) (fun u n => frame_stressStale u n m) channels4 s

theorem unitsStale_measure (m : Nat) (s : State) : (unitsStale m s).measure = s.measure := by
  rw [unitsStale, placementStale_frame]; exact (frame_stressStales m s).measure

theorem unitsStale_classifiers (m : Nat) (s : State) : (unitsStale m s).classifiers = s.classifiers := by
  rw [unitsStale, placementStale_frame]; exact (frame_stressStales m s).classifiers

theorem unitsStale_trip (m : Nat) (s : State) : (unitsStale m s).trip = s.trip := by
  rw [unitsStale, placementStale_frame]; exact (frame_stressStales m s).trip

theorem presentStale_measure (m : Nat) (s : State) : (presentStale m s).measure = s.measure := by
  rw [presentStale_eq]; exact unitsStale_measure m s

theorem classifierAt_presentStale {x : Nat} (h : x < 4) (m : Nat) (s : State) :
    classifierAt (presentStale m s) x = staleClassifier m (classifierAt s x) := by
  rw [presentStale_eq, unitsStale_classifiers]
  exact look_map s.classifiers _ x h

theorem counterAt_presentStale {q : Nat} (h : q < 8) (m : Nat) (s : State) :
    counterAt (presentStale m s) q = staleCounter m (counterAt s q) := by
  rw [presentStale_eq, unitsStale_trip]
  exact look_map s.trip.counters _ q h

/-! ### The trip counters -/

theorem staleCounter_of_watching {m : Nat} {c : Counter} {h : Int} {i e : Bool} (hs : c.source = some (.channel m h i e)) :
    staleCounter m c = { c with previous := false } := by
  unfold staleCounter
  rw [hs]
  exact if_pos rfl

theorem staleCounter_of_other {m : Nat} {c : Counter} (hs : ∀ h i e, c.source ≠ some (.channel m h i e)) :
    staleCounter m c = c := by
  unfold staleCounter; split
  case h_1 k h i e hk => exact if_neg (by rintro rfl; exact hs h i e hk)
  case h_2 => rfl

/-! ### CHANNEL_STALE -/

/-- R38: when a channel is due to become STALE. -/
theorem isDue_stale_iff {s : State} {m : Nat} (hm : m < 24) : isDue s (.stale m) = true ↔
    s.tickOpen = true ∧ (channelAt s m).fresh = true
      ∧ staleLimit (channelAt s m).config < (now s - (channelAt s m).stamp.getD 0).toNat := by
  simp only [isDue, staleDue, Bool.and_eq_true, decide_eq_true_eq, hm, and_true]
  exact .rfl

/-- Settles O24, from the change to STALE presented to each reader. -/
theorem channelStaleKeepsTheValue : Obligations.ChannelStaleKeepsTheValue := by
  refine ⟨fun s m hm => ⟨fun ht hf ha => ?_, fun ha => ?_⟩, fun s m => ?_⟩
  · generalize hs : s.onChannel m _ = s1
    have hmeasure : (runPass (presentStale m s1)).measure = s1.measure :=
      (frame_runPass _).measure.trans (presentStale_measure m s1)
    refine ⟨_, ?_, rfl, hmeasure, ?_, (frame_runPass _).reader.after (reader_presentStale s1 m)⟩
    · rw [← hs]
      exact congrArg Host.Outcome.next (if_pos ((isDue_stale_iff hm).2 ⟨ht, hf, ha⟩))
    · rw [channelAt_of_measure hmeasure, ← hs, channelAt_onChannel, if_pos ⟨rfl, hm⟩]
  · refine congrArg Host.Outcome.next (if_neg fun hd => ?_)
    exact absurd ((isDue_stale_iff hm).1 hd).2.2 (Nat.not_lt.2 ha)
  · intro t units
    have heq : t = _ := presentStale_eq m s
    have hother {x : Nat} (hx : 4 ≤ x) : classifierAt t x = classifierAt s x :=
      (look_of_le t.classifiers x hx).trans (look_of_le s.classifiers x hx).symm
    have hcounter {q : Nat} (hq : 8 ≤ q) : counterAt t q = counterAt s q :=
      (look_of_le t.trip.counters q hq).trans (look_of_le s.trip.counters q hq).symm
    refine ⟨by rw [heq]; rfl, by rw [heq]; rfl, by rw [heq]; rfl, by rw [heq]; rfl, by rw [heq]; rfl, by rw [heq]; rfl,
      presentStale_measure m s, by rw [heq]; rfl, fun x hx ⟨c, hc, hw⟩ => ?_, fun x hx => ?_,
      fun q hq ⟨h, i, e, hs⟩ => ?_, fun q hs => ?_, ?_⟩
    · exact (classifierAt_presentStale hx m s).trans (staleClassifier_of_watching hc hw)
    · obtain hlt | hle := Nat.lt_or_ge x 4
      · exact (classifierAt_presentStale hlt m s).trans (staleClassifier_of_other hx)
      · exact hother hle
    · exact (counterAt_presentStale hq m s).trans (staleCounter_of_watching hs)
    · obtain hlt | hle := Nat.lt_or_ge q 8
      · exact (counterAt_presentStale hlt m s).trans (staleCounter_of_other hs)
      · exact hcounter hle
    · rw [heq]
      show (unitsStale m s).trip.frozen = _
      rw [unitsStale_trip]

end Sys2Proof.Machine
end

section
/-! SUPPORT. The ends of a measurement (R48 to R54): what each writes into the cell's last result, what it delivers, and what
the waiting channels receive. -/

namespace Sys2Proof.Machine

open Sys2Proof Sys2Proof.Config

/-! ### What an end leaves as it was -/

section
variable (s : State)

theorem pausePlacement_measure : (pausePlacement s).measure = s.measure := by
  have h (p : RunPhase) : (stopByPriority p (s.onRun fun r => { r with pausedFrom := some p })).measure = s.measure :=
    (frame_placeHalt _ _ _ _).measure
  unfold pausePlacement; dsimp only; split
  · exact h .winching
  · exact h .grouting
  · rfl
  · rfl

theorem becomeFrozen_measure (detail : Nat) : (becomeFrozen detail s).measure = s.measure := by
  unfold becomeFrozen; dsimp only
  rw [(frame_writeReserve _ _).measure, pausePlacement_measure, (frame_foldl freezeStress frame_freezeStress channels4 _).measure]
  rfl

theorem observe_measure (o : Observation) : (observe o s).measure = s.measure := by
  unfold observe; dsimp only; split
  · rw [becomeFrozen_measure]; rfl
  · rfl

/-- The outcomes that the waiting channels receive stay within the frame of a test. -/
theorem frame_cellOutcomes (o : CellOutcome) (r : Option CellReading) (waiting : List Nat) :
    TestFrame s (waiting.foldl (cellOutcome o r) s) :=
  frame_foldl (cellOutcome o r) (fun u n => frame_cellOutcome u n o r) waiting s

/-- R31: a reading is discarded, or its channel, of the kind that it was, is presented to the readers. -/
theorem deliverGauge_cases (m g : Nat) (sat : Bool) : deliverGauge m g sat s = s
    ∨ ∃ c, c.config = (channelAt s m).config ∧ ReaderFrame (s.onChannel m fun _ => c) (deliverGauge m g sat s) := by
  match h : deliverReading s g sat (channelAt s m) with
  | none => exact .inl (deliverGauge_of_discarded s h)
  | some c =>
    rw [deliverGauge_of_taken s h]
    exact .inr ⟨c, deliverReading_config s g sat h, reader_presentSample _ m⟩

theorem deliverGauge_last (m g : Nat) (sat : Bool) (i : Nat) :
    (cellAt (deliverGauge m g sat s) i).last = (cellAt s i).last := by
  obtain h | ⟨c, -, h⟩ := deliverGauge_cases s m g sat
  · rw [h]
  · exact h.last i

theorem deliverGauge_storedT (m g : Nat) (sat : Bool) (i : Nat) :
    (cellAt (deliverGauge m g sat s) i).storedT = (cellAt s i).storedT := by
  obtain h | ⟨c, -, h⟩ := deliverGauge_cases s m g sat
  · rw [h]
  · exact h.storedT i

theorem deliverGauge_kind (m g : Nat) (sat : Bool) (i : Nat) :
    (channelAt (deliverGauge m g sat s) i).config = (channelAt s i).config := by
  obtain h | ⟨c, hc, h⟩ := deliverGauge_cases s m g sat
  · rw [h]
  · rw [h.kind, channelAt_onChannel]
    split
    case isTrue hi => rw [hc, hi.1]
    case isFalse => rfl

end

/-! ### The last result -/

section
variable {s : State} {c : Nat} {cfg : CellConfig}

theorem onCell_onCell (hc : c < 4) (f g : Cell → Cell) : (s.onCell c f).onCell c g = s.onCell c fun k => g (f k) := by
  simp only [State.onCell, State.onGauge, put_put, look_put_same _ _ _ hc]

theorem cellConfig_of_config (h : (cellAt s c).config = some cfg) : cellConfig s c = cfg := by rw [cellConfig, h]; rfl

/-- R54: the channels that wait in the requesters in service, lowest number first. -/
theorem waitingInService_eq (s : State) : waitingInService s =
    [0, 1, 2, 3].filter fun n => (s.gauge.inService.getD (newRequest 0)).waiting.contains n := by
  unfold waitingInService
  cases s.gauge.inService <;> rfl

/-- R52: the cell and the counts as an end writes them, with the stored T that it leaves. -/
def endWritten (c tc mc : Nat) (storedT : Option (Nat × Word32)) (e : EndFigures) (s : State) : State :=
  (s.onCell c fun k => { k with storedT := storedT, last := some (lastResult s e) }).onGauge fun g =>
    { g with tcCount := tc, mcCount := mc }

theorem cellAt_endWritten (hc : c < 4) (tc mc : Nat) (storedT : Option (Nat × Word32)) (e : EndFigures) (s : State) :
    cellAt (endWritten c tc mc storedT e s) c = { cellAt s c with storedT := storedT, last := some (lastResult s e) } := by
  have h := cellAt_onCell s c c fun k => { k with storedT := storedT, last := some (lastResult s e) }
  rw [if_pos ⟨rfl, hc⟩] at h
  exact h

/-- A stored T lost before an end that leaves none is lost once. -/
theorem endWritten_onCell (hc : c < 4) (tc mc : Nat) (e : EndFigures) (s : State) :
    endWritten c tc mc none e (s.onCell c fun k => { k with storedT := none }) = endWritten c tc mc none e s := by
  unfold endWritten
  rw [onCell_onCell hc]; rfl

/-- R54: the waiting channels receive an outcome, and then one GAUGE_FAULT is presented. -/
def endFailed (waiting : List Nat) (o : CellOutcome) (u : State) : State :=
  observe .gaugeFault (waiting.foldl (cellOutcome o none) u)

theorem endFailed_measure (waiting : List Nat) (o : CellOutcome) (u : State) :
    (endFailed waiting o u).measure = u.measure := by
  rw [endFailed, observe_measure, (frame_cellOutcomes u o none waiting).measure]

theorem reader_endFailed (waiting : List Nat) (o : CellOutcome) (u : State) : ReaderFrame u (endFailed waiting o u) :=
  (reader_observe _ _).after (frame_cellOutcomes u o none waiting).reader

/-! ### The abnormal ends (R48, R49, R54) -/

theorem endAbnormal_counts (tc mc : Nat) (e : EndFigures) (o : CellOutcome) :
    endAbnormal c e o (s.onGauge fun g => { g with tcCount := tc, mcCount := mc }) =
      closeMeasurement (endFailed (waitingInService s) o (endWritten c tc mc (cellAt s c).storedT e s)) := rfl

/-- R48: the loss of a reference clears the stored T. -/
theorem loseReference_eq (hc : c < 4) (mc : Nat) : loseReference c mc s =
    closeMeasurement (endFailed (waitingInService s) .refLost
      (endWritten c 1048576 mc none { outcome := .refLost, m := none, g := none, saturated := none } s)) := by
  have hs : (cellAt (s.onCell c fun k => { k with storedT := none }) c).storedT = none := by
    rw [cellAt_onCell, if_pos ⟨rfl, hc⟩]
  rw [loseReference, endAbnormal_counts, hs, endWritten_onCell hc]; rfl

/-- R49: too few counts. -/
theorem endSensing_low {m : Nat} (hk : (cellAt s c).config = some cfg) (hm : m < cfg.mMin) : endSensing c m s =
    closeMeasurement (endFailed (waitingInService s) .senseLow
      (endWritten c 0 m (cellAt s c).storedT { outcome := .senseLow, m := some m, g := none, saturated := none } s)) := by
  rw [endSensing, cellConfig_of_config hk, if_pos hm, endAbnormal_counts]

/-! ### The reading (R50, R53) -/

/-- R50, R52: the figures of a reading. -/
def readingFigures (cfg : CellConfig) (m : Nat) : EndFigures :=
  { outcome := .reading, m := some m, g := some (min 65535 (readingExact m cfg.nRef))
    saturated := some (decide (65535 < readingExact m cfg.nRef)) }

/-- R50, R52: the state in which a reading is delivered. -/
def readingWritten (c m : Nat) (cfg : CellConfig) (s : State) : State :=
  endWritten c 0 m (cellAt s c).storedT (readingFigures cfg m) s

/-- R31: a reading delivered to the output channel of its cell. -/
def readingDelivered (c m : Nat) (cfg : CellConfig) (s : State) : State :=
  deliverGauge cfg.output (min 65535 (readingExact m cfg.nRef)) (decide (65535 < readingExact m cfg.nRef))
    (readingWritten c m cfg s)

/-- R53: the outcome that the waiting channels receive after the delivery. -/
def readingServed (c m : Nat) (cfg : CellConfig) (s : State) : State :=
  let o := readingOutcome (readingDelivered c m cfg s) cfg.output (min 65535 (readingExact m cfg.nRef))
  (waitingInService s).foldl (cellOutcome o.1 o.2) (readingDelivered c m cfg s)

theorem endSensing_reading {m : Nat} (hk : (cellAt s c).config = some cfg) (hm : cfg.mMin ≤ m) :
    endSensing c m s = closeMeasurement (readingServed c m cfg s) := by
  have hk' : cellConfig (s.onGauge fun g => { g with tcCount := 0, mcCount := m }) c = cfg := cellConfig_of_config hk
  rw [endSensing, cellConfig_of_config hk, if_neg (Nat.not_lt.2 hm), endReading, hk']; rfl

theorem readingOutcome_gauge {m g t l : Nat} (h : (channelAt s m).config = .gauge t l) : readingOutcome s m g =
    (.reading, some { g := g, value := valueOf s m, mark := markOf s m, stamp := (channelAt s m).stamp.getD 0 }) := by
  rw [readingOutcome, h]

theorem readingOutcome_other {m g : Nat} (h : ∀ t l, (channelAt s m).config ≠ .gauge t l) :
    readingOutcome s m g = (.noChannel, none) := by
  unfold readingOutcome; split
  case h_1 t l hk => exact absurd hk (h t l)
  case h_2 => rfl

theorem readingDelivered_kind (m i : Nat) :
    (channelAt (readingDelivered c m cfg s) i).config = (channelAt s i).config := deliverGauge_kind _ _ _ _ i

/-- R53: the outcomes stay within the frame of a test. -/
theorem frame_readingServed (m : Nat) : TestFrame (readingDelivered c m cfg s) (readingServed c m cfg s) :=
  frame_cellOutcomes _ _ _ _

theorem readingServed_last (m i : Nat) :
    (cellAt (readingServed c m cfg s) i).last = (cellAt (readingWritten c m cfg s) i).last :=
  ((frame_readingServed m).last i).trans (deliverGauge_last _ _ _ _ i)

theorem readingServed_storedT (m i : Nat) :
    (cellAt (readingServed c m cfg s) i).storedT = (cellAt (readingWritten c m cfg s) i).storedT :=
  ((frame_readingServed m).storedT i).trans (deliverGauge_storedT _ _ _ _ i)

/-- R31: what the output channel holds after the delivery and the outcomes. -/
theorem readingServed_channel (m : Nat) {t l : Nat} (ho : cfg.output < 24)
    (h : (channelAt s cfg.output).config = .gauge t l) :
    (channelAt (readingServed c m cfg s) cfg.output).stamp = some (now s)
      ∧ (channelAt (readingServed c m cfg s) cfg.output).fresh = true
      ∧ (channelAt (readingServed c m cfg s) cfg.output).lastRaw =
          some (BitVec.ofNat 32 (min 65535 (readingExact m cfg.nRef))) := by
  have hd := deliverReading_gauge (readingWritten c m cfg s) (min 65535 (readingExact m cfg.nRef))
    (decide (65535 < readingExact m cfg.nRef)) (c := channelAt s cfg.output) h
  obtain ⟨-, hraw, hstamp, hfresh, -⟩ := presentSample_delivered (readingWritten c m cfg s) ho
    (deliverReading_stamp (readingWritten c m cfg s) _ _ hd)
  rw [← deliverGauge_of_taken (readingWritten c m cfg s) hd] at hraw hstamp hfresh
  have hc : channelAt (readingServed c m cfg s) cfg.output = channelAt (readingDelivered c m cfg s) cfg.output :=
    channelAt_of_measure (frame_readingServed m).measure _
  rw [hc]
  exact ⟨hstamp, hfresh, hraw⟩

end

/-! ### The rows of the converter -/

section
variable {s : State} {c : Nat}

theorem cellIn_of_phase {p : GaugePhase} (hp : s.gauge.phase = p) (hc : s.gauge.cell = some c) : cellIn p s = some c := by
  rw [cellIn, if_pos hp, hc]

theorem exec_referenceEnd (hq : quiet s = true) (hp : s.gauge.phase = .reference) (hc : s.gauge.cell = some c) {t : Nat}
    (ht : t < 1048576) : exec (.referenceEnd t) s = .next (runPass (endEmpty (endReference c t s))) := by
  show event (referenceEnds t) s = _
  rw [event_of_quiet hq, referenceEnds, cellIn_of_phase hp hc]
  exact congrArg (fun u => Host.Outcome.next (runPass u)) (if_pos ht)

theorem exec_refLost (hq : quiet s = true) (hp : s.gauge.phase = .reference) (hc : s.gauge.cell = some c) {mc : Nat}
    (hm : mc < 65536) : exec (.refLost mc) s = .next (runPass (endEmpty (loseReference c mc s))) := by
  show event (referenceLost mc) s = _
  rw [event_of_quiet hq, referenceLost, cellIn_of_phase hp hc]
  exact congrArg (fun u => Host.Outcome.next (runPass u)) (if_pos hm)

theorem exec_sensingEnd (hq : quiet s = true) (hp : s.gauge.phase = .sensing) (hc : s.gauge.cell = some c) {m : Nat}
    (hm : m < 65536) : exec (.sensingEnd m) s = .next (runPass (endEmpty (endSensing c m s))) := by
  show event (sensingEnds m) s = _
  rw [event_of_quiet hq, sensingEnds, cellIn_of_phase hp hc]
  exact congrArg (fun u => Host.Outcome.next (runPass u)) (if_pos hm)

theorem exec_senseHigh (hq : quiet s = true) (hp : s.gauge.phase = .sensing) (hc : s.gauge.cell = some c) {tc : Nat}
    (ht : tc < 1048576) : exec (.senseHigh tc) s = .next (runPass (endEmpty (endHigh c tc s))) := by
  show event (sensingHigh tc) s = _
  rw [event_of_quiet hq, sensingHigh, cellIn_of_phase hp hc]
  exact congrArg (fun u => Host.Outcome.next (runPass u)) (if_pos ht)

/-- R49: a sensing phase with a T of 0. -/
theorem emptySensing_of_zero (hp : s.gauge.phase = .sensing) (ht : s.gauge.timeT = some 0) (hc : s.gauge.cell = some c) :
    emptySensing s = some c := by rw [emptySensing, if_pos ⟨hp, ht⟩, hc]

theorem emptySensing_of_other (h : s.gauge.phase ≠ .sensing ∨ s.gauge.timeT ≠ some 0) : emptySensing s = none :=
  if_neg fun hc => h.elim (· hc.1) (· hc.2)

end

/-- Settles O27, from each end written as its last result, its outcomes and the search that closes it. -/
theorem sensingPhasesEnd : Obligations.SensingPhasesEnd := by
  refine ⟨fun s c cfg hc hcell hk => ?_, fun s => ⟨rfl, rfl, fun h k => endEmptyFor_of_none k (emptySensing_of_other h)⟩⟩
  intro waiting last stored written failed closed
  have hw : waitingInService s = waiting := waitingInService_eq s
  have hlow {m : Nat} (hm : m < cfg.mMin) : endSensing c m s =
      closed (failed .senseLow (written 0 m stored { last .senseLow with m := some m })) := by
    rw [endSensing_low hk hm, hw]; rfl
  refine ⟨fun hq => ⟨fun hp mc hmc => ?_, fun hp => ?_, fun hp m hm hmin => ?_, fun hp tc ht => ?_, fun hp m hm hmin => ?_⟩,
    fun o u => ⟨endFailed_measure waiting o u, reader_endFailed waiting o u⟩, fun hp ht hmin => ⟨fun k => ?_, ?_, rfl⟩⟩
  · rw [exec_refLost hq hp hcell hmc, loseReference_eq hc, hw]; rfl
  · rw [exec_referenceEnd hq hp hcell (by omega)]; rfl
  · rw [exec_sensingEnd hq hp hcell hm, hlow hmin]
  · rw [exec_senseHigh hq hp hcell ht, endHigh, endAbnormal_counts, hw]; rfl
  · intro figure g sat begun delivered c' served
    have he := exec_sensingEnd hq hp hcell hm
    rw [endSensing_reading hk hmin] at he
    refine ⟨fun ⟨t, l, hg⟩ => ?_, fun hg => ?_⟩
    · have hs : readingServed c m cfg s = served := by
        rw [readingServed, readingOutcome_gauge ((readingDelivered_kind m _).trans hg), hw]; rfl
      have hstored : (cellAt (readingWritten c m cfg s) c).storedT = stored := by
        rw [readingWritten, cellAt_endWritten hc]
      have hlast := readingServed_last (s := s) (c := c) (cfg := cfg) m c
      have hkept := readingServed_storedT (s := s) (c := c) (cfg := cfg) m c
      rw [hs] at he hlast hkept
      refine ⟨he, hlast, hkept.trans hstored, fun ho => ?_⟩
      have hch := readingServed_channel (c := c) m ho hg
      rw [hs] at hch
      exact hch
    · have hd : readingDelivered c m cfg s = begun := deliverGauge_of_discarded _ (deliverReading_none _ _ _ hg)
      have hs : readingServed c m cfg s = waiting.foldl (fun u n => cellOutcome .noChannel none u n) begun := by
        rw [readingServed, readingOutcome_other fun t l => by rw [readingDelivered_kind]; exact hg t l, hw, hd]
      rw [he, hs]; rfl
  · rw [endEmptyFor, emptySensing_of_zero hp ht hcell]
    exact congrArg (endEmptyFor k) (hlow hmin)
  · exact nextDue_of_emptySensing (emptySensing_of_zero hp ht hcell)

end Sys2Proof.Machine
end

section
/-! SUPPORT. The requests of the lift-off cells (R45, R57, R59), and the measurements that the search, a survey and the end of
a reference phase begin (R47, R48, R51, R56). -/

namespace Sys2Proof.Machine

open Sys2Proof Sys2Proof.Config

/-! ### The requests of a cell -/

section
variable {s : State} {c : Nat}

/-- An update of a cell acts on the cell as it stands, whatever the update would make of another. -/
theorem onCell_congr {f g : Cell → Cell} (h : f (cellAt s c) = g (cellAt s c)) : s.onCell c f = s.onCell c g :=
  congrArg (fun k => s.onGauge fun b => { b with cells := put b.cells c k }) h

/-- R45, R56: a survey period of 0 makes no surveys. -/
theorem surveyFrom_some (tick : Word32) (k : CellConfig) : surveyFrom tick (some k) =
    if k.surveyPeriod = 0 then none else some (tick + BitVec.ofNat 32 k.surveyPeriod) := by
  by_cases h : k.surveyPeriod = 0 <;> simp [surveyFrom, h, Nat.pos_iff_ne_zero]

theorem cellItemsInRange_iff (cfg : Option CellConfig) :
    cellItemsInRange cfg = true ↔ ∀ k, cfg = some k → cellConfigInRange k = true := by
  cases cfg <;> simp [cellItemsInRange]

/-- The checks of CONFIG_CELL in their order (R45). -/
theorem exec_configCell (h : takesNow s) (tag c : Nat) (cfg : Option CellConfig) :
    exec (.configCell tag c cfg) s = .next (
      if 3 < c then refused tag 0x28 .badValue s
      else if cellInUse s c = true then refused tag 0x28 .inUse s
      else if ∀ k, cfg = some k → cellConfigInRange k = true then answered tag 0x28 none [] (reconfigureCell c cfg s)
      else refused tag 0x28 .badValue s) := by
  have hp := passDue_of_takesNow h
  have hr : (reconfigureCell c cfg s).passDue = false := by
    unfold reconfigureCell abortMeasurement
    split
    case isTrue hc => simp [hc, idleConverter, writeResult, hp]
    case isFalse => exact hp
  show request tag 0x28 (actConfigCell c cfg) s = _
  rw [request_of_takesNow h, actConfigCell, respond_numbered _ _ _ hp]
  exact congrArg Host.Outcome.next (if_congr .rfl rfl (respond_check hp .rfl
    (respond_check_last hp (cellItemsInRange_iff cfg) (respond_done _ hr))))

/-- R46, R57: the checks of MEASURE_CELL, and the request that joins. -/
theorem exec_measureCell (h : takesNow s) (tag c : Nat) (r : ReferenceChoice) :
    exec (.measureCell tag c r) s = .next (
      if 3 < c then refused tag 0x29 .badValue s
      else if (cellAt s c).config = none then refused tag 0x29 .badValue s
      else answered tag 0x29 none [] (joinRequest c (stationJoins r) s)) := by
  have hp := passDue_of_takesNow h
  have hj : (joinRequest c (stationJoins r) s).passDue = false := (searchCells_passDue _).trans hp
  show request tag 0x29 (actMeasureCell c r) s = _
  rw [request_of_takesNow h, actMeasureCell, respond_numbered _ _ _ hp]
  exact congrArg Host.Outcome.next (if_congr .rfl rfl (respond_check hp Option.isNone_iff_eq_none (respond_done _ hj)))

/-- R46, R47: the pending request that a join leaves, and the search behind it. -/
theorem joinRequest_eq {q : CellRequest} (h : (cellAt s c).pending.getD (newRequest (now s)) = q)
    (f : CellRequest → CellRequest) :
    joinRequest c f s = searchCells (s.onCell c fun k => { k with pending := some (f q) }) := by
  subst h
  exact congrArg searchCells (onCell_congr rfl)

/-- R59: the abort of the measurement in service on a cell, with the cell's next change. -/
theorem abortMeasurement_onCell (hc : c < 4) (hg : s.gauge.cell = some c) (f : Cell → Cell) :
    (abortMeasurement s).onCell c f = (idleConverter s).onCell c fun k =>
      f { k with last := some (lastResult s { outcome := .aborted, m := none, g := none, saturated := none }) } := by
  rw [abortMeasurement, hg]
  exact onCell_onCell (s := idleConverter s) hc
    (fun k => { k with last := some (lastResult s { outcome := .aborted, m := none, g := none, saturated := none }) }) f

end

/-- Settles O25, from the checks of the two requests and what each leaves of its cell. -/
theorem cellRequestsConfigureAndJoin : Obligations.CellRequestsConfigureAndJoin := by
  refine ⟨fun s tag c cfg h => ?_, fun s tag c r h => ?_⟩
  · rw [exec_configCell h]
    refine ⟨fun hc => by rw [if_pos hc], fun hc hu => ?_, fun hc hu hr => ?_, fun hc hu hr => ?_⟩
    · rw [if_neg (Nat.not_lt.2 hc), if_pos hu]
    · obtain ⟨k, hk, hb⟩ := hr
      rw [if_neg (Nat.not_lt.2 hc), if_neg (by rw [hu]; nofun), if_neg fun ha => by rw [ha k hk] at hb; cases hb]
    · intro survey cell
      have hre (k : Cell) : reconfigured (now s) cfg k = cell k.last k := by
        cases cfg with
        | none => rfl
        | some x => rw [reconfigured, surveyFrom_some]; rfl
      rw [if_neg (Nat.not_lt.2 hc), if_neg (by rw [hu]; nofun), if_pos hr, reconfigureCell]
      refine ⟨fun hg => ?_, fun hg => ?_⟩
      · rw [if_neg hg]
        exact congrArg (fun u => Host.Outcome.next (answered tag 0x28 none [] u)) (onCell_congr (hre _))
      · rw [if_pos hg, abortMeasurement_onCell (Nat.lt_succ_of_le hc) hg]
        exact congrArg (fun u => Host.Outcome.next (answered tag 0x28 none [] (searchCells u))) (onCell_congr (hre _))
  · rw [exec_measureCell h]
    have joined {q : CellRequest} (hq : (cellAt s c).pending.getD (newRequest (now s)) = q) :=
      congrArg (fun u => (.next (answered tag 0x29 none [] u) : Result)) (joinRequest_eq hq (stationJoins r))
    refine ⟨fun hc => ?_, fun hc hk hq => ?_, fun q hc hk hq => ?_⟩
    · by_cases h3 : 3 < c
      · rw [if_pos h3]
      · rw [if_neg h3, if_pos (hc.resolve_left h3)]
    · rw [if_neg (Nat.not_lt.2 hc), if_neg hk]
      exact joined (q := newRequest (now s)) (by rw [hq]; rfl)
    · rw [if_neg (Nat.not_lt.2 hc), if_neg hk]
      exact joined (q := q) (by rw [hq]; rfl)

/-! ### Measurements that begin -/

section
variable {s : State}

/-- R47: the search finds the first pending request after the pointer. -/
theorem nextRequest_of_first {i : Nat} {q : CellRequest} (h1 : 1 ≤ i) (h4 : i ≤ 4)
    (before : ∀ j, 1 ≤ j → j < i → (cellAt s ((s.gauge.pointer + j) % 4)).pending = none)
    (hq : (cellAt s ((s.gauge.pointer + i) % 4)).pending = some q) :
    nextRequest s = some ((s.gauge.pointer + i) % 4, q) := by
  have hl : [1, 2, 3, 4] = List.range' 1 (i - 1) ++ i :: List.range' (i + 1) (4 - i) := by
    interval_cases i <;> rfl
  rw [nextRequest, searchOrder, hl, List.map_append, List.findSome?_append, List.findSome?_eq_none_iff.2, Option.none_or,
    List.map_cons, List.findSome?_cons, hq]
  · rfl
  · intro c hc
    obtain ⟨j, hj, rfl⟩ := List.mem_map.1 hc
    have hj' := List.mem_range'_1.1 hj
    rw [before j hj'.1 (by omega)]; rfl

/-- R47: a search that finds nothing has no pending request before it. -/
theorem nextRequest_none_iff : nextRequest s = none ↔ ∀ c, c < 4 → (cellAt s c).pending = none := by
  rw [nextRequest, List.findSome?_eq_none_iff]
  simp only [Option.map_eq_none_iff]
  refine ⟨fun h c hc => h c ?_, fun h c hc => h c ?_⟩
  · refine List.mem_map.2 ?_
    have hp : s.gauge.pointer % 4 < 4 := Nat.mod_lt _ (by decide)
    by_cases hlt : s.gauge.pointer % 4 < c
    · exact ⟨c - s.gauge.pointer % 4, by simp; omega, by omega⟩
    · exact ⟨c + 4 - s.gauge.pointer % 4, by simp; omega, by omega⟩
  · obtain ⟨i, -, rfl⟩ := List.mem_map.1 hc
    exact Nat.mod_lt _ (by decide)

theorem measurementDue_iff : isDue s .measurement = true ↔ s.gauge.phase = .idle ∧ nextRequest s ≠ none := by
  show measurementDue s = true ↔ _
  simp [measurementDue, Option.isSome_iff_ne_none]

/-- R47: MEASUREMENT_START makes the search of an IDLE converter beside a pending request (log 2). -/
theorem exec_measurementStart (hi : s.gauge.phase = .idle) {c : Nat} {q : CellRequest} (h : nextRequest s = some (c, q)) :
    exec .measurementStart s = .next (runPass (endEmpty (searchCells s))) :=
  congrArg Host.Outcome.next (if_pos (measurementDue_iff.2 ⟨hi, by rw [h]; nofun⟩))

theorem cellAt_takeIntoService {c : Nat} (hc : c < 4) (q : CellRequest) :
    cellAt (takeIntoService c q s) c = { cellAt s c with pending := none } :=
  look_put_same s.gauge.cells c _ hc

/-- R51: the stored T is used again. -/
theorem startOn_reuse {c : Nat} {q : CellRequest} {cfg : CellConfig} {t : Nat} {stamp : Word32} (hc : c < 4)
    (hk : (cellAt s c).config = some cfg) (ht : (cellAt s c).storedT = some (t, stamp)) (ha : 0 < cfg.reuseAge)
    (hage : (now s - stamp).toNat < cfg.reuseAge) (hf : q.freshReference = false) :
    startOn c q s = enterSensing t true (takeIntoService c q s) := by
  have hr : reusedT (takeIntoService c q s) c q = some t := by
    rw [reusedT, cellAt_takeIntoService hc, hk, ht]
    exact if_pos ⟨ha, hage, hf⟩
  rw [startOn, hr]

/-- R51: the stored T is absent, too old or not wanted. -/
theorem startOn_fresh {c : Nat} {q : CellRequest} {cfg : CellConfig} (hc : c < 4) (hk : (cellAt s c).config = some cfg)
    (ha : ∀ t stamp, (cellAt s c).storedT = some (t, stamp) →
      cfg.reuseAge = 0 ∨ cfg.reuseAge ≤ (now s - stamp).toNat ∨ q.freshReference = true) :
    startOn c q s = (takeIntoService c q s).onGauge fun g =>
      { g with phase := .reference, timeT := none, mcCount := 65536 - cfg.nRef, tcCount := 0, reused := false } := by
  have hr : reusedT (takeIntoService c q s) c q = none := by
    rw [reusedT, cellAt_takeIntoService hc]; dsimp only
    rw [hk]
    match ht : (cellAt s c).storedT with
    | none => rfl
    | some (t, stamp) =>
      refine if_neg fun h => ?_
      obtain ⟨h0, hage, hf⟩ := h
      obtain h | h | h := ha t stamp ht
      · omega
      · exact absurd hage (Nat.not_lt.2 h)
      · rw [hf] at h; cases h
  have hk' : cellConfig (takeIntoService c q s) c = cfg :=
    cellConfig_of_config (by rw [cellAt_takeIntoService hc]; exact hk)
  rw [startOn, hr, ← hk']
  rfl

/-- A search that has left the converter IDLE found nothing. -/
theorem startOn_phase (c : Nat) (r : CellRequest) : (startOn c r s).gauge.phase ≠ .idle := by
  unfold startOn; dsimp only; split
  · exact nofun
  · exact nofun

/-- R56, R47: the survey of a cell that falls due. -/
theorem surveyRequest_eq {c : Nat} {cfg : CellConfig} (hc : c < 4) (hk : (cellAt s c).config = some cfg) :
    surveyRequest c s = searchCells (s.onCell c fun k =>
      { k with
        nextSurvey := some (now s + BitVec.ofNat 32 cfg.surveyPeriod)
        pending := some { (k.pending.getD (newRequest (now s))) with survey := true } }) := by
  rw [surveyRequest, joinRequest, onCell_onCell hc]
  refine congrArg searchCells (onCell_congr ?_)
  rw [hk]; rfl

end

/-- Settles O26, from the first request that a search finds, the survey's join and the end of a reference phase. -/
theorem measurementsStartAndReferencesEnd : Obligations.MeasurementsStartAndReferencesEnd := by
  refine ⟨fun s => ?_, fun s c cfg hc ht hp hk hn => ?_, fun s c hq hc hp hg t h0 ht => ?_⟩
  · intro idles
    refine ⟨fun hi => ?_, fun hi => ?_, fun i q cfg hi h1 h4 before => ?_⟩
    · have hd : ¬isDue s .measurement = true := by
        rw [measurementDue_iff, not_and, not_not]
        exact fun hp => nextRequest_none_iff.2 (hi.resolve_left (absurd hp))
      refine ⟨?_, congrArg Host.Outcome.next (if_neg hd)⟩
      exact hi.elim searchCells_of_busy fun hn => searchCells_of_none (nextRequest_none_iff.2 hn)
    · obtain ⟨h, hn⟩ | ⟨c, r, -, -, h⟩ := searchCells_cases s
      · rw [h] at hi
        exact ⟨h, nextRequest_none_iff.1 (hn.resolve_left (absurd hi))⟩
      · rw [h] at hi
        exact absurd hi (startOn_phase c r)
    · intro c hq hk taken reference sensing
      have hc : c < 4 := Nat.mod_lt _ (by decide)
      have hnext := nextRequest_of_first h1 h4 before hq
      rw [exec_measurementStart hi hnext, searchCells_of_next hi hnext]
      refine ⟨fun ha => ?_, fun t stamp ht h0 hage hf => ?_⟩
      · have hs : startOn c q s = reference := startOn_fresh hc hk ha
        refine ⟨hs, fun hp => ?_⟩
        rw [hs, endEmpty_of_none (emptySensing_of_phase (by rintro ⟨⟩)), runPass_of_none (by exact hp)]
      · have hs : startOn c q s = sensing t := startOn_reuse hc hk ht h0 hage hf
        rw [hs]
        refine ⟨rfl, rfl, fun hp h0 => ?_⟩
        rw [endEmpty_of_none (emptySensing_of_other (.inr fun h => h0 (Option.some.inj h))), runPass_of_none (by exact hp)]
  · have hd : isDue s (.survey c) = true := by
      show (s.tickOpen && decide (c < 4) && surveyDue s c) = true
      simp [ht, hc, surveyDue, hk, hn]
    show Host.Outcome.next (takeDue (.survey c) s) = _
    rw [takeDue, if_pos hd]
    show Host.Outcome.next (runPass (surveyRequest c s)) = _
    rw [surveyRequest_eq hc hk]
    exact congrArg Host.Outcome.next (runPass_of_none ((searchCells_passDue _).trans hp))
  · rw [exec_referenceEnd hq hp hg ht, endReference,
      endEmpty_of_none (emptySensing_of_other (.inr fun h => by cases h; omega)), runPass_of_none ?_]
    · rfl
    · exact (quiet_passDue hq : s.passDue = false)

end Sys2Proof.Machine
end

section
/-! SUPPORT. The lock-off (R100 to R109): the command choices of its stages, the approach, the opening of the seat window, the
seat samples and the close of the release window. -/

namespace Sys2Proof.Machine

open Sys2Proof Sys2Proof.Config

/-! ### The step a channel executes, through changes within it -/

section
variable {s t u : State} {n : Nat}

/-- The change leaves the channel in the same step of the same anchor's procedure, under the same binding. -/
structure SameStep (n : Nat) (s t : State) : Prop where
  anchorTable : t.anchorTable = s.anchorTable
  binding : (stressAt t n).binding = (stressAt s n).binding
  slot : (workOf t n).slot = (workOf s n).slot
  step : (workOf t n).step = (workOf s n).step

namespace SameStep

theorem refl (n : Nat) (s : State) : SameStep n s s := ⟨rfl, rfl, rfl, rfl⟩

theorem trans (h : SameStep n s t) (k : SameStep n t u) : SameStep n s u :=
  ⟨k.anchorTable.trans h.anchorTable, k.binding.trans h.binding, k.slot.trans h.slot, k.step.trans h.step⟩

theorem bindingOf (h : SameStep n s t) : Machine.bindingOf t n = Machine.bindingOf s n := by
  rw [Machine.bindingOf, h.binding, Machine.bindingOf]

theorem slotOf (h : SameStep n s t) : Machine.slotOf t n = Machine.slotOf s n := by
  rw [Machine.slotOf, h.slot, Machine.slotOf]

theorem stepNumber (h : SameStep n s t) : Machine.stepNumber t n = Machine.stepNumber s n := by
  rw [Machine.stepNumber, h.step, Machine.stepNumber]

theorem designOf (h : SameStep n s t) (i : Nat) : Machine.designOf t i = Machine.designOf s i := by
  rw [Machine.designOf, anchorAt_of_slots (congrArg AnchorTable.slots h.anchorTable), Machine.designOf]

theorem classOf (h : SameStep n s t) (i : Nat) : Machine.classOf t i = Machine.classOf s i := by
  rw [Machine.classOf, h.designOf, classAt, h.anchorTable]; rfl

theorem stepOf (h : SameStep n s t) : Machine.stepOf t n = Machine.stepOf s n := by
  rw [Machine.stepOf, h.slotOf, h.classOf, h.step, Machine.stepOf]

theorem borrowed (h : SameStep n s t) : Machine.borrowed t n = Machine.borrowed s n := by
  rw [Machine.borrowed, stepsBefore, h.slotOf, h.classOf, h.stepNumber]; rfl

theorem lockLoad (h : SameStep n s t) (p : LockParams) : Machine.lockLoad t n p = Machine.lockLoad s n p := by
  rw [Machine.lockLoad, targetForce, h.slotOf, h.designOf]; rfl

end SameStep

/-- Only a channel of the part has a stage of a lock-off. -/
theorem number_of_progress {a : LockProgress} (h : (workOf s n).progress = some a) : n < 4 := by
  by_contra hn
  rw [workOf, stressAt, look_of_le _ _ (Nat.le_of_not_lt hn)] at h
  cases h

theorem workOf_onWork (hn : n < 4) (f : Work → Work) : workOf (s.onWork n f) n = f (workOf s n) := by
  rw [workOf, State.onWork, stressAt_onStress_same hn]; rfl

theorem sameStep_onStress (hn : n < 4) (f : Stress → Stress) (binding : ∀ c, (f c).binding = c.binding := by intro _; rfl)
    (slot : ∀ c, (f c).work.slot = c.work.slot := by intro _; rfl)
    (step : ∀ c, (f c).work.step = c.work.step := by intro _; rfl) : SameStep n s (s.onStress n f) := by
  refine ⟨rfl, ?_, ?_, ?_⟩ <;> simp only [workOf, stressAt_onStress_same hn, binding, slot, step]

theorem sameStep_onWork (hn : n < 4) (f : Work → Work) (slot : ∀ w, (f w).slot = w.slot := by intro _; rfl)
    (step : ∀ w, (f w).step = w.step := by intro _; rfl) : SameStep n s (s.onWork n f) :=
  sameStep_onStress hn _ (fun _ => rfl) (fun _ => slot _) fun _ => step _

theorem sameStep_present (node : Nat) (c : Command) (o : Owner) : SameStep n s (present node c o s) := by
  unfold present; split
  · exact ⟨rfl, rfl, rfl, rfl⟩
  · exact .refl n s

theorem sameStep_writeOrDrop (r : LogRecord) : SameStep n s (writeOrDrop r s) := by
  rw [writeOrDrop_eq]
  exact ⟨rfl, rfl, rfl, rfl⟩

theorem MotionOnly.sameStep (h : MotionOnly n s t) (hn : n < 4) : SameStep n s t := by
  obtain ⟨_, _, _, rfl⟩ := h
  exact (sameStep_onWork hn _ : SameStep n s (s.onWork n (moved _ _))).trans ⟨rfl, rfl, rfl, rfl⟩

end

/-! ### The direction of approach (R100) -/

section
variable {s : State} {n : Nat} {p : LockParams}

/-- The channel approaches the load of a LOCKOFF. -/
structure InApproach (s : State) (n : Nat) (p : LockParams) : Prop where
  step : stepOf s n = .lockoff p
  progress : (workOf s n).progress = some .approach

theorem InApproach.lt (h : InApproach s n p) : n < 4 := number_of_progress h.progress

/-- R100: the direction of approach fixed by the force `f`. -/
def directed (n : Nat) (p : LockParams) (f : Int) (s : State) : State :=
  s.onWork n fun w => { w with approachDirection := some (if f ≤ lockLoad s n p then .load else .unload) }

theorem InApproach.onWork (h : InApproach s n p) (f : Work → Work) (slot : ∀ w, (f w).slot = w.slot := by intro _; rfl)
    (step : ∀ w, (f w).step = w.step := by intro _; rfl) (progress : ∀ w, (f w).progress = w.progress := by intro _; rfl) :
    InApproach (s.onWork n f) n p :=
  ⟨(sameStep_onWork h.lt f slot step).stepOf.trans h.step, by rw [workOf_onWork h.lt, progress, h.progress]⟩

theorem chooseDirection_of_chosen (h : (workOf s n).approachDirection ≠ none) (f : Int) (ok : Bool) :
    chooseDirection n f ok s = s := by
  unfold chooseDirection; split
  case h_1 => exact if_neg (by simp [Option.isNone_iff_eq_none, h])
  case h_2 => rfl

theorem chooseDirection_unconfirmed (n : Nat) (f : Int) (s : State) : chooseDirection n f false s = s := by
  unfold chooseDirection; split
  · rfl
  · rfl

theorem chooseDirection_first (h : InApproach s n p) (hd : (workOf s n).approachDirection = none) (f : Int) :
    chooseDirection n f true s = directed n p f s := by
  rw [chooseDirection, h.step]
  exact if_pos (by simp [h.progress, hd])

theorem InApproach.directed (h : InApproach s n p) (f : Int) : InApproach (directed n p f s) n p := h.onWork _

theorem workOf_directed (hn : n < 4) (f : Int) : workOf (directed n p f s) n =
    { workOf s n with approachDirection := some (if f ≤ lockLoad s n p then .load else .unload) } := workOf_onWork hn _

theorem directed_chosen (hn : n < 4) (f : Int) : (workOf (directed n p f s) n).approachDirection ≠ none := by
  rw [workOf_directed hn]; nofun

/-! ### Command choices (R100, R103, R104, R108) -/

theorem presentSeat_of_undone (h : (workOf s n).approachDone = false) : presentSeat n s = s := by
  unfold presentSeat; split
  case h_1 => exact if_neg (by simp [h])
  case h_2 => rfl

theorem workOf_wantMotion (hn : n < 4) (m : Motion) : ∃ c b, workOf (wantMotion n m s) n = moved c b (workOf s n) := by
  obtain ⟨c, b, h⟩ := (motionOnly_wantMotion n m s).stressAt hn
  exact ⟨c, b, congrArg Stress.work h⟩

theorem choose_of_motion {f : Int} {ok : Bool} {m : Motion} (hd : chooseDirection n f ok s = s)
    (hw : wanted s n f ok = some m) : choose n f ok s = presentSeat n (wantMotion n m s) := by
  rw [choose, hd, hw]

/-- A choice that presents no JACK_SEAT: the approach is not complete. -/
theorem choose_of_undone {f : Int} {ok : Bool} {m : Motion} (hn : n < 4) (hd : chooseDirection n f ok s = s)
    (hw : wanted s n f ok = some m) (h : (workOf s n).approachDone = false) : choose n f ok s = wantMotion n m s := by
  obtain ⟨c, b, hm⟩ := workOf_wantMotion (s := s) hn m
  rw [choose_of_motion hd hw, presentSeat_of_undone (by rw [hm]; exact h)]

theorem wanted_done (h : InApproach s n p) (hd : (workOf s n).approachDone = true) (f : Int) (ok : Bool) :
    wanted s n f ok = some .hold := by
  rw [wanted, h.step]; dsimp only
  rw [h.progress]; exact if_pos (by rw [hd]; rfl)

theorem wanted_unconfirmed (h : InApproach s n p) (f : Int) : wanted s n f false = some .hold := by
  rw [wanted, h.step]; dsimp only
  rw [h.progress]; exact if_pos (Bool.or_true _)

/-- R100: the motion that an approach in a direction wants at the force `f`. -/
def approachMotion (s : State) (n : Nat) (p : LockParams) (f : Int) : Direction → Motion
  | .load => loadChoice (lockLoad s n p) (borrowed s n).approach (borrowed s n).tolerance (borrowed s n).speed f
  | .unload => unloadChoice (lockLoad s n p) (borrowed s n).approach (borrowed s n).tolerance (borrowed s n).speed f

theorem wanted_approach (h : InApproach s n p) (hd : (workOf s n).approachDone = false) {d : Direction}
    (hc : (workOf s n).approachDirection = some d) (f : Int) : wanted s n f true = some (approachMotion s n p f d) := by
  rw [wanted, h.step]; dsimp only
  rw [h.progress]; dsimp only
  rw [hd, hc]
  cases d <;> rfl

theorem choose_done (h : InApproach s n p) (hc : (workOf s n).approachDirection ≠ none)
    (hd : (workOf s n).approachDone = true) (f : Int) (ok : Bool) :
    choose n f ok s = presentSeat n (wantMotion n .hold s) :=
  choose_of_motion (chooseDirection_of_chosen hc f ok) (wanted_done h hd f ok)

theorem choose_unconfirmed (h : InApproach s n p) (hd : (workOf s n).approachDone = false) (f : Int) :
    choose n f false s = wantMotion n .hold s :=
  choose_of_undone h.lt (chooseDirection_unconfirmed n f s) (wanted_unconfirmed h f) hd

theorem choose_approach (h : InApproach s n p) (hd : (workOf s n).approachDone = false) {d : Direction}
    (hc : (workOf s n).approachDirection = some d) (f : Int) :
    choose n f true s = wantMotion n (approachMotion s n p f d) s :=
  choose_of_undone h.lt (chooseDirection_of_chosen (by rw [hc]; nofun) f true) (wanted_approach h hd hc f) hd

theorem choose_directed (h : InApproach s n p) (hd : (workOf s n).approachDirection = none) (f : Int) :
    choose n f true s = choose n f true (directed n p f s) := by
  rw [choose, choose, chooseDirection_first h hd, chooseDirection_of_chosen (directed_chosen h.lt f)]

/-- R103, R104, R108: the motion that a lock-off wants behind its approach. -/
def stageMotion : LockProgress → Motion
  | .releasing => .retract 1
  | _ => .hold

theorem choose_of_stage {a : LockProgress} (hp : stepOf s n = .lockoff p) (ha : (workOf s n).progress = some a)
    (h : a ≠ .approach) (f : Int) (ok : Bool) : choose n f ok s = wantMotion n (stageMotion a) s := by
  have hno : NoApproach s n := fun q _ hq => h (Option.some.inj (ha.symm.trans hq))
  have hw : wanted s n f ok = some (stageMotion a) := by
    rw [wanted, hp]; dsimp only
    rw [ha]
    cases a with
    | approach => exact absurd rfl h
    | _ => rfl
  rw [choose_of_motion (chooseDirection_of_noApproach hno f ok) hw]
  exact presentSeat_of_noApproach ((motionOnly_wantMotion n _ s).noApproach (number_of_progress ha) hno)

/-! ### The start judgment of a LOCKOFF (R100, log 15, log 16) -/

theorem startJudgment_of_lockoff (h : stepOf s n = .lockoff p) : startJudgment n s = (startChoice n s, .goesOn) := by
  rw [startJudgment, h]

theorem startChoice_of_stale (h : isFresh s (bindingOf s n).force = false) : startChoice n s = s :=
  if_neg (by rw [h]; nofun)

theorem startChoice_of_fresh (h : isFresh s (bindingOf s n).force = true) {f : Int} (hf : valueOf s (bindingOf s n).force = f)
    {ok : Bool} (hk : (markOf s (bindingOf s n).force == .within) = ok) :
    startChoice n s = choose n f ok (holdAtStart n f (chooseDirection n f ok s)) := by
  subst hf hk
  exact if_pos h

/-- R100: the hold condition of an approach whose direction the force itself has fixed. -/
theorem holdAtStart_directed (h : InApproach s n p) (f : Int) : holdAtStart n f (directed n p f s) =
    if (workOf s n).commanded = some .hold ∧ (if f ≤ lockLoad s n p then lockLoad s n p - (borrowed s n).tolerance ≤ f
        else f ≤ lockLoad s n p + (borrowed s n).tolerance) then
      (directed n p f s).onWork n fun w => { w with holdReached := true }
    else directed n p f s := by
  have hs : SameStep n s (directed n p f s) := sameStep_onWork h.lt _
  have hc : holdCondition (directed n p f s) n f = true ↔ (if f ≤ lockLoad s n p then
      lockLoad s n p - (borrowed s n).tolerance ≤ f else f ≤ lockLoad s n p + (borrowed s n).tolerance) := by
    rw [holdCondition, (h.directed f).step]; dsimp only
    rw [workOf_directed h.lt, hs.lockLoad, hs.borrowed]
    by_cases hf : f ≤ lockLoad s n p
    · simp only [if_pos hf, decide_eq_true_eq]
    · simp only [if_neg hf, decide_eq_true_eq]
  refine if_congr ?_ rfl rfl
  rw [Bool.and_eq_true, hc, workOf_directed h.lt, decide_eq_true_eq]

theorem holdAtStart_undirected (h : InApproach s n p) (hd : (workOf s n).approachDirection = none) (f : Int) :
    holdAtStart n f s = s := by
  have hc : holdCondition s n f = false := by
    rw [holdCondition, h.step]; dsimp only
    rw [hd]
  exact if_neg (by rw [hc, Bool.and_false]; nofun)

end

end Sys2Proof.Machine
end

section
/-! SUPPORT. The force samples of an approach, the opening of the seat window, the seat samples and the close of the release
window (R100 to R107, R109). -/

namespace Sys2Proof.Machine

open Sys2Proof Sys2Proof.Config

/-! ### Force samples (R68, R81) -/

section
variable {s : State} {n : Nat} {p : LockParams} {f : Int} {k : Mark}

theorem forceSample_running (hm : (stressAt s n).mode = .running) (hf : f ≤ (designOf s (slotOf s n)).hardLimit) :
    forceSample n f k s = settleStep 25 n (judgeForce n f (k == .within) s) := by
  have hh : holdsAnchor s n = true := holdsAnchor_of_mode s hm rfl
  rw [forceSample, if_neg (by rw [hh]; nofun), if_neg (Int.not_lt.2 hf), hm]

theorem forceSample_locking (hm : (stressAt s n).mode = .locking) (hf : f ≤ (designOf s (slotOf s n)).hardLimit) :
    forceSample n f k s = settleStep 25 n (judgeLocking n f k s) := by
  have hh : holdsAnchor s n = true := holdsAnchor_of_mode s hm rfl
  rw [forceSample, if_neg (by rw [hh]; nofun), if_neg (Int.not_lt.2 hf), hm]

theorem forceSample_approach (hm : (stressAt s n).mode = .running) (hf : f ≤ (designOf s (slotOf s n)).hardLimit)
    (h : InApproach s n p) : forceSample n f k s = judgeApproach n p f (k == .within) s := by
  rw [forceSample_running hm hf, judgeForce, h.step]
  dsimp only
  rw [if_pos h.progress, settleStep_goesOn]

/-! ### The approach (R100, R101) -/

/-- R109: the approach with the point of a confirmed sample recorded (log 32). -/
def pointed (n : Nat) (f : Int) (s : State) : State :=
  s.onWork n fun w => { w with approachPoint := some (f, valueOf s (bindingOf s n).extension) }

theorem InApproach.pointed (h : InApproach s n p) (f : Int) : InApproach (pointed n f s) n p := h.onWork _

theorem workOf_pointed (hn : n < 4) (f : Int) : workOf (pointed n f s) n =
    { workOf s n with approachPoint := some (f, valueOf s (bindingOf s n).extension) } := workOf_onWork hn _

/-- R100: a confirmed sample overshoots the band of the approach. -/
def overshoots (s : State) (n : Nat) (p : LockParams) (f : Int) : Bool :=
  match (workOf s n).approachDirection with
  | some .load => decide (lockLoad s n p + (borrowed s n).tolerance < f)
  | some .unload => decide (f < lockLoad s n p - (borrowed s n).tolerance)
  | none => false

theorem overshoots_load (hc : (workOf s n).approachDirection = some .load) :
    overshoots s n p f = true ↔ lockLoad s n p + (borrowed s n).tolerance < f := by
  rw [overshoots, hc]
  exact decide_eq_true_iff

theorem overshoots_unload (hc : (workOf s n).approachDirection = some .unload) :
    overshoots s n p f = true ↔ f < lockLoad s n p - (borrowed s n).tolerance := by
  rw [overshoots, hc]
  exact decide_eq_true_iff

theorem judgeApproach_of_done (hd : (workOf s n).approachDone = true) (ok : Bool) :
    judgeApproach n p f ok s = choose n f ok s := if_pos hd

theorem judgeApproach_unconfirmed (hd : (workOf s n).approachDone = false) :
    judgeApproach n p f false s = choose n f false s := by
  rw [judgeApproach, if_neg (by rw [hd]; nofun), chooseDirection_unconfirmed]; rfl

/-- R100, R101: a confirmed sample judged under a direction. -/
def approachJudged (n : Nat) (p : LockParams) (f : Int) (s : State) : State :=
  if ((workOf s n).holdReached = true ∧ (workOf s n).commanded = some .hold)
      ∧ lockLoad s n p - (borrowed s n).tolerance ≤ f ∧ f ≤ lockLoad s n p + (borrowed s n).tolerance then
    choose n f true ((pointed n f s).onWork n fun w => { w with approachDone := true })
  else choose n f true (setOvershoot n (overshoots s n p f) (pointed n f s))

theorem judgeApproach_confirmed (hd : (workOf s n).approachDone = false) {t : State} (ht : chooseDirection n f true s = t)
    (hn : n < 4) (hs : SameStep n s t) (hm : t.measure = s.measure) : judgeApproach n p f true s = approachJudged n p f t := by
  have hp : (t.onWork n fun w => { w with approachPoint := some (f, valueOf s (bindingOf s n).extension) }) = pointed n f t := by
    rw [pointed, valueOf, valueOf, channelAt_of_measure hm, hs.bindingOf]
  have hw := workOf_pointed (s := t) hn f
  rw [judgeApproach, if_neg (by rw [hd]; nofun), ht, ← hs.lockLoad, ← hs.borrowed]
  dsimp only
  rw [if_pos rfl, hp]
  refine if_congr ?_ rfl (congrArg (fun b => choose n f true (setOvershoot n b (pointed n f t))) ?_)
  · rw [holding, inBand, hw]
    simp only [Bool.true_and, Bool.and_eq_true, beq_iff_eq, decide_eq_true_eq]
  · have hd : (workOf (pointed n f t) n).approachDirection = (workOf t n).approachDirection := by rw [hw]
    rw [hd, Bool.true_and]
    rfl

/-- R100: the first confirmed sample fixes the direction, and is then judged. -/
theorem judgeApproach_first (h : InApproach s n p) (hd : (workOf s n).approachDone = false)
    (hn : (workOf s n).approachDirection = none) :
    judgeApproach n p f true s = judgeApproach n p f true (directed n p f s) := by
  have hd' : (workOf (directed n p f s) n).approachDone = false := by rw [workOf_directed h.lt]; exact hd
  rw [judgeApproach_confirmed hd (chooseDirection_first h hn f) h.lt (sameStep_onWork h.lt _) rfl,
    judgeApproach_confirmed hd' (chooseDirection_of_chosen (directed_chosen h.lt f) f true) h.lt (.refl n _) rfl]

theorem forceSample_first (hm : (stressAt s n).mode = .running) (hf : f ≤ (designOf s (slotOf s n)).hardLimit)
    (h : InApproach s n p) (hd : (workOf s n).approachDone = false) (hn : (workOf s n).approachDirection = none) :
    forceSample n f .within s = forceSample n f .within (directed n p f s) := by
  have hs : SameStep n s (directed n p f s) := sameStep_onWork h.lt _
  have hm' : (stressAt (directed n p f s) n).mode = .running := by
    rw [directed, State.onWork, stressAt_onStress_same h.lt]; exact hm
  have hf' : f ≤ (designOf (directed n p f s) (slotOf (directed n p f s) n)).hardLimit := by
    rw [hs.slotOf, hs.designOf]; exact hf
  rw [forceSample_approach hm hf h, forceSample_approach hm' hf' (h.directed f)]
  exact judgeApproach_first h hd hn

theorem judgeApproach_chosen (h : InApproach s n p) (hd : (workOf s n).approachDone = false)
    (hc : (workOf s n).approachDirection ≠ none) : judgeApproach n p f true s = approachJudged n p f s :=
  judgeApproach_confirmed hd (chooseDirection_of_chosen hc f true) h.lt (.refl n s) rfl

/-- R100: an approach that is complete presents JACK_SEAT. -/
theorem judgeApproach_completes (h : InApproach s n p) (hd : (workOf s n).approachDone = false)
    (hc : (workOf s n).approachDirection ≠ none) (hr : (workOf s n).holdReached = true)
    (hk : (workOf s n).commanded = some .hold) (lo : lockLoad s n p - (borrowed s n).tolerance ≤ f)
    (hi : f ≤ lockLoad s n p + (borrowed s n).tolerance) :
    judgeApproach n p f true s = presentSeat n ((pointed n f s).onWork n fun w => { w with approachDone := true }) := by
  rw [judgeApproach_chosen h hd hc, approachJudged, if_pos ⟨⟨hr, hk⟩, lo, hi⟩]
  have ha : InApproach ((pointed n f s).onWork n fun w => { w with approachDone := true }) n p := (h.pointed f).onWork _
  have hw : workOf ((pointed n f s).onWork n fun w => { w with approachDone := true }) n =
      { workOf s n with
        approachPoint := some (f, valueOf s (bindingOf s n).extension), approachDone := true } := by
    rw [workOf_onWork h.lt, workOf_pointed h.lt]
  rw [choose_done ha (by rw [hw]; exact hc) (by rw [hw]), wantMotion, if_pos (by rw [hw]; exact hk)]

theorem InApproach.setOvershoot (h : InApproach s n p) (o : Bool) : InApproach (setOvershoot n o s) n p := by
  unfold Machine.setOvershoot; split
  · exact h.onWork _
  · exact h

theorem sameStep_setOvershoot (hn : n < 4) (o : Bool) : SameStep n s (setOvershoot n o s) := by
  unfold setOvershoot; split
  · exact sameStep_onWork hn _
  · exact .refl n s

theorem workOf_setOvershoot (hn : n < 4) (o : Bool) : ∃ b,
    workOf (setOvershoot n o s) n = { workOf s n with overshoot := b } := by
  unfold setOvershoot; split
  · exact ⟨true, workOf_onWork hn _⟩
  · exact ⟨_, rfl⟩

/-- R100: a confirmed sample does not complete the approach. -/
def NotInBand (s : State) (n : Nat) (p : LockParams) (f : Int) : Prop :=
  ¬((workOf s n).holdReached = true ∧ (workOf s n).commanded = some .hold
    ∧ lockLoad s n p - (borrowed s n).tolerance ≤ f ∧ f ≤ lockLoad s n p + (borrowed s n).tolerance)

/-- R100: an approach that is not complete moves in its direction. -/
theorem judgeApproach_goesOn (h : InApproach s n p) (hd : (workOf s n).approachDone = false) {d : Direction}
    (hc : (workOf s n).approachDirection = some d) (hn : NotInBand s n p f) {beyond : Prop} [Decidable beyond]
    (ho : overshoots s n p f = true ↔ beyond) :
    judgeApproach n p f true s = wantMotion n (approachMotion s n p f d)
      (if beyond then (pointed n f s).onWork n fun w => { w with overshoot := true } else pointed n f s) := by
  have hs : SameStep n s (setOvershoot n (overshoots s n p f) (pointed n f s)) :=
    (sameStep_onWork h.lt _ : SameStep n s (pointed n f s)).trans (sameStep_setOvershoot h.lt _)
  have hm : approachMotion (setOvershoot n (overshoots s n p f) (pointed n f s)) n p f d = approachMotion s n p f d := by
    unfold approachMotion
    rw [hs.lockLoad, hs.borrowed]
  obtain ⟨b, hw⟩ := workOf_setOvershoot (s := pointed n f s) h.lt (overshoots s n p f)
  rw [workOf_pointed h.lt] at hw
  rw [judgeApproach_chosen h hd (by rw [hc]; nofun), approachJudged, if_neg fun ⟨⟨hr, hh⟩, hb⟩ => hn ⟨hr, hh, hb⟩,
    choose_approach ((h.pointed f).setOvershoot _) (by rw [hw]; exact hd) (by rw [hw]; exact hc), hm]
  exact congrArg (wantMotion n _) (if_congr ho rfl rfl)

/-! ### The seat window opens (R101, R102, R109) -/

/-- R109: the figures of a STAGE record behind its step number. -/
theorem stageRecord_append (s : State) (n : Nat) (a b : List Byte) : stageRecord s n (a ++ b) =
    { tick := now s, kind := .stage, unit := n, slot := slotOf s n, detail := 0, data := be 1 (stepNumber s n) ++ a ++ b } := by
  rw [stageRecord, List.append_assoc]

theorem stageRecord_of_sameStep {t : State} (h : SameStep n s t) (ht : now t = now s) (data : List Byte) :
    stageRecord t n data = stageRecord s n data := by
  rw [stageRecord, ht, h.slotOf, h.stepNumber]; rfl

/-- R101: the channel with its seat window open. -/
def seatOpened (n : Nat) (p : LockParams) (s : State) : State :=
  s.onStress n fun c =>
    { c with mode := .locking, work := { c.work with window := p.seatWindow, progress := some .seating, seatCount := none } }

theorem present_work (node : Nat) (c : Command) (o : Owner) : workOf (present node c o s) n = workOf s n := by
  unfold present; split <;> rfl

theorem now_present (node : Nat) (c : Command) (o : Owner) : now (present node c o s) = now s := by
  unfold present; split <;> rfl

theorem presentSeat_waits (h : queueTakes s (bindingOf s n).jack .jackSeat = false) : presentSeat n s = s := by
  unfold presentSeat; split
  case h_1 => exact if_neg (by simp [h])
  case h_2 => rfl

theorem isFresh_of_measure {s t : State} (h : t.measure = s.measure) (m : Nat) : isFresh t m = isFresh s m := by
  rw [isFresh, channelAt_of_measure h, isFresh]

/-- R101, R102, R109: the window open and told to the log, unless the seat-mask channel is STALE. -/
theorem openWindow_eq (hn : n < 4) {point : Int × Int} (hp : (workOf s n).approachPoint = some point) :
    openWindow n p s =
      if isFresh s (bindingOf s n).seat = true then
        writeOrDrop (stageRecord s n (putForce point.1 ++ beInt 4 point.2)) (seatOpened n p s)
      else haltRun n .sensorStale
        (writeOrDrop (stageRecord s n (putForce point.1 ++ beInt 4 point.2)) (seatOpened n p s)) := by
  have hs : SameStep n s (seatOpened n p s) := sameStep_onStress hn _
  have told : ∀ t, t = writeOrDrop (stageRecord s n (putForce point.1 ++ beInt 4 point.2)) (seatOpened n p s) →
      openWindow n p s = if isFresh t (bindingOf t n).seat = true then t else haltRun n .sensorStale t := by
    rintro _ rfl
    rw [← stageRecord_of_sameStep hs rfl, openWindow, hp]; rfl
  rw [told _ rfl, (hs.trans (sameStep_writeOrDrop _)).bindingOf, isFresh_of_measure (frame_writeOrDrop _ _).measure]
  rfl

theorem presentSeat_opens (h : InApproach s n p) (hd : (workOf s n).approachDone = true) {point : Int × Int}
    (hp : (workOf s n).approachPoint = some point) (hq : queueTakes s (bindingOf s n).jack .jackSeat = true) :
    presentSeat n s =
      if isFresh s (bindingOf s n).seat = true then
        writeOrDrop (stageRecord s n (putForce point.1 ++ beInt 4 point.2))
          (seatOpened n p (present (bindingOf s n).jack .jackSeat (.sc n) s))
      else haltRun n .sensorStale (writeOrDrop (stageRecord s n (putForce point.1 ++ beInt 4 point.2))
        (seatOpened n p (present (bindingOf s n).jack .jackSeat (.sc n) s))) := by
  have hs : SameStep n s (present (bindingOf s n).jack .jackSeat (.sc n) s) := sameStep_present _ _ _
  rw [presentSeat, h.step]; dsimp only
  rw [if_pos (by rw [h.progress, hd, hq]; rfl), openWindow_eq h.lt (by rw [present_work]; exact hp), hs.bindingOf,
    stageRecord_of_sameStep hs (now_present _ _ _), isFresh_of_measure (frame_present s _ _ _).measure]

/-! ### Seat samples (R103) -/

/-- R103: the set bits of a mask, counted one by one. -/
theorem bitCount_eq (w v : Nat) : bitCount w v = (List.range w).countP fun i => v.testBit i := by
  induction w generalizing v with
  | zero => rfl
  | succ w ih =>
    rw [bitCount, ih, List.range_succ_eq_map, List.countP_cons, List.countP_map, Nat.add_comm]
    congr 1
    · exact congrArg (fun q => List.countP q (List.range w)) (funext fun i => by simp [Nat.testBit_succ])
    · rw [Nat.testBit_zero]
      rcases Nat.mod_two_eq_zero_or_one v with h | h <;> simp [h]

theorem seatSample_outside {v : Int} (h : v < 0 ∨ 65535 < v) : seatSample n v s = s := by
  have hw : withinInt 0 65535 v = false := by
    rw [withinInt, Bool.and_eq_false_iff, decide_eq_false_iff_not, decide_eq_false_iff_not]
    omega
  unfold seatSample; split
  · exact if_neg (by rw [hw]; nofun)
  · rfl

theorem seatSample_counts {v : Int} (hp : stepOf s n = .lockoff p) (lo : 0 ≤ v) (hi : v ≤ 65535) : seatSample n v s =
    if (designOf s (slotOf s n)).strands ≤ bitCount 16 v.toNat then completeSeating n p v.toNat (bitCount 16 v.toNat) s
    else s.onWork n fun w => { w with seatCount := some (bitCount 16 v.toNat) } := by
  rw [seatSample, hp]
  exact if_pos (by rw [withinInt, decide_eq_true lo, decide_eq_true hi]; rfl)

/-- R103: the completion of SEATING, its STAGE record told of the state before it. -/
theorem completeSeating_eq (hn : n < 4) (mask count : Nat) : completeSeating n p mask count s =
    wantMotion n (.retract 1) (writeOrDrop (stageRecord s n (be 2 mask ++ be 1 count ++ be 4 (workOf s n).elapsed))
      (s.onWork n fun w =>
        { w with
          seatCount := some count, seatElapsed := some w.elapsed, window := p.releaseWindow, progress := some .releasing })) := by
  rw [completeSeating, stageRecord_of_sameStep (sameStep_onWork hn _) rfl, workOf_onWork hn]

/-! ### The close of the window (R104, R106, R107) -/

/-- R106: the channel RUNNING again in RETAINED, its window closed at the releasing force. -/
def windowClosed (n : Nat) (f : Int) (s : State) : State :=
  s.onStress n fun c =>
    { c with
      mode := .running
      work := { c.work with
        window := 0, progress := some .retained, releaseForce := some f, releaseElapsed := some (workOf s n).elapsed
        deferredFreeze := false, deferredHalt := false } }

/-- R106: the closed window told to the log and JACK_HOLD presented. -/
def closedHolding (n : Nat) (f : Int) (s : State) : State :=
  wantMotion n .hold (writeOrDrop (stageRecord s n (putForce f ++ be 4 (workOf s n).elapsed)) (windowClosed n f s))

/-- R107: the deferred freeze applied at the close. -/
def closedFrozen (n : Nat) (f : Int) (s : State) : State :=
  if (workOf s n).deferredFreeze = true ∧ s.trip.frozen = true then
    (placeHalt (bindingOf s n).jack .jackHold (.sc n) ((closedHolding n f s).setMode n .frozen)).onWork n fun w =>
      { w with commanded := some .hold }
  else closedHolding n f s

theorem mode_closedHolding (hn : n < 4) (f : Int) (s : State) : (stressAt (closedHolding n f s) n).mode = .running := by
  rw [closedHolding, mode_of_view ((view_wantMotion _ n _).trans (view_writeOrDrop _ _)), windowClosed, stressAt_onStress_same hn]

theorem sameStep_closedHolding (hn : n < 4) (f : Int) (s : State) : SameStep n s (closedHolding n f s) :=
  ((sameStep_onStress hn _ : SameStep n s (windowClosed n f s)).trans (sameStep_writeOrDrop _)).trans
    ((motionOnly_wantMotion n _ _).sameStep hn)

theorem holdsAnchor_closedFrozen (hn : n < 4) (f : Int) (s : State) : holdsAnchor (closedFrozen n f s) n = true := by
  unfold closedFrozen; split
  · refine holdsAnchor_of_mode _ (m := .frozen) ?_ rfl
    rw [State.onWork, stressAt_onStress_same hn]
    show (stressAt ((closedHolding n f s).setMode n .frozen) n).mode = _
    rw [State.setMode, stressAt_onStress_same hn]
  · exact holdsAnchor_of_mode _ (mode_closedHolding hn f s) rfl

theorem closeWindow_eq (hn : n < 4) (f : Int) : closeWindow n f s =
    if (workOf s n).deferredHalt = true then (haltRun n .station (closedFrozen n f s), .goesOn)
    else requestCell n (closedFrozen n f s) := by
  have hs : SameStep n s (windowClosed n f s) := sameStep_onStress hn _
  have hfreeze : freezeStress (closedHolding n f s) n =
      (placeHalt (bindingOf s n).jack .jackHold (.sc n) ((closedHolding n f s).setMode n .frozen)).onWork n fun w =>
        { w with commanded := some .hold } := by
    have hb : bindingOf ((closedHolding n f s).setMode n .frozen) n = bindingOf s n :=
      ((sameStep_closedHolding hn f s).trans (sameStep_onStress hn _)).bindingOf
    rw [freezeStress, mode_closedHolding hn]; dsimp only
    rw [holdByPriority, hb]
  have hafter : (if ((workOf s n).deferredFreeze && s.trip.frozen) = true then freezeStress (closedHolding n f s) n
      else closedHolding n f s) = closedFrozen n f s := by
    rw [hfreeze]
    exact if_congr (Bool.and_eq_true _ _ ▸ .rfl) rfl rfl
  have hclosed : wantMotion n .hold (writeOrDrop (stageRecord (windowClosed n f s) n (putForce f ++ be 4 (workOf s n).elapsed))
      (windowClosed n f s)) = closedHolding n f s := by
    rw [stageRecord_of_sameStep hs rfl]; rfl
  have hc : closeWindow n f s = if (workOf s n).deferredHalt = true then
      (haltStress n .station (closedFrozen n f s), .goesOn) else requestCell n (closedFrozen n f s) := by
    rw [← hafter, ← hclosed]; rfl
  rw [hc, haltStress, if_pos (holdsAnchor_closedFrozen hn f s)]

theorem judgeLocking_releases (hp : stepOf s n = .lockoff p) (ha : (workOf s n).progress = some .releasing)
    (hf : f ≤ p.releaseLevel) (hk : k ≠ .over) : judgeLocking n f k s = closeWindow n f s := by
  rw [judgeLocking, hp]
  exact if_pos (by simp [ha, hf, hk])

theorem judgeLocking_holds (hp : stepOf s n = .lockoff p)
    (h : (workOf s n).progress ≠ some .releasing ∨ p.releaseLevel < f ∨ k = .over) :
    judgeLocking n f k s = (choose n f (k == .within) s, .goesOn) := by
  rw [judgeLocking, hp]
  refine if_neg fun hc => ?_
  simp only [Bool.and_eq_true, decide_eq_true_eq, Bool.not_eq_true', beq_eq_false_iff_ne] at hc
  obtain ⟨⟨ha, hf⟩, hk⟩ := hc
  exact h.elim (· ha) fun h => h.elim (Int.not_lt.2 hf) hk

/-- R105: a window that has run out halts the test (log 2). -/
theorem exec_lockWindowRunOut (hn : n < 4) (ht : s.tickOpen = true) (hm : (stressAt s n).mode = .locking)
    (hw : (workOf s n).window = 0) :
    exec (.lockWindowRunOut n) s = .next (afterPass (haltRun n (runOutCause s n) s)) := by
  have hd : isDue s (.lockRunOut n) = true := by
    show (s.tickOpen && decide (n < 4) && inMode s n .locking && decide ((workOf s n).window = 0)) = true
    simp [ht, hn, inMode, hm, hw]
  have he : effect s (.lockRunOut n) = haltRun n (runOutCause s n) s := if_pos (holdsAnchor_of_mode s hm rfl)
  refine (congrArg Host.Outcome.next (if_pos hd)).trans ?_
  rw [he, runPass_of_due rfl]

end

end Sys2Proof.Machine
end

section
/-! SUPPORT. The cell outcomes of a test (R46, R97 to R99, R108), and the statement of the lock-off. -/

namespace Sys2Proof.Machine

open Sys2Proof Sys2Proof.Config

/-! ### Outcomes judged (R98, R99, R108) -/

theorem goodReading_iff (o : OutcomeRecord) (r : CellReading) :
    goodReading o = some r ↔ o.outcome = .reading ∧ o.reading = some r ∧ r.mark = .within := by
  unfold goodReading; split
  case h_1 q ho hr =>
    rw [ho, hr]
    split
    case isTrue hm => exact ⟨fun h => by cases h; exact ⟨rfl, rfl, hm⟩, fun ⟨_, h, _⟩ => h⟩
    case isFalse hm => exact ⟨nofun, fun ⟨_, h, hk⟩ => by cases h; exact absurd hk hm⟩
  case h_2 hn => exact ⟨nofun, fun ⟨ho, hr, _⟩ => absurd hr (hn r ho)⟩

theorem goodReading_none {o : OutcomeRecord}
    (h : ∀ r, ¬(o.outcome = .reading ∧ o.reading = some r ∧ r.mark = .within)) : goodReading o = none :=
  Option.eq_none_iff_forall_ne_some.2 fun r hr => h r ((goodReading_iff o r).1 hr)

section
variable {s : State} {n : Nat} {o : OutcomeRecord} {r : CellReading} {p : LockParams}

theorem haltStress_of_holds (h : holdsAnchor s n = true) (cause : HaltCause) : haltStress n cause s = haltRun n cause s :=
  if_pos h

/-- R98, R108: any other outcome halts the test. -/
theorem settleStep_fault (hh : holdsAnchor s n = true) (hp : stepOf s n = .cellCheck ∨ ∃ p, stepOf s n = .lockoff p)
    (h : goodReading o = none) : settleStep 25 n (judgeOutcome n o s) = haltRun n .cellFault s := by
  have hj : judgeOutcome n o s = (haltStress n .cellFault s, .goesOn) := by
    obtain hp | ⟨p, hp⟩ := hp <;> rw [judgeOutcome, hp, h]
  rw [hj, settleStep_goesOn, haltStress_of_holds hh]

/-- R99: the cross-check. -/
theorem judgeOutcome_cellCheck (hp : stepOf s n = .cellCheck) (h : goodReading o = some r) : judgeOutcome n o s =
    let found := s.onAnchor (slotOf s n) fun a => { a with crossDifference := some (o.jackForce - r.value) }
    if (o.jackForce - r.value).natAbs ≤ crossTolerance (classOf s (slotOf s n)) o.jackForce then (found, .completes false)
    else (haltStress n .cellMismatch found, .goesOn) := by
  rw [judgeOutcome, hp, h]

/-- R108: the band of the retained load. -/
theorem judgeOutcome_lockoff (hp : stepOf s n = .lockoff p) (h : goodReading o = some r) : judgeOutcome n o s =
    (s.onAnchor (slotOf s n) fun a => { a with retainedLoad := some r.value },
      if r.value < retainedLow (classOf s (slotOf s n)) (lockLoad s n p) then .fails .lockoffLow
      else if retainedHigh (classOf s (slotOf s n)) (lockLoad s n p) < r.value then .fails .lockoffHigh
      else .completes false) := by
  rw [judgeOutcome, hp, h]
  dsimp only
  split
  · rfl
  · split
    · rfl
    · rfl

/-! ### Outcomes received and cells requested (R46, R97) -/

theorem cellOutcome_discarded (h : holdsAnchor s n = false ∨ (workOf s n).requestOutstanding = false) (c : CellOutcome)
    (q : Option CellReading) : cellOutcome c q s n = s :=
  if_neg (by rw [Bool.and_eq_true]; exact fun ⟨hh, hr⟩ => h.elim (by rw [hh]; nofun) (by rw [hr]; nofun))

theorem cellOutcome_taken (h : holdsAnchor s n = true) (hr : (workOf s n).requestOutstanding = true) (c : CellOutcome)
    (q : Option CellReading) : cellOutcome c q s n = settleStep 25 n (recordOutcome n c q s) :=
  if_pos (by rw [h, hr]; rfl)

/-- An outcome is recorded the same whether or not the request that it answers was noted. -/
theorem recordOutcome_of_asked (hn : n < 4) (c : CellOutcome) (q : Option CellReading) (b : Bool) :
    recordOutcome n c q (s.onWork n fun w => { w with requestOutstanding := b }) = recordOutcome n c q s := by
  have hm : (stressAt (s.onWork n fun w => { w with requestOutstanding := b }) n).mode = (stressAt s n).mode := by
    rw [State.onWork, stressAt_onStress_same hn]
  have hs : SameStep n s (s.onWork n fun w => { w with requestOutstanding := b }) := sameStep_onWork hn _
  rw [recordOutcome, recordOutcome, hm, outcomeRecord, hs.bindingOf, onWork_onWork]
  rfl

theorem requestCell_unconfigured (h : (cellAt s (bindingOf s n).cell).config = none) :
    requestCell n s = recordOutcome n .noCell none s := if_pos (by rw [h]; rfl)

theorem requestCell_configured (h : (cellAt s (bindingOf s n).cell).config ≠ none) : requestCell n s =
    (joinRequest (bindingOf s n).cell
      (fun q => { q with waiting := channels4.filter fun w => w == n || q.waiting.contains w })
      (s.onWork n fun w => { w with requestOutstanding := true }), .goesOn) :=
  if_neg (by rwa [Option.isNone_iff_eq_none])

end

/-- Settles O38: the approach by its samples, the choices of each stage, the lock window, and the outcomes by the step that
judges them. -/
theorem lockOffSeatsReleasesAndReadsTheCell : Obligations.LockOffSeatsReleasesAndReadsTheCell := by
  refine ⟨fun s n p f k hm hf hp ha => ?_, fun s n p f ok hp => ?_, ⟨fun s n m v k p hm hp => ?_,
    fun s n p f k hm hf hp ha => ?_, fun s n hn ht hm hw => ?_⟩, fun s n => ?_⟩
  · intro w b load pointed' ends
    have h : InApproach s n p := ⟨hp, ha⟩
    have forced (k : Mark) := forceSample_approach (k := k) hm hf h
    refine ⟨fun hc hd hk => ?_, fun hd hk => ?_, fun hc hd hk ⟨hr, hh, lo, hi⟩ => ?_, fun hc hd hk hn => ?_,
      fun hc hd hk hn => ?_, fun hc hd => ?_, fun hd hq => presentSeat_waits hq, fun point hd hpt hq => ?_⟩
    · subst hk; exact forceSample_first hm hf h hd hc
    · rw [forced, beq_eq_false_iff_ne.2 hk, judgeApproach_unconfirmed hd, choose_unconfirmed h hd]
    · subst hk
      exact (forced .within).trans (judgeApproach_completes h hd hc hr hh lo hi)
    · subst hk
      exact (forced .within).trans (judgeApproach_goesOn h hd hc hn (overshoots_load hc))
    · subst hk
      exact (forced .within).trans (judgeApproach_goesOn h hd hc hn (overshoots_unload hc))
    · rw [forced, judgeApproach_of_done hd, choose_done h hc hd]
    · rw [presentSeat_opens h hd hpt hq, stageRecord_append]
      rfl
  · intro w b load directed'
    refine ⟨fun ha => ?_, fun ha => choose_of_stage hp ha nofun f ok, fun ha => ?_⟩
    · exact ha.elim (fun ha => choose_of_stage hp ha nofun f ok) fun ha => choose_of_stage hp ha nofun f ok
    · have h : InApproach s n p := ⟨hp, ha⟩
      refine ⟨fun hc hk => ?_, fun hc hd => choose_done h hc hd f ok, fun hd hk => ?_, fun hd hk hc => ?_,
        fun hd hk hc => ?_, fun hs => ?_, fun hs hv hc => ⟨fun hk => ?_, fun hk => ?_⟩⟩
      · subst hk; exact choose_directed h hc f
      · subst hk; exact choose_unconfirmed h hd f
      · subst hk; exact choose_approach h hd hc f
      · subst hk; exact choose_approach h hd hc f
      · rw [startJudgment_of_lockoff hp, startChoice_of_stale hs]
      · rw [startJudgment_of_lockoff hp, startChoice_of_fresh hs hv (beq_eq_false_iff_ne.2 hk), chooseDirection_unconfirmed,
          holdAtStart_undirected h hc]
      · rw [startJudgment_of_lockoff hp, startChoice_of_fresh hs hv (beq_iff_eq.2 hk), chooseDirection_first h hc,
          holdAtStart_directed h]
        rfl
  · intro w d stage count seated closed held frozen after
    have hh : holdsAnchor s n = true := holdsAnchor_of_mode s hm rfl
    have hn : n < 4 := number_of_holdsAnchor s hh
    have hcount : bitCount 16 v.toNat = count := bitCount_eq 16 v.toNat
    refine ⟨fun hs hf he => ?_, seatSample_outside, fun lo hi hc => ?_, fun lo hi hc => ?_, fun hv ha => ?_,
      fun hv ha hr => ?_, fun hv ha hr hk => ?_⟩
    · have hfe : forceAndExtension s m n v k = s := by
        rw [forceAndExtension, if_neg hf, if_neg he]
      rw [stressSample_of_holds s hh, hfe]
      refine ⟨fun ha => ?_, fun ha => if_neg fun ⟨_, hc, _⟩ => ha ((isSeating_iff s n).1 hc).2⟩
      have hc := (isSeating_iff s n).2 ⟨hm, ha⟩
      exact if_pos ⟨hs, hc, hc⟩
    · rw [seatSample_counts hp lo hi, hcount, if_neg (Nat.not_le.2 hc)]
    · rw [seatSample_counts hp lo hi, hcount, if_pos hc, completeSeating_eq hn]
      rfl
    · rw [forceSample_locking hm hv, judgeLocking_holds hp (.inl fun he => nomatch ha.symm.trans he), settleStep_goesOn,
        choose_of_stage hp ha nofun]
      rfl
    · rw [forceSample_locking hm hv, judgeLocking_holds hp (.inr hr), settleStep_goesOn, choose_of_stage hp ha nofun]
      rfl
    · rw [forceSample_locking hm hv, judgeLocking_releases hp ha hr hk, closeWindow_eq hn, apply_ite (settleStep 25 n),
        settleStep_goesOn]
      rfl
  · rw [forceSample_running hm hf, judgeForce, hp]
    dsimp only
    rw [if_neg (by rw [ha]; nofun), settleStep_goesOn, choose_of_stage hp ha nofun]
    rfl
  · exact exec_lockWindowRunOut hn ht hm hw
  · intro slot c good judged
    have settled (u : State) (o : OutcomeRecord) (hs : SameStep n s u) (hh : holdsAnchor u n = true) :
        judged u o (settleStep 25 n (judgeOutcome n o u)) := by
      refine ⟨fun hp => ⟨fun hb => ?_, fun r hg => ?_⟩, fun p hp => ⟨fun hb => ?_, fun r hg => ?_⟩⟩
      · exact settleStep_fault hh (.inl (hs.stepOf.trans hp)) (goodReading_none hb)
      · rw [judgeOutcome_cellCheck (hs.stepOf.trans hp) ((goodReading_iff o r).2 hg), hs.slotOf, hs.classOf]
        refine ⟨fun hl => by rw [if_pos hl], fun hl => ?_⟩
        rw [if_neg (Nat.not_le.2 hl), settleStep_goesOn, haltStress_of_holds (by exact hh)]
      · exact settleStep_fault hh (.inr ⟨p, hs.stepOf.trans hp⟩) (goodReading_none hb)
      · rw [judgeOutcome_lockoff (hs.stepOf.trans hp) ((goodReading_iff o r).2 hg), hs.slotOf, hs.classOf, hs.lockLoad]
        refine ⟨fun hl => ?_, fun hl hu => ?_, fun hl hu => ?_⟩
        · exact congrArg (fun e => settleStep 25 n (_, e)) (if_pos hl)
        · exact congrArg (fun e => settleStep 25 n (_, e)) ((if_neg (Int.not_lt.2 hl)).trans (if_pos hu))
        · exact congrArg (fun e => settleStep 25 n (_, e)) ((if_neg (Int.not_lt.2 hl)).trans (if_neg (Int.not_lt.2 hu)))
    refine ⟨fun o r h => cellOutcome_discarded h o r, fun o r hh hr => ?_, fun o hm ho => ?_, fun hh => ?_⟩
    · intro written u
      have hn : n < 4 := number_of_holdsAnchor s hh
      rw [cellOutcome_taken hh hr]
      refine ⟨fun hm => ?_, fun hm => ?_⟩
      · rw [recordOutcome, if_neg hm, settleStep_goesOn]; rfl
      · rw [recordOutcome, if_pos hm]
        exact settled u written (sameStep_onWork hn _) ((holdsAnchor_of_view (view_onWork s n _) n).trans hh)
    · rw [resume, ho]
      exact settled s o (.refl n s) (holdsAnchor_of_mode s hm rfl)
    · intro asked cell
      have hn : n < 4 := number_of_holdsAnchor s hh
      refine ⟨fun hp => by rw [startJudgment, hp], fun hk => ?_, fun hk => ?_⟩
      · rw [requestCell_unconfigured hk, cellOutcome_taken]
        · rw [recordOutcome_of_asked hn]
        · exact (holdsAnchor_of_view (view_onWork s n _) n).trans hh
        · rw [workOf_onWork hn]
      · rw [requestCell_configured hk, joinRequest]; rfl

end Sys2Proof.Machine
end

section
/-! SUPPORT. The records that every unit shares: the log, the command queue and the priority list, the owners of the nodes,
and what names the owned nodes. Nearly every act of the part changes nothing of them but by a record written, a command
presented or a halt placed; an invariant of these records that those three keep, with the few requests that name nodes or
edit the log and the moves of the ring that take from the lists, is kept by every command. -/

namespace Sys2Proof.Machine

open Sys2Proof Sys2Proof.Config

/-! ### The desk -/

/-- The log, the command lists, the owners of the nodes, and the bindings and the configuration that name nodes. -/
structure Desk where
  log : TestLog
  queue : List QueueEntry
  priority : List PriorityEntry
  owners : Vector (Option Owner) 62
  bindings : Vector (Option Binding) 4
  config : Option PlacementConfig

/-- The desk of a state. -/
def desk (s : State) : Desk where
  log := s.log
  queue := s.sched.queue
  priority := s.sched.priority
  owners := s.ring.owners
  bindings := s.stress.map (·.binding)
  config := s.placement.config

/-- An invariant of the desk that every primitive act upon it keeps. -/
structure Keeps (I : State → Prop) : Prop where
  elsewhere : ∀ {s t : State}, I s → desk t = desk s → I t
  reserve : ∀ (r : LogRecord) {s : State}, I s → I (writeReserve r s)
  ordinary : ∀ (r : LogRecord) {s : State}, ordinaryRoom s.log = true → I s → I (s.onLog (appendRecord r))
  trim : ∀ (seq : Word32) {s : State}, I s → I (s.onLog (trimTo seq))
  watermark : ∀ (w : Nat) {s : State}, I s → I (s.onLog fun l => judgeAttention { l with watermark := w })
  overrun : ∀ {s : State}, I s → I (s.onLog fun l => { l with overrun := false })
  present : ∀ (node : Nat) (c : Command) (o : Owner) {s : State}, I s → I (present node c o s)
  placeHalt : ∀ (node : Nat) (c : Command) (o : Owner) {s : State}, I s → I (placeHalt node c o s)
  enter : ∀ (e : QueueEntry) {s : State}, s.sched.queue.length < queueMax →
    s.sched.queue.any (sameKey e.node (commandClass e.command)) = false → I s →
    I (s.onSched fun d => { d with queue := d.queue ++ [e] })
  take : ∀ (q : List QueueEntry) (p : List PriorityEntry) {s : State}, q.Sublist s.sched.queue →
    p.Sublist s.sched.priority → I s → I (s.onSched fun d => { d with queue := q, priority := p })
  bind : ∀ (n : Nat) (b : Binding) (auto : Bool) {s : State}, n ≤ 3 → I s → I (bindTo n b auto s)
  unbind : ∀ (n : Nat) {s : State}, n ≤ 3 → I s → I (unbind n s)
  configure : ∀ (c : PlacementConfig) {s : State}, I s → I (configurePlacement c s)
  unconfigure : ∀ {s : State}, I s → I (unconfigurePlacement s)
  power : ∀ (straps : Nat) (line : Bool) (s : State), I { State.power straps line with pending := s.pending }

/-! ### The desk after an update -/

section
variable (s : State)

theorem desk_onStress (n : Nat) (f : Stress → Stress) (hf : ∀ c, (f c).binding = c.binding := by intro _; rfl) :
    desk (s.onStress n f) = desk s := by
  have h : (s.onStress n f).stress.map (·.binding) = s.stress.map (·.binding) := by
    rw [State.onStress_stress, map_put, hf]
    refine Vector.ext fun i hi => ?_
    simp only [put, Vector.getElem_setIfInBounds, Vector.getElem_map]
    split
    · subst_vars; rw [look_of_lt _ _ hi]
    · rfl
  unfold desk; rw [h]; rfl

theorem desk_onWork (n : Nat) (f : Work → Work) : desk (s.onWork n f) = desk s := desk_onStress s n _

theorem desk_onAnchor (i : Nat) (f : Anchor → Anchor) : desk (s.onAnchor i f) = desk s := rfl

theorem desk_startPass : desk s.startPass = desk s := rfl

theorem desk_onTrip (f : Trip → Trip) : desk (s.onTrip f) = desk s := rfl

theorem desk_searchCells : desk (searchCells s) = desk s := by rw [searchCells_frame]; rfl

theorem desk_joinRequest (c : Nat) (f : CellRequest → CellRequest) : desk (joinRequest c f s) = desk s :=
  desk_searchCells _

theorem desk_withdrawRequest (c n : Nat) : desk (withdrawRequest c n s) = desk s := by
  unfold withdrawRequest; dsimp only; split <;> rfl

theorem desk_leaveAnchor (n : Nat) : desk (leaveAnchor n s) = desk s := by
  exact desk_onStress s n fun c => { c with mode := .idle, work := Work.clear }

theorem desk_chooseDirection (n : Nat) (f : Int) (ok : Bool) : desk (chooseDirection n f ok s) = desk s := by
  unfold chooseDirection; split
  · split
    · exact desk_onWork s n _
    · rfl
  · rfl

theorem desk_holdAtStart (n : Nat) (f : Int) : desk (holdAtStart n f s) = desk s := by
  unfold holdAtStart; split
  · exact desk_onWork s n _
  · rfl

theorem desk_setOvershoot (n : Nat) (o : Bool) : desk (setOvershoot n o s) = desk s := by
  unfold setOvershoot; split
  · exact desk_onWork s n _
  · rfl

theorem desk_enterStep (n k : Nat) : desk (enterStep n k s) = desk s :=
  (desk_onWork _ n _).trans (desk_onWork s n _)

theorem desk_apparentStep (n : Nat) : desk (apparentStep n s).1 = desk s := by
  unfold apparentStep; dsimp only; split <;> rfl

theorem desk_creepSample (n : Nat) (p : CreepParams) (v : Int) : desk (creepSample n p v s).1 = desk s := by
  unfold creepSample; dsimp only; split
  · split
    · exact desk_onWork s n _
    · rfl
  · split
    · split <;> exact (desk_onAnchor _ _ _).trans (desk_onWork s n _)
    · rfl
  · split
    · rfl
    · split
      · split <;> exact (desk_onAnchor _ _ _).trans (desk_onWork s n _)
      · rfl

theorem desk_judgeExtension (n : Nat) (v : Int) : desk (judgeExtension n v s).1 = desk s := by
  unfold judgeExtension; split
  · exact desk_onWork s n _
  · exact desk_creepSample s n _ v
  all_goals rfl

theorem desk_recordDrive (p : RunPhase) (d : Drive) : desk (recordDrive p d s) = desk s := by cases p <;> rfl

theorem desk_cureOne (slot : Nat) : desk (cureOne slot s) = desk s := by
  unfold cureOne; split <;> rfl

theorem desk_cureAll : desk (cureAll s) = desk s := by
  unfold cureAll; dsimp only; split <;> rfl

theorem desk_classifierStale (m x : Nat) : desk (classifierStale m s x) = desk s := by
  unfold classifierStale; split
  · split <;> rfl
  · rfl

theorem desk_endPoll (e : Nat) (detached : Bool) : desk (endPoll e detached s) = desk s := by
  unfold endPoll; split <;> rfl

theorem desk_clearRecord (node : Nat) (c : Command) (o : Owner) : desk (clearRecord node c o s) = desk s := by
  unfold clearRecord; split
  · split
    · exact desk_onWork s _ _
    · rfl
  · split <;> rfl
  · split <;> rfl
  · rfl

end

/-! ### Shared operations and the jack -/

section
variable {I : State → Prop} (hI : Keeps I) {s : State}
include hI

omit hI in
/-- A fold of acts that each keep an invariant keeps it. -/
theorem kept_foldl {α : Type} (f : State → α → State) (hf : ∀ s a, I s → I (f s a)) :
    ∀ (l : List α) {s : State}, I s → I (l.foldl f s)
  | [], _, h => h
  | a :: l, s, h => kept_foldl f hf l (hf s a h)

theorem kept_onStress (n : Nat) (f : Stress → Stress) (h : I s)
    (hf : ∀ c, (f c).binding = c.binding := by intro _; rfl) : I (s.onStress n f) :=
  hI.elsewhere h (desk_onStress s n f hf)

theorem kept_onWork (n : Nat) (f : Work → Work) (h : I s) : I (s.onWork n f) := hI.elsewhere h (desk_onWork s n f)

theorem kept_writeOrDrop (r : LogRecord) (h : I s) : I (writeOrDrop r s) := by
  unfold writeOrDrop; split
  case isTrue hr => exact hI.ordinary r hr h
  case isFalse => exact h

theorem kept_sweepNode (node : Nat) (h : I s) : I (sweepNode s node) := by
  unfold sweepNode; split
  · exact hI.placeHalt _ _ _ h
  · exact h

theorem kept_haltSweep (h : I s) : I (haltSweep s) :=
  kept_foldl sweepNode (fun _ a h => kept_sweepNode hI a h) nodes62 h

theorem kept_wantMotion (n : Nat) (m : Motion) (h : I s) : I (wantMotion n m s) := by
  unfold wantMotion; split
  · exact h
  · split
    · exact kept_onWork hI n _ (hI.present _ _ _ h)
    · exact h

theorem kept_holdByPriority (n : Nat) (h : I s) : I (holdByPriority n s) :=
  kept_onWork hI n _ (hI.placeHalt _ _ _ h)

theorem kept_stall (n : Nat) (r : LogRecord) (h : I s) : I (stall n r s) :=
  kept_wantMotion hI n _ (kept_onStress hI n _ h)

theorem kept_writeOrHold (n : Nat) (r : LogRecord) (h : I s) : I (writeOrHold n r s) := by
  unfold writeOrHold; split
  case isTrue hr => exact hI.ordinary r hr h
  case isFalse => exact kept_stall hI n r h

theorem kept_haltRun (n : Nat) (cause : HaltCause) (h : I s) : I (haltRun n cause s) := by
  unfold haltRun
  refine hI.elsewhere (hI.elsewhere (hI.reserve _ ?_) (desk_onAnchor _ _ _)) (desk_leaveAnchor _ n)
  exact hI.elsewhere (hI.placeHalt _ _ _ h) (desk_withdrawRequest _ _ n)

theorem kept_haltStress (n : Nat) (cause : HaltCause) (h : I s) : I (haltStress n cause s) := by
  unfold haltStress; split
  · exact kept_haltRun hI n cause h
  · exact h

theorem kept_haltAllStress (cause : HaltCause) (h : I s) : I (haltAllStress cause s) :=
  kept_foldl (fun s n => haltStress n cause s) (fun _ n h => kept_haltStress hI n cause h) channels4 h

theorem kept_freezeStress (n : Nat) (h : I s) : I (freezeStress s n) := by
  unfold freezeStress; split
  · exact kept_holdByPriority hI n (kept_onStress hI n _ h)
  · exact kept_holdByPriority hI n (kept_onStress hI n _ h)
  · exact kept_onWork hI n _ h
  all_goals exact h

/-! ### The step machine of a stressing channel -/

theorem kept_openWindow (n : Nat) (p : LockParams) (h : I s) : I (openWindow n p s) := by
  have h2 := fun r => kept_writeOrDrop hI r (kept_onStress hI n (fun c =>
    { c with
      mode := .locking
      work := { c.work with window := p.seatWindow, progress := some .seating, seatCount := none } }) h)
  unfold openWindow; dsimp only; split
  · exact h2 _
  · exact kept_haltRun hI n _ (h2 _)

theorem kept_presentSeat (n : Nat) (h : I s) : I (presentSeat n s) := by
  unfold presentSeat; split
  · split
    · exact kept_openWindow hI n _ (hI.present _ _ _ h)
    · exact h
  · exact h

theorem kept_choose (n : Nat) (f : Int) (ok : Bool) (h : I s) : I (choose n f ok s) := by
  have h1 := hI.elsewhere h (desk_chooseDirection s n f ok)
  unfold choose; dsimp only; split
  · exact kept_presentSeat hI n (kept_wantMotion hI n _ h1)
  · exact kept_presentSeat hI n h1

theorem kept_chooseStanding (n : Nat) (h : I s) : I (chooseStanding n s) := by
  unfold chooseStanding; dsimp only; split
  · exact kept_choose hI n _ _ h
  · exact h

theorem kept_judgeOutcome (n : Nat) (o : OutcomeRecord) (h : I s) : I (judgeOutcome n o s).1 := by
  have ha (f : Anchor → Anchor) : I (s.onAnchor (slotOf s n) f) := hI.elsewhere h rfl
  unfold judgeOutcome; split
  · split
    · exact kept_haltStress hI n _ h
    · dsimp only; split
      · dsimp only; exact ha _
      · exact kept_haltStress hI n _ (ha _)
  · split
    · exact kept_haltStress hI n _ h
    · dsimp only; split
      · dsimp only; exact ha _
      · split <;> (dsimp only; exact ha _)
  · exact h

theorem kept_recordOutcome (n : Nat) (o : CellOutcome) (r : Option CellReading) (h : I s) :
    I (recordOutcome n o r s).1 := by
  unfold recordOutcome; dsimp only; split
  · exact kept_judgeOutcome hI n _ (kept_onWork hI n _ h)
  · dsimp only; exact kept_onWork hI n _ h

theorem kept_requestCell (n : Nat) (h : I s) : I (requestCell n s).1 := by
  unfold requestCell; dsimp only; split
  · exact kept_recordOutcome hI n _ _ h
  · dsimp only; exact hI.elsewhere (kept_onWork hI n _ h) (desk_joinRequest _ _ _)

theorem kept_giveVerdict (n : Nat) (h : I s) : I (giveVerdict n s) := by
  unfold giveVerdict
  refine hI.elsewhere (hI.elsewhere (hI.reserve _ ?_) (desk_onAnchor _ _ _)) (desk_leaveAnchor _ n)
  split
  · exact h
  · exact hI.placeHalt _ _ _ h

theorem kept_startChoice (n : Nat) (h : I s) : I (startChoice n s) := by
  unfold startChoice; dsimp only; split
  · exact kept_choose hI n _ _ (hI.elsewhere h ((desk_holdAtStart _ n _).trans (desk_chooseDirection s n _ _)))
  · exact h

theorem kept_startJudgment (n : Nat) (h : I s) : I (startJudgment n s).1 := by
  unfold startJudgment; split
  case h_5 => exact hI.elsewhere h (desk_apparentStep s n)
  case h_6 => exact kept_requestCell hI n (kept_wantMotion hI n _ h)
  case h_8 => exact kept_giveVerdict hI n h
  all_goals exact kept_startChoice hI n h

theorem kept_endStep (n : Nat) (e : StepEnd) (h : I s) : I (endStep n e s) :=
  hI.elsewhere (kept_writeOrHold hI n _ h) ((desk_enterStep _ n _).trans (desk_onWork _ n _))

theorem kept_settleStep (n : Nat) : ∀ (fuel : Nat) (p : State × StepEnd), I p.1 → I (settleStep fuel n p)
  | 0, (_, _), h => h
  | fuel + 1, (s, e), h => by
    have h1 := kept_endStep hI n e h
    unfold settleStep; dsimp only; split
    · exact h
    · split
      · exact kept_settleStep n fuel _ (kept_startJudgment hI n h1)
      · exact kept_onWork hI n _ h1

/-! ### Samples, ticks, resume and the start of a test -/

theorem kept_judgeMove (n : Nat) (load : Bool) (f : Int) (ok : Bool) (h : I s) : I (judgeMove n load f ok s).1 := by
  unfold judgeMove; dsimp only; split
  · dsimp only; exact kept_onWork hI n _ h
  · exact kept_choose hI n _ _ (hI.elsewhere h (desk_setOvershoot s n _))

theorem kept_judgeApproach (n : Nat) (p : LockParams) (f : Int) (ok : Bool) (h : I s) :
    I (judgeApproach n p f ok s) := by
  unfold judgeApproach; split
  · exact kept_choose hI n _ _ h
  · dsimp only
    generalize hs : (if ok = true then (chooseDirection n f ok s).onWork n fun w =>
      { w with approachPoint := some (f, valueOf s (bindingOf s n).extension) } else chooseDirection n f ok s) = s2
    have h2 : I s2 := by
      have h1 := hI.elsewhere h (desk_chooseDirection s n f ok)
      rw [← hs]; split
      · exact kept_onWork hI n _ h1
      · exact h1
    split
    · exact kept_choose hI n _ _ (kept_onWork hI n _ h2)
    · exact kept_choose hI n _ _ (hI.elsewhere h2 (desk_setOvershoot s2 n _))

theorem kept_judgeForce (n : Nat) (f : Int) (ok : Bool) (h : I s) : I (judgeForce n f ok s).1 := by
  unfold judgeForce; split
  · exact kept_judgeMove hI n _ f ok h
  · exact kept_judgeMove hI n _ f ok h
  · split
    · exact kept_judgeApproach hI n _ f ok h
    · exact kept_choose hI n f ok h
  all_goals exact kept_choose hI n f ok h

theorem kept_closeWindow (n : Nat) (f : Int) (h : I s) : I (closeWindow n f s).1 := by
  unfold closeWindow; dsimp only
  generalize hs : wantMotion n .hold _ = s3
  have h3 : I s3 := by
    rw [← hs]
    exact kept_wantMotion hI n _ (kept_writeOrDrop hI _ (kept_onStress hI n _ h))
  have h4 : I (if ((workOf s n).deferredFreeze && s.trip.frozen) = true then freezeStress s3 n else s3) := by
    split
    · exact kept_freezeStress hI n h3
    · exact h3
  split
  · exact kept_haltStress hI n _ h4
  · exact kept_requestCell hI n h4

theorem kept_judgeLocking (n : Nat) (f : Int) (k : Mark) (h : I s) : I (judgeLocking n f k s).1 := by
  unfold judgeLocking; split
  · split
    · exact kept_closeWindow hI n f h
    · exact kept_choose hI n _ _ h
  · exact h

theorem kept_forceSample (n : Nat) (f : Int) (k : Mark) (h : I s) : I (forceSample n f k s) := by
  unfold forceSample; split
  · exact h
  · split
    · exact kept_haltRun hI n _ h
    · split
      · exact kept_settleStep hI n _ _ (kept_judgeForce hI n f _ h)
      · exact kept_settleStep hI n _ _ (kept_judgeLocking hI n f k h)
      all_goals exact h

theorem kept_extensionSample (n : Nat) (v : Int) (h : I s) : I (extensionSample n v s) := by
  unfold extensionSample; split
  · exact h
  · split
    · exact kept_haltRun hI n _ h
    · split
      · exact kept_settleStep hI n _ _ (hI.elsewhere h (desk_judgeExtension s n v))
      · exact h

theorem kept_seatSample (n : Nat) (v : Int) (h : I s) : I (seatSample n v s) := by
  unfold seatSample; split
  · split
    · dsimp only; split
      · exact kept_wantMotion hI n _ (kept_writeOrDrop hI _ (kept_onWork hI n _ h))
      · exact kept_onWork hI n _ h
    · exact h
  · exact h

theorem kept_stressSample (m n : Nat) (v : Int) (k : Mark) (h : I s) : I (stressSample m n v k s) := by
  unfold stressSample; dsimp only; split
  · exact h
  · have h1 : I (if (bindingOf s n).force = m then forceSample n v k s else s) := by
      split
      · exact kept_forceSample hI n v k h
      · exact h
    generalize (if (bindingOf s n).force = m then forceSample n v k s else s) = s1 at h1 ⊢
    have h2 : I (if (bindingOf s n).extension = m then extensionSample n v s1 else s1) := by
      split
      · exact kept_extensionSample hI n v h1
      · exact h1
    generalize (if (bindingOf s n).extension = m then extensionSample n v s1 else s1) = s2 at h2 ⊢
    split
    · exact kept_seatSample hI n v h2
    · exact h2

theorem kept_stressStale (m n : Nat) (h : I s) : I (stressStale m n s) := by
  unfold stressStale; split
  · exact kept_haltRun hI n _ h
  · exact h

theorem kept_tickStress (n : Nat) (h : I s) : I (tickStress s n) := by
  have h1 := kept_onWork hI n (tickWork (stressAt s n).mode (pointInterval s n)) h
  unfold tickStress; split
  · exact h
  · dsimp only; split
    · split
      · exact h1
      · exact kept_chooseStanding hI n h1
    · split
      · exact h1
      · exact kept_chooseStanding hI n h1
    · exact kept_wantMotion hI n _ h1
    all_goals exact h1

theorem kept_countInterval (n : Nat) (h : I s) : I (countInterval n s) := by
  have h1 := kept_onWork hI n (fun w =>
    { w with settle := w.settle.map fun d => { d with progress := 0, count := d.count + 1 } }) h
  unfold countInterval; dsimp only; split
  · exact kept_settleStep hI n _ _ h1
  · exact h1

theorem kept_completeUnsettled (n : Nat) (h : I s) : I (completeUnsettled n s) :=
  kept_settleStep hI n _ (s, .completes true) h

theorem kept_stressPoint (n : Nat) (h : I s) : I (stressPoint n s) := by
  unfold stressPoint; split
  case isTrue hr => exact kept_onWork hI n _ (hI.ordinary _ hr h)
  case isFalse =>
    split
    · exact kept_stall hI n _ h
    · exact kept_onWork hI n _ h

theorem kept_resume (n : Nat) (h : I s) : I (resume n s) := by
  unfold resume; split
  · exact kept_settleStep hI n _ _ (kept_judgeOutcome hI n _ h)
  · split
    · exact kept_haltStress hI n _ h
    · split
      · exact kept_completeUnsettled hI n h
      · split
        · exact kept_settleStep hI n _ _ (kept_startJudgment hI n (kept_onWork hI n _ h))
        · exact kept_chooseStanding hI n h

theorem kept_thawStress (n : Nat) (h : I s) : I (thawStress s n) := by
  unfold thawStress; split
  · split
    · exact kept_wantMotion hI n _ (kept_onStress hI n _ h)
    · exact kept_resume hI n (kept_onStress hI n _ h)
  · exact h

theorem kept_heldWritten (n : Nat) (r : LogRecord) (room : ordinaryRoom s.log = true) (h : I s) :
    I (heldWritten n r s) := by
  have h1 := kept_onWork hI n (fun w =>
    { w with held := none, pointCounter := if r.kind = .point then 0 else w.pointCounter }) (hI.ordinary r room h)
  unfold heldWritten; dsimp only; split
  · exact kept_resume hI n (kept_onStress hI n _ h1)
  · exact h1

theorem kept_startTest (n slot : Nat) (h : I s) : I (startTest n slot s) := by
  unfold startTest; dsimp only
  generalize hs : enterStep n 1 _ = s2
  have h2 : I s2 := by
    rw [← hs]
    exact hI.elsewhere (kept_writeOrHold hI n _ (kept_onStress hI n _ h)) (desk_enterStep _ n 1)
  split
  · exact kept_haltRun hI n _ h2
  · split
    · exact kept_settleStep hI n _ _ (kept_startJudgment hI n h2)
    · exact kept_onWork hI n _ h2

theorem kept_cellOutcome (n : Nat) (o : CellOutcome) (r : Option CellReading) (h : I s) : I (cellOutcome o r s n) := by
  unfold cellOutcome; split
  · exact kept_settleStep hI n _ _ (kept_recordOutcome hI n o r h)
  · exact h

theorem kept_admitTo (n slot : Nat) (h : I s) : I (admitTo n slot s) :=
  kept_startTest hI n slot (hI.elsewhere h rfl)

theorem kept_passLoop : ∀ (fuel : Nat) {s : State}, I s → I (passLoop fuel s)
  | 0, _, h => h
  | fuel + 1, s, h => by
    unfold passLoop; split
    · exact kept_passLoop fuel (kept_admitTo hI _ _ h)
    · exact h

theorem kept_handOut (h : I s) : I (handOut s) := by
  unfold handOut; split
  · exact kept_passLoop hI _ h
  · exact h

theorem kept_runPass (h : I s) : I (runPass s) := by
  unfold runPass; split
  · exact hI.elsewhere (kept_handOut hI h) rfl
  · exact h

/-! ### The placement unit -/

theorem kept_wantDrive (p : RunPhase) (d : Drive) (h : I s) : I (wantDrive p d s) := by
  unfold wantDrive; split
  · exact h
  · split
    · exact hI.elsewhere (hI.present _ _ _ h) (desk_recordDrive _ p d)
    · exact h

theorem kept_stopByPriority (p : RunPhase) (h : I s) : I (stopByPriority p s) := hI.placeHalt _ _ _ h

theorem kept_stopRun (p : RunPhase) (h : I s) : I (stopRun p s) := by
  unfold stopRun; split
  · exact hI.elsewhere (hI.present _ _ _ h) (desk_recordDrive _ p _)
  · exact kept_stopByPriority hI p h

theorem kept_driveChoice (p : RunPhase) (h : I s) : I (driveChoice p s) := kept_wantDrive hI p _ h

theorem kept_judgeStarved (p : RunPhase) (h : I s) : I (judgeStarved p s) := hI.elsewhere h rfl

/-- R117, R119: starvation is judged and the drive chosen. -/
theorem kept_judgedDrive (p : RunPhase) (h : I s) : I (driveChoice p (judgeStarved p s)) :=
  kept_driveChoice hI p (kept_judgeStarved hI p h)

theorem kept_haltPlacementRun (cause : HaltCause) (h : I s) : I (haltPlacementRun cause s) := by
  unfold haltPlacementRun
  exact hI.elsewhere (hI.reserve _ (kept_stopByPriority hI _ h)) rfl

theorem kept_haltPlacement (cause : HaltCause) (h : I s) : I (haltPlacement cause s) := by
  unfold haltPlacement; split
  · exact kept_haltPlacementRun hI cause h
  · exact h

theorem kept_beginRun (p : RunPhase) (slot : Nat) (h : I s) : I (beginRun p slot s) := by
  unfold beginRun
  exact kept_judgedDrive hI p (kept_writeOrDrop hI _ (hI.elsewhere h rfl))

theorem kept_completeWinching (h : I s) : I (completeWinching s) := by
  unfold completeWinching; dsimp only
  generalize hs : writeOrDrop _ _ = s2
  have h2 : I s2 := by
    rw [← hs]
    exact kept_writeOrDrop hI _ (hI.elsewhere (kept_stopRun hI .winching h) (desk_onAnchor _ _ _))
  split
  · exact kept_beginRun hI _ _ h2
  · exact hI.elsewhere h2 rfl

theorem kept_completeGrouting (h : I s) : I (completeGrouting s) := by
  unfold completeGrouting; dsimp only
  refine hI.elsewhere (kept_writeOrDrop hI _ ?_) rfl
  exact hI.elsewhere (kept_stopRun hI .grouting h) ((desk_cureOne _ _).trans (desk_onAnchor _ _ _))

theorem kept_judgeRun (p : RunPhase) (h : I s) : I (judgeRun p s) := by
  have h1 := kept_judgeStarved hI p h
  unfold judgeRun; dsimp only; split
  · exact kept_driveChoice hI p h1
  · split
    · split
      · exact kept_completeWinching hI h1
      · exact kept_driveChoice hI _ h1
    · split
      · exact kept_completeGrouting hI h1
      · split
        · exact kept_haltPlacementRun hI _ h1
        · exact kept_driveChoice hI _ h1

theorem kept_placementSample (m : Nat) (h : I s) : I (placementSample m s) := by
  unfold placementSample; split
  · split
    · exact kept_judgeRun hI _ h
    · exact h
  · split
    · exact kept_judgeRun hI _ h
    · exact h
  all_goals exact h

theorem kept_placementStale (m : Nat) (h : I s) : I (placementStale m s) := by
  unfold placementStale; split
  · split
    · exact kept_judgedDrive hI _ h
    · exact h
  · split
    · exact kept_judgedDrive hI _ h
    · exact h
  all_goals exact h

theorem kept_placementEvent (x : Nat) (k : EventKind) (h : I s) : I (placementEvent x k s) := by
  unfold placementEvent; split
  · exact h
  · dsimp only; split
    · split
      · exact kept_haltPlacementRun hI _ h
      · have h2 := fun r => kept_writeOrDrop hI r (hI.elsewhere h
          (t := s.onRun fun r => { r with speed := speedAfter (runPhase s) r.speed k }) rfl)
        split
        · exact h2 _
        · exact kept_judgedDrive hI _ (h2 _)
    · exact h

theorem kept_pausePlacement (h : I s) : I (pausePlacement s) := by
  have hp (p : RunPhase) : I ((stopByPriority p (s.onRun fun r => { r with pausedFrom := some p })).onPlacement
      fun u => { u with mode := .paused }) :=
    hI.elsewhere (kept_stopByPriority hI p (hI.elsewhere h (t := s.onRun _) rfl)) rfl
  unfold pausePlacement; dsimp only; split
  · exact hp _
  · exact hp _
  all_goals exact h

theorem kept_thawPlacement (h : I s) : I (thawPlacement s) := by
  unfold thawPlacement; split
  · exact kept_judgeRun hI _ (hI.elsewhere h rfl)
  · exact h

theorem kept_tickPlacement (h : I s) : I (tickPlacement s) := by
  have h1 : I (s.onRun (tickRun (placementInterval s))) := hI.elsewhere h rfl
  unfold tickPlacement; dsimp only; split
  · split
    · exact h1
    · exact kept_judgedDrive hI _ h1
  · split
    · exact h1
    · exact kept_judgedDrive hI _ h1
  all_goals exact h

theorem kept_placementPoint (h : I s) : I (placementPoint s) := hI.elsewhere (kept_writeOrDrop hI _ h) rfl

/-! ### The trip counters, the classifiers and the readers of a channel -/

theorem kept_becomeFrozen (detail : Nat) (h : I s) : I (becomeFrozen detail s) := by
  unfold becomeFrozen
  refine hI.reserve _ (kept_pausePlacement hI ?_)
  exact kept_foldl freezeStress (fun _ n h => kept_freezeStress hI n h) channels4 (hI.elsewhere h rfl)

theorem kept_observe (o : Observation) (h : I s) : I (observe o s) := by
  unfold observe; dsimp only; split
  · exact kept_becomeFrozen hI _ (hI.elsewhere h rfl)
  · exact hI.elsewhere h rfl

theorem kept_becomeUnfrozen (h : I s) : I (becomeUnfrozen s) := by
  unfold becomeUnfrozen
  refine hI.elsewhere (kept_thawPlacement hI ?_) (desk_startPass _)
  exact kept_foldl thawStress (fun _ n h => kept_thawStress hI n h) channels4 (hI.elsewhere h rfl)

theorem kept_deliverEvent (x : Nat) (k : EventKind) (h : I s) : I (deliverEvent x k s) :=
  kept_observe hI _ (kept_placementEvent hI x k h)

theorem kept_classifierSample (m : Nat) (v : Int) (x : Nat) (h : I s) : I (classifierSample m v s x) := by
  unfold classifierSample; split
  · split
    · unfold judgeSample; split
      · split
        · exact hI.elsewhere h rfl
        · exact h
      · split
        · split
          · exact kept_deliverEvent hI x _ (hI.elsewhere h rfl)
          · exact hI.elsewhere h rfl
        · exact h
    · exact h
  · exact h

theorem kept_presentSample (m : Nat) (h : I s) : I (presentSample m s) := by
  unfold presentSample
  refine kept_observe hI _ ?_
  refine kept_foldl (classifierSample m _) (fun _ x h => kept_classifierSample hI m _ x h) channels4 ?_
  refine kept_placementSample hI m ?_
  exact kept_foldl (fun s n => stressSample m n _ _ s) (fun _ n h => kept_stressSample hI m n _ _ h) channels4 h

theorem kept_presentStale (m : Nat) (h : I s) : I (presentStale m s) := by
  unfold presentStale
  refine hI.elsewhere ?_ (desk_onTrip _ _)
  refine kept_foldl (classifierStale m) (fun s x h => hI.elsewhere h (desk_classifierStale s m x)) channels4 ?_
  refine kept_placementStale hI m ?_
  exact kept_foldl (fun s n => stressStale m n s) (fun _ n h => kept_stressStale hI m n h) channels4 h

theorem kept_deliver (m : Nat) (raw : Word32) (h : I s) : I (deliver m raw s) := by
  unfold deliver; split
  · exact kept_presentSample hI m (hI.elsewhere h rfl)
  · exact h

theorem kept_deliverGauge (m g : Nat) (saturated : Bool) (h : I s) : I (deliverGauge m g saturated s) := by
  unfold deliverGauge; split
  · exact kept_presentSample hI m (hI.elsewhere h rfl)
  · exact h

theorem kept_makeStale (m : Nat) (h : I s) : I (makeStale m s) := kept_presentStale hI m (hI.elsewhere h rfl)

/-! ### The gauge converter -/

theorem kept_closeMeasurement (h : I s) : I (closeMeasurement s) := hI.elsewhere h (desk_searchCells _)

theorem kept_cellOutcomes (o : CellOutcome) (r : Option CellReading) (l : List Nat) (h : I s) :
    I (l.foldl (cellOutcome o r) s) :=
  kept_foldl (cellOutcome o r) (fun _ n h => kept_cellOutcome hI n o r h) l h

theorem kept_endAbnormal (c : Nat) (e : EndFigures) (o : CellOutcome) (h : I s) : I (endAbnormal c e o s) := by
  unfold endAbnormal
  exact kept_closeMeasurement hI (kept_observe hI _ (kept_cellOutcomes hI o none _ (hI.elsewhere h rfl)))

theorem kept_endReading (c m : Nat) (h : I s) : I (endReading c m s) := by
  unfold endReading; dsimp only
  exact kept_closeMeasurement hI (kept_cellOutcomes hI _ _ _ (kept_deliverGauge hI _ _ _ (hI.elsewhere h rfl)))

theorem kept_endSensing (c m : Nat) (h : I s) : I (endSensing c m s) := by
  unfold endSensing; dsimp only; split
  · exact kept_endAbnormal hI c _ _ (hI.elsewhere h rfl)
  · exact kept_endReading hI c m (hI.elsewhere h rfl)

theorem kept_endEmptyFor : ∀ (fuel : Nat) {s : State}, I s → I (endEmptyFor fuel s)
  | 0, _, h => h
  | fuel + 1, s, h => by
    unfold endEmptyFor; split
    · exact kept_endEmptyFor fuel (kept_endSensing hI _ 0 h)
    · exact h

theorem kept_endEmpty (h : I s) : I (endEmpty s) := kept_endEmptyFor hI _ h

theorem kept_abortMeasurement (h : I s) : I (abortMeasurement s) := by
  rw [abortMeasurement_frame]; exact hI.elsewhere h rfl

end

end Sys2Proof.Machine
end

section
/-! SUPPORT. An invariant of the desk through the requests, the ring, the rows that fall due and the commands (01 to 11): what
the primitive acts keep, every step keeps. -/

namespace Sys2Proof.Machine

open Sys2Proof Sys2Proof.Config

section
variable {I : State → Prop} (hI : Keeps I) {s : State}
include hI

/-! ### Requests -/

omit hI in
theorem kept_numbered {hi v : Nat} {act : State → State × Reply} (h : I s) (ha : v ≤ hi → I (act s).1) :
    I (numbered hi v act s).1 := by
  unfold numbered; split
  case isTrue hv => exact ha hv
  case isFalse => exact h

theorem kept_actConfigChannel (m : Nat) (cfg : ChanConfig) (h : I s) : I (actConfigChannel m cfg s).1 := by
  refine kept_numbered h fun _ => ?_
  split
  · exact h
  · split
    · dsimp only [done]; split
      · exact kept_presentStale hI m (hI.elsewhere h rfl)
      · exact hI.elsewhere h rfl
    · exact h

theorem kept_actConfigCell (c : Nat) (cfg : Option CellConfig) (h : I s) : I (actConfigCell c cfg s).1 := by
  refine kept_numbered h fun _ => ?_
  split
  · exact h
  · split
    · dsimp only [done]
      unfold reconfigureCell; split
      · exact hI.elsewhere (hI.elsewhere (kept_abortMeasurement hI h) rfl) (desk_searchCells _)
      · exact hI.elsewhere h rfl
    · exact h

theorem kept_actBindChannel (n : Nat) (b : Binding) (auto : Bool) (h : I s) : I (actBindChannel n b auto s).1 := by
  refine kept_numbered h fun hn => ?_
  iterate 3 (split; · exact h)
  split
  · exact hI.bind n b auto hn h
  · exact h

theorem kept_actUnbindChannel (n : Nat) (h : I s) : I (actUnbindChannel n s).1 := by
  refine kept_numbered h fun hn => ?_
  iterate 2 (split; · exact h)
  exact hI.unbind n hn h

theorem kept_actSetAutoTake (n : Nat) (auto : Bool) (h : I s) : I (actSetAutoTake n auto s).1 := by
  refine kept_numbered h fun _ => ?_
  split
  · exact h
  · have h1 := kept_onStress hI n (fun c => { c with autoTake := auto }) h
    dsimp only [done]; split
    · exact hI.elsewhere h1 (desk_startPass _)
    · exact h1

theorem kept_actStartStress (n slot : Nat) (h : I s) : I (actStartStress n slot s).1 := by
  unfold actStartStress
  iterate 9 (split; · exact h)
  exact kept_admitTo hI n slot h

theorem kept_actHaltChannel (n : Nat) (h : I s) : I (actHaltChannel n s).1 := by
  refine kept_numbered h fun _ => ?_
  split
  · exact h
  · exact h
  iterate 3 (· exact kept_haltStress hI n _ h)
  · dsimp only [done]; exact kept_onWork hI n _ h

theorem kept_actConfigPlacement (cfg : Option PlacementConfig) (h : I s) : I (actConfigPlacement cfg s).1 := by
  unfold actConfigPlacement; split
  · exact h
  · split
    · exact hI.unconfigure h
    · iterate 2 (split; · exact h)
      split
      · exact hI.configure _ h
      · exact h

theorem kept_actStartPlace (slot : Nat) (h : I s) : I (actStartPlace slot s).1 := by
  refine kept_numbered h fun _ => ?_
  iterate 6 (split; · exact h)
  split
  · exact kept_beginRun hI _ slot h
  · split
    · exact kept_beginRun hI _ slot h
    · exact h

theorem kept_actLoadTrip (q : Nat) (cfg : TripConfig) (h : I s) : I (actLoadTrip q cfg s).1 := by
  refine kept_numbered h fun _ => ?_
  split
  · dsimp only [done]; split
    · exact kept_becomeFrozen hI _ (hI.elsewhere h rfl)
    · exact hI.elsewhere h rfl
  · exact h

theorem kept_actFreeze (h : I s) : I (actFreeze s).1 := by
  unfold actFreeze done; dsimp only; split
  · exact hI.elsewhere h rfl
  · exact kept_becomeFrozen hI _ (hI.elsewhere h rfl)

theorem kept_actThaw (h : I s) : I (actThaw s).1 := by
  unfold actThaw; split
  · exact h
  · split
    · exact hI.reserve _ (kept_runPass hI (kept_becomeUnfrozen hI h))
    · exact hI.elsewhere h rfl

theorem kept_cureAll (h : I s) : I (cureAll s) := hI.elsewhere h (desk_cureAll s)

/-- A RESTART empties both lists and keeps what names the nodes. -/
theorem kept_actRestart (h : I s) : I (actRestart s).1 := by
  have hb : I (restartBlocks s) := by
    refine hI.elsewhere (hI.take [] [] (List.nil_sublist _) (List.nil_sublist _) h) ?_
    rw [restartBlocks_eq]
    have hm : (s.stress.map restartedStress).map (·.binding) = s.stress.map (·.binding) := by
      refine Vector.ext fun i hi => ?_
      simp only [Vector.getElem_map, restartedStress]
      split <;> rfl
    unfold desk; rw [hm]; rfl
  exact hI.reserve _ (kept_haltSweep hI hb)

/-- R190: what a request does, whichever block owns it. -/
theorem kept_handRequest (r : Request) (h : I s) : I (handRequest r s).1 := by
  cases r with
  | loadAnchor slot d =>
    refine kept_numbered h fun _ => ?_
    iterate 4 (split; · exact h)
    exact hI.elsewhere h rfl
  | withdrawAnchor slot =>
    have hf : I (s.onAnchor slot fun _ => Anchor.free) := hI.elsewhere h rfl
    refine kept_numbered h fun _ => ?_
    dsimp only [done]
    split <;> first | exact hf | exact h | (split <;> first | exact h | exact hf)
  | retryAnchor slot =>
    refine kept_numbered h fun _ => ?_
    split
    · exact h
    · split
      · exact hI.elsewhere h rfl
      · exact hI.elsewhere h rfl
      all_goals exact h
  | loadClass k c =>
    refine kept_numbered h fun _ => ?_
    split
    · exact h
    · split
      · exact hI.elsewhere h rfl
      · exact h
  | enqueueStress slot p =>
    refine kept_numbered h fun _ => ?_
    iterate 2 (split; · exact h)
    exact hI.elsewhere h rfl
  | dequeueStress slot =>
    refine kept_numbered h fun _ => ?_
    split
    · exact hI.elsewhere h rfl
    · exact h
  | setExclusion d =>
    refine kept_numbered h fun _ => ?_
    split
    · exact h
    · exact hI.elsewhere h rfl
  | configChannel m c => exact kept_actConfigChannel hI m c h
  | loadTable t bps =>
    refine kept_numbered h fun _ => ?_
    split
    · exact h
    · split
      · exact hI.elsewhere h rfl
      · exact h
  | configCell c cfg => exact kept_actConfigCell hI c cfg h
  | measureCell c r =>
    refine kept_numbered h fun _ => ?_
    split
    · exact h
    · exact hI.elsewhere h (desk_joinRequest s c _)
  | bindChannel n b auto => exact kept_actBindChannel hI n b auto h
  | unbindChannel n => exact kept_actUnbindChannel hI n h
  | setAutoTake n auto => exact kept_actSetAutoTake hI n auto h
  | startStress n slot => exact kept_actStartStress hI n slot h
  | haltChannel n => exact kept_actHaltChannel hI n h
  | configPlacement cfg => exact kept_actConfigPlacement hI cfg h
  | startPlace slot => exact kept_actStartPlace hI slot h
  | configClassifier x cfg =>
    refine kept_numbered h fun _ => ?_
    split
    · exact h
    · split
      · exact hI.elsewhere h rfl
      · exact h
  | loadTrip q cfg => exact kept_actLoadTrip hI q cfg h
  | clearTrip mask => exact hI.elsewhere h rfl
  | freeze => exact kept_actFreeze hI h
  | thaw => exact kept_actThaw hI h
  | configRing timeout =>
    show I (actConfigRing timeout s).1
    unfold actConfigRing; split
    · exact hI.elsewhere h rfl
    · exact h
  | readPending node => show I (actReadPending node s).1; unfold actReadPending; split <;> exact h
  | loadPoll e cfg =>
    refine kept_numbered h fun _ => ?_
    split
    · exact hI.elsewhere h rfl
    · exact h
  | configSchedule p =>
    show I (actConfigSchedule p s).1
    unfold actConfigSchedule; split
    · exact hI.elsewhere h rfl
    · exact h
  | readLog start count =>
    show I (actReadLog start count s).1
    unfold actReadLog; split
    · exact h
    · split <;> exact h
  | trimLog seq =>
    show I (actTrimLog seq s).1
    unfold actTrimLog; split
    · exact hI.trim seq h
    · exact h
  | setWatermark w =>
    show I (actSetWatermark w s).1
    unfold actSetWatermark; split
    · exact hI.watermark w h
    · exact h
  | clearOverrun => exact hI.overrun h
  | setTime minute => exact kept_cureAll hI (hI.elsewhere h rfl)
  | restart => exact kept_actRestart hI h
  | readPart part =>
    show I (actReadPart part s).1
    unfold actReadPart; split
    · exact h
    · split <;> exact h
  | clearEstop =>
    show I (actClearEstop s).1
    unfold actClearEstop; split
    · exact h
    · split
      · exact hI.elsewhere h rfl
      · exact h
  | readOrder => exact h
  | readPlacement => exact h
  | readTrip => exact h
  | readRing => exact h
  | readPolls => exact h
  | readSchedule => exact h
  | readLogState => exact h
  | readStatus => exact h
  | readAnchor slot => exact kept_numbered h fun _ => h
  | readClass k => exact kept_numbered h fun _ => h
  | readChannel m => exact kept_numbered h fun _ => h
  | readTable t => exact kept_numbered h fun _ => h
  | readCell c => exact kept_numbered h fun _ => h
  | readStress n => exact kept_numbered h fun _ => h
  | readClassifier x => exact kept_numbered h fun _ => h

/-! ### Requests taken -/

theorem kept_respond (tag code : Nat) (r : State × Reply) (h : I r.1) : I (respond tag code r) := by
  unfold respond
  rw [queueResponse_eq]
  refine kept_runPass hI (hI.elsewhere h ?_)
  simp only [desk, answered]; split <;> rfl

theorem kept_handBody (code : Nat) (body : List Byte) (h : I s) : I (handBody code body s).1 := by
  unfold handBody; split
  · exact kept_handRequest hI _ h
  · exact h

theorem kept_actLoadPart (target part : Nat) (last : Bool) (bytes : List Byte) (h : I s) :
    I (actLoadPart target part last bytes s).2.1 := by
  unfold actLoadPart; split
  · exact h
  · split
    · exact hI.elsewhere h rfl
    · split
      · exact hI.elsewhere h rfl
      · split
        · exact kept_handBody hI _ _ (hI.elsewhere h rfl)
        · exact hI.elsewhere h rfl

theorem kept_takeBody (tag code : Nat) (body : List Byte) (h : I s) : I (takeBody tag code body s) := by
  unfold takeBody; split
  · split
    · exact kept_respond hI tag _ _ (kept_actLoadPart hI _ _ _ _ h)
    · exact kept_respond hI tag code (refuse .badValue s) h
  · exact kept_respond hI tag code _ (kept_handBody hI code body h)

/-! ### The ring -/

theorem kept_breakRing (h : I s) : I (breakRing s) := by
  unfold breakRing; dsimp only
  generalize hs : haltPlacement .ring _ = s2
  have h2 : I s2 := by
    rw [← hs]
    exact kept_haltPlacement hI _ (kept_haltAllStress hI _ (hI.elsewhere h rfl))
  exact hI.elsewhere (hI.take [] s2.sched.priority (List.nil_sublist _) (List.Sublist.refl _) h2) rfl

theorem kept_raiseRing (h : I s) : I (raiseRing s) := by
  unfold raiseRing
  generalize hs : s.onRing _ = s1
  have h1 : I s1 := by rw [← hs]; exact hI.elsewhere h rfl
  exact hI.elsewhere (kept_haltSweep hI h1) (desk_startPass _)

/-- R179: a failed command that is not superseded finds no entry of its key. -/
theorem kept_reenter (node : Nat) (c : Command) (o : Owner) (priority : Bool)
    (free : s.sched.queue.any (sameKey node (commandClass c)) = false) (h : I s) : I (reenter node c o priority s) := by
  unfold reenter; split
  · exact hI.placeHalt _ _ _ h
  · split
    case isTrue hl => exact hI.enter { node := node, command := c, origin := o, enqueued := now s } hl free h
    case isFalse => exact hI.elsewhere h (desk_clearRecord s node c o)

theorem kept_nodeAbsent (node : Nat) (h : I s) : I (nodeAbsent node s) := by
  unfold nodeAbsent; split
  · exact kept_haltStress hI _ _ h
  · exact kept_haltPlacement hI _ h
  · exact h

theorem kept_reportFailed (node tag : Nat) (c : Command) (o : Owner) (priority : Bool) (h : I s) :
    I (reportFailed node tag c o priority s) := by
  have hf (k : Nat) : I (setFailures node k s) := hI.elsewhere h rfl
  unfold reportFailed; split
  · dsimp only; split
    · exact hf _
    case isFalse hs =>
      simp only [superseded, Bool.or_eq_true, not_or, Bool.not_eq_true] at hs
      exact kept_reenter hI node c o priority hs.1.1 (hf _)
  · exact kept_nodeAbsent hI node (hf _)

theorem kept_handleLoss (f : InFlight) (h : I s) : I (handleLoss f s) := by
  unfold handleLoss; split
  · exact hI.elsewhere h (desk_endPoll s _ _)
  · exact kept_reportFailed hI _ _ _ _ _ h
  · split
    · exact hI.elsewhere h rfl
    · exact h

theorem kept_loseEntry (f : InFlight) (h : I s) : I (loseEntry f s) := by
  unfold loseEntry; dsimp only; split
  · split
    · exact kept_handleLoss hI f (hI.elsewhere h rfl)
    · exact kept_breakRing hI (hI.elsewhere h rfl)
  · exact kept_handleLoss hI f (hI.elsewhere h rfl)

theorem kept_returnPoll (bs : List Byte) (slots : List (Option Nat)) (h : I s) : I (returnPoll bs slots s) := by
  unfold returnPoll; split
  · split
    · refine kept_foldl _ (fun s p h => ?_) _ h
      split
      · exact kept_runPass hI (kept_endEmpty hI (kept_deliver hI _ _ h))
      · exact h
    · exact kept_observe hI _ h
  · exact h

theorem kept_returnOwn (f : InFlight) (bs : List Byte) (h : I s) : I (returnOwn f bs s) := by
  have h1 : I (s.onRing fun r => { r with inFlight := dropTag f.tag r.inFlight, lossCount := 0 }) :=
    hI.elsewhere h rfl
  unfold returnOwn; dsimp only; split
  · exact kept_returnPoll hI bs _ (hI.elsewhere h1 (desk_endPoll _ _ _))
  · split
    · exact hI.elsewhere h1 rfl
    · exact kept_reportFailed hI _ _ _ _ _ h1
  · split
    · exact kept_raiseRing hI h1
    · exact h1

theorem kept_foreignFrame (bs : List Byte) (h : I s) : I (foreignFrame bs s) := by
  unfold foreignFrame; split
  · split
    · exact hI.elsewhere (kept_takeBody hI _ _ _ h) rfl
    · exact hI.elsewhere h rfl
  · split <;> exact hI.elsewhere h rfl

theorem kept_arrive (bs : List Byte) (h : I s) : I (arrive bs s) := by
  have ho := kept_observe hI .ringError h
  unfold arrive; split
  · unfold badFrame; dsimp only; split
    · exact kept_loseEntry hI _ ho
    · exact ho
  · unfold disposeFrame; split
    · split
      · exact kept_returnOwn hI _ bs h
      · exact ho
    · iterate 2 (split; · exact ho)
      exact kept_foreignFrame hI bs h

/-! ### Port B -/

omit hI in
theorem desk_passOver (s : State) : desk (passOver s) = desk s := by
  unfold passOver; split <;> rfl

omit hI in
theorem desk_judgeMode (s : State) : desk (judgeMode s) = desk s := by
  unfold judgeMode; split <;> split <;> rfl

theorem kept_carryOut (c : Choice) (h : I s) : I (carryOut s c) := by
  cases c with
  | halt e =>
    exact hI.elsewhere (hI.take _ (s.sched.priority.drop 1) (List.Sublist.refl _) (List.drop_sublist _ _) h)
      (desk_passOver _)
  | command e =>
    exact hI.elsewhere (hI.take (s.sched.queue.drop 1) _ (List.drop_sublist _ _) (List.Sublist.refl _) h)
      (desk_passOver _)
  | poll e c => exact hI.elsewhere h (desk_passOver _)
  | response r => exact hI.elsewhere h rfl
  | nothing => exact h

theorem kept_sendProbe (h : I s) : I (sendProbe s) := by
  unfold sendProbe; split
  · exact hI.elsewhere h rfl
  · exact h

theorem kept_insert (h : I s) : I (insert s) := by
  unfold insert; split
  · split
    · split
      · exact kept_carryOut hI _ (hI.elsewhere h (desk_judgeMode s))
      · exact h
    · exact kept_sendProbe hI h
    · exact kept_sendProbe hI h
  · exact h

theorem kept_forwardOldest (h : I s) : I (forwardOldest s) := by
  unfold forwardOldest; split
  · exact hI.elsewhere h rfl
  · exact h

theorem kept_endTransmission (h : I s) : I (endTransmission s) := by
  unfold endTransmission; split
  · exact hI.elsewhere h rfl
  · exact h

theorem kept_expire (tag : Nat) (h : I s) : I (expire tag s) := by
  unfold expire; split
  · exact kept_loseEntry hI _ (hI.elsewhere h rfl)
  · exact h

theorem kept_loseSignal (h : I s) : I (loseSignal s) := by
  unfold loseSignal; split
  · exact kept_breakRing hI h
  · exact h

/-! ### Rows that fall due -/

theorem kept_effect (d : Due) (due : isDue s d = true) (h : I s) : I (effect s d) := by
  cases d with
  | emptySensing => exact kept_endEmpty hI h
  | siteMinute => exact kept_cureAll hI (hI.elsewhere h rfl)
  | stale m => exact kept_makeStale hI m h
  | loadTimeout n => exact kept_haltStress hI n _ h
  | lockRunOut n => exact kept_haltStress hI n _ h
  | settleInterval n => exact kept_countInterval hI n h
  | settleMaximum n => exact kept_completeUnsettled hI n h
  | stressPoint n => exact kept_stressPoint hI n h
  | winchTimeout => exact kept_haltPlacement hI _ h
  | placementPoint => exact kept_placementPoint hI h
  | sustained x => exact kept_deliverEvent hI x _ (hI.elsewhere h rfl)
  | overlong x => exact kept_deliverEvent hI x _ (hI.elsewhere h rfl)
  | survey c => exact hI.elsewhere (hI.elsewhere h (t := s.onCell c _) rfl) (desk_joinRequest _ c _)
  | heldRecord n =>
    simp only [isDue, heldDue, Bool.and_eq_true] at due
    unfold effect writeHeld; dsimp only; split
    · exact kept_heldWritten hI n _ due.2.2 h
    · exact h
  | measurement => exact kept_endEmpty hI (hI.elsewhere h (desk_searchCells s))

theorem kept_takeDue (d : Due) (h : I s) : I (takeDue d s) := by
  unfold takeDue; split
  case isTrue hd => exact kept_runPass hI (kept_effect hI d hd h)
  case isFalse => exact h

theorem kept_settleLoop : ∀ (fuel : Nat) {s : State}, I s → I (settleLoop fuel s)
  | 0, _, h => h
  | fuel + 1, s, h => by
    unfold settleLoop; split
    · exact kept_settleLoop fuel (kept_takeDue hI _ h)
    · exact h

theorem kept_settle (h : I s) : I (settle s) := hI.elsewhere (kept_settleLoop hI settleFuel h) rfl

/-! ### Pins, time and the converter's ends -/

theorem kept_latchEstop (h : I s) : I (latchEstop s) := by
  unfold latchEstop
  refine hI.reserve _ (kept_haltSweep hI (kept_haltPlacement hI _ (kept_haltAllStress hI _ ?_)))
  exact hI.elsewhere h rfl

theorem kept_assertLine (h : I s) : I (assertLine s) := by
  unfold assertLine; dsimp only; split
  · exact hI.elsewhere h rfl
  · exact kept_latchEstop hI (hI.elsewhere h rfl)

theorem kept_advanceTick (h : I s) : I (advanceTick s) := by
  unfold advanceTick
  refine hI.elsewhere (kept_tickPlacement hI (kept_foldl tickStress (fun _ n h => kept_tickStress hI n h) channels4 ?_)) rfl
  exact hI.elsewhere h rfl

theorem kept_referenceEnds (t : Nat) (h : I s) : I (referenceEnds t s) := by
  unfold referenceEnds; split
  · split
    · exact kept_endEmpty hI (hI.elsewhere h rfl)
    · exact h
  · exact h

theorem kept_referenceLost (mc : Nat) (h : I s) : I (referenceLost mc s) := by
  unfold referenceLost; split
  · split
    · exact kept_endEmpty hI (kept_endAbnormal hI _ _ _ (hI.elsewhere h rfl))
    · exact h
  · exact h

theorem kept_sensingEnds (m : Nat) (h : I s) : I (sensingEnds m s) := by
  unfold sensingEnds; split
  · split
    · exact kept_endEmpty hI (kept_endSensing hI _ m h)
    · exact h
  · exact h

theorem kept_sensingHigh (tc : Nat) (h : I s) : I (sensingHigh tc s) := by
  unfold sensingHigh; split
  · split
    · exact kept_endEmpty hI (kept_endAbnormal hI _ _ _ (hI.elsewhere h rfl))
    · exact h
  · exact h

theorem kept_powerOn (straps : Nat) (line : Bool) (s : State) : I (powerOn straps line s) := by
  unfold powerOn; dsimp only; split
  · exact kept_latchEstop hI (hI.power (straps % 64) line s)
  · exact hI.power (straps % 64) line s

/-! ### Every command -/

variable {t : State}

theorem kept_event {act : State → State} (he : event act s = .next t) (h : I s) (ha : ∀ {s}, I s → I (act s)) : I t := by
  cases he
  exact kept_runPass hI (ha (kept_settle hI h))

theorem kept_request {tag code : Nat} {act : State → State × Reply} (ha : ∀ {s}, I s → I (act s).1)
    (he : request tag code act s = .next t) (h : I s) : I t := by
  unfold request at he
  cases he
  have h1 := kept_settle hI h
  split
  · exact kept_respond hI tag code _ (ha h1)
  · exact h1

/-- Every request row is the request as the station's frame carries it (log 1). -/
theorem kept_row (tag : Nat) (r : Request) (he : exec (rowOf tag r) s = .next t) (h : I s) : I t := by
  refine kept_request hI (tag := tag) (code := requestCode r) (act := handRequest r) (kept_handRequest hI r) ?_ h
  rw [← he]
  cases r <;> rfl

theorem kept_loadPart (tag target part : Nat) (last : Bool) (bytes : List Byte)
    (he : execLoadPart tag target part last bytes s = .next t) (h : I s) : I t := by
  unfold execLoadPart at he
  cases he
  have h1 := kept_settle hI h
  split
  · exact kept_respond hI tag _ _ (kept_actLoadPart hI _ _ _ _ h1)
  · exact h1

theorem kept_unowned (tag code : Nat) (body : List Byte) (he : execUnownedRequestCode tag code body s = .next t)
    (h : I s) : I t := by
  unfold execUnownedRequestCode at he
  split at he
  · cases he; exact kept_settle hI h
  · exact kept_request hI (act := refuse .badValue) (fun h => h) he h

end

end Sys2Proof.Machine
end

section
/-! SUPPORT. Every command keeps an invariant of the desk; the invariants of R174, R176 and R165 are three such, and the
statement of them. -/

namespace Sys2Proof.Machine

open Sys2Proof Sys2Proof.Config

/-! ### Every step -/

section
variable {I : State → Prop} (hI : Keeps I) {s t : State}
include hI

/-- An invariant of the desk is kept by every command. -/
theorem kept_exec (c : Instr) (he : exec c s = .next t) (h : I s) : I t := by
  cases c with
  | powerOnReset straps line => cases he; exact kept_powerOn hI straps line s
  | estopAsserted => exact kept_event hI he h (kept_assertLine hI)
  | estopLineDeasserted =>
    exact kept_event hI (act := fun s => s.onStation fun t => { t with line := false }) he h fun h => hI.elsewhere h rfl
  | lossOfSignal => exact kept_event hI he h (kept_loseSignal hI)
  | frameArrival clock frame =>
    exact kept_event hI (act := fun s => arrive frame (setClock clock s)) he h fun h =>
      kept_arrive hI frame (hI.elsewhere h rfl)
  | forwardTransmit => exact kept_event hI he h (kept_forwardOldest hI)
  | insertionOpportunity => exact kept_event hI he h (kept_insert hI)
  | frameTransmitted clock =>
    refine kept_event hI
      (act := fun s => if s.ring.transmitter.isSome then endTransmission (setClock clock s) else s) he h fun h => ?_
    split
    · exact kept_endTransmission hI (hI.elsewhere h rfl)
    · exact h
  | entryExpiry tag => exact kept_event hI he h (kept_expire hI tag)
  | tickAdvance => exact kept_event hI he h (kept_advanceTick hI)
  | siteMinuteAdvance => cases he; exact kept_takeDue hI _ h
  | channelStale m => cases he; exact kept_takeDue hI _ h
  | surveyRequest c => cases he; exact kept_takeDue hI _ h
  | measurementStart => cases he; exact kept_takeDue hI _ h
  | referenceEnd k => exact kept_event hI he h (kept_referenceEnds hI k)
  | refLost mc => exact kept_event hI he h (kept_referenceLost hI mc)
  | sensingEnd m => exact kept_event hI he h (kept_sensingEnds hI m)
  | senseHigh tc => exact kept_event hI he h (kept_sensingHigh hI tc)
  | loadTimeout n => cases he; exact kept_takeDue hI _ h
  | settleInterval n => cases he; exact kept_takeDue hI _ h
  | settleMaximum n => cases he; exact kept_takeDue hI _ h
  | lockWindowRunOut n => cases he; exact kept_takeDue hI _ h
  | stressPointDue n => cases he; exact kept_takeDue hI _ h
  | placementPointDue => cases he; exact kept_takeDue hI _ h
  | winchTimeout => cases he; exact kept_takeDue hI _ h
  | sustained x => cases he; exact kept_takeDue hI _ h
  | overlong x => cases he; exact kept_takeDue hI _ h
  | heldRecordWrite n => cases he; exact kept_takeDue hI _ h
  | unownedRequestCode tag code body => exact kept_unowned hI tag code body he h
  | loadPart tag target part last bytes => exact kept_loadPart hI tag target part last bytes he h
  | loadAnchor tag slot d => exact kept_row hI tag (.loadAnchor slot d) he h
  | readAnchor tag slot => exact kept_row hI tag (.readAnchor slot) he h
  | withdrawAnchor tag slot => exact kept_row hI tag (.withdrawAnchor slot) he h
  | retryAnchor tag slot => exact kept_row hI tag (.retryAnchor slot) he h
  | loadClass tag k c => exact kept_row hI tag (.loadClass k c) he h
  | readClass tag k => exact kept_row hI tag (.readClass k) he h
  | enqueueStress tag slot p => exact kept_row hI tag (.enqueueStress slot p) he h
  | dequeueStress tag slot => exact kept_row hI tag (.dequeueStress slot) he h
  | readOrder tag => exact kept_row hI tag .readOrder he h
  | setExclusion tag d => exact kept_row hI tag (.setExclusion d) he h
  | configChannel tag m c => exact kept_row hI tag (.configChannel m c) he h
  | readChannel tag m => exact kept_row hI tag (.readChannel m) he h
  | loadTable tag k bps => exact kept_row hI tag (.loadTable k bps) he h
  | readTable tag k => exact kept_row hI tag (.readTable k) he h
  | configCell tag c cfg => exact kept_row hI tag (.configCell c cfg) he h
  | measureCell tag c r => exact kept_row hI tag (.measureCell c r) he h
  | readCell tag c => exact kept_row hI tag (.readCell c) he h
  | bindChannel tag n b auto => exact kept_row hI tag (.bindChannel n b auto) he h
  | unbindChannel tag n => exact kept_row hI tag (.unbindChannel n) he h
  | setAutoTake tag n auto => exact kept_row hI tag (.setAutoTake n auto) he h
  | readStress tag n => exact kept_row hI tag (.readStress n) he h
  | startStress tag n slot => exact kept_row hI tag (.startStress n slot) he h
  | haltChannel tag n => exact kept_row hI tag (.haltChannel n) he h
  | configPlacement tag cfg => exact kept_row hI tag (.configPlacement cfg) he h
  | readPlacement tag => exact kept_row hI tag .readPlacement he h
  | startPlace tag slot => exact kept_row hI tag (.startPlace slot) he h
  | configClassifier tag x cfg => exact kept_row hI tag (.configClassifier x cfg) he h
  | readClassifier tag x => exact kept_row hI tag (.readClassifier x) he h
  | loadTrip tag q cfg => exact kept_row hI tag (.loadTrip q cfg) he h
  | clearTrip tag mask => exact kept_row hI tag (.clearTrip mask) he h
  | readTrip tag => exact kept_row hI tag .readTrip he h
  | freeze tag => exact kept_row hI tag .freeze he h
  | thaw tag => exact kept_row hI tag .thaw he h
  | configRing tag timeout => exact kept_row hI tag (.configRing timeout) he h
  | readRing tag => exact kept_row hI tag .readRing he h
  | readPending tag node => exact kept_row hI tag (.readPending node) he h
  | loadPoll tag e cfg => exact kept_row hI tag (.loadPoll e cfg) he h
  | readPolls tag => exact kept_row hI tag .readPolls he h
  | configSchedule tag p => exact kept_row hI tag (.configSchedule p) he h
  | readSchedule tag => exact kept_row hI tag .readSchedule he h
  | readLog tag start count => exact kept_row hI tag (.readLog start count) he h
  | trimLog tag seq => exact kept_row hI tag (.trimLog seq) he h
  | setWatermark tag w => exact kept_row hI tag (.setWatermark w) he h
  | clearOverrun tag => exact kept_row hI tag .clearOverrun he h
  | readLogState tag => exact kept_row hI tag .readLogState he h
  | readStatus tag => exact kept_row hI tag .readStatus he h
  | setTime tag minute => exact kept_row hI tag (.setTime minute) he h
  | restart tag => exact kept_row hI tag .restart he h
  | readPart tag part => exact kept_row hI tag (.readPart part) he h
  | clearEstop tag => exact kept_row hI tag .clearEstop he h

/-- An invariant of the desk is kept by every step. -/
theorem kept_step (he : step s = .next t) (h : I s) : I t := by
  unfold step at he
  split at he
  · cases he; exact kept_settle hI h
  case h_2 c rest _ => exact kept_exec hI c (s := { s with pending := rest }) he (hI.elsewhere h rfl)

end

/-! ### The desk read field by field -/

section
variable {s t : State}

theorem queue_of_desk (h : desk t = desk s) : t.sched.queue = s.sched.queue := congrArg Desk.queue h

theorem priority_of_desk (h : desk t = desk s) : t.sched.priority = s.sched.priority := congrArg Desk.priority h

theorem ownerOf_of_desk (h : desk t = desk s) (a : Nat) : ownerOf t a = ownerOf s a :=
  ownerOf_of_owners (congrArg Desk.owners h) a

theorem config_of_desk (h : desk t = desk s) : t.placement.config = s.placement.config := congrArg Desk.config h

theorem binding_of_desk (h : desk t = desk s) {n : Nat} (hn : n < 4) : (stressAt t n).binding = (stressAt s n).binding := by
  have hb (u : State) : (stressAt u n).binding = look (u.stress.map (·.binding)) n := (look_map u.stress _ n hn).symm
  rw [hb, hb, show t.stress.map (·.binding) = _ from congrArg Desk.bindings h]; rfl

end

/-! ### The command queue (R174) -/

/-- R174: the node and the class of an entry. -/
def keyOf (e : QueueEntry) : Nat × CommandClass := (e.node, commandClass e.command)

theorem sameKey_iff (node : Nat) (k : CommandClass) (e : QueueEntry) : sameKey node k e = true ↔ keyOf e = (node, k) := by
  simp [sameKey, keyOf]

theorem not_mem_keys_of_any {node : Nat} {k : CommandClass} {q : List QueueEntry} (h : q.any (sameKey node k) = false) :
    (node, k) ∉ q.map keyOf := by
  rintro hm
  obtain ⟨e, he, hk⟩ := List.mem_map.1 hm
  have := List.any_eq_false.1 h e he
  exact this ((sameKey_iff node k e).2 hk)

/-- R174: a presentation that replaces keeps the keys, and one that adds adds a new one. -/
theorem keys_queueWith (tick : Word32) (node : Nat) (c : Command) (o : Owner) (q : List QueueEntry) :
    (queueWith tick node c o q).map keyOf =
      if q.any (sameKey node (commandClass c)) then q.map keyOf else q.map keyOf ++ [(node, commandClass c)] := by
  unfold queueWith; split
  · rw [List.map_map]
    refine List.map_congr_left fun e _ => ?_
    simp only [Function.comp_apply]
    split
    case isTrue h =>
      rw [(sameKey_iff _ _ e).1 h]
      exact congrArg (·, commandClass c) (congrArg Prod.fst ((sameKey_iff _ _ e).1 h))
    case isFalse => rfl
  · rw [List.map_append]; rfl

theorem nodup_keys_append {node : Nat} {k : CommandClass} {q : List QueueEntry} (h : (q.map keyOf).Nodup)
    (hn : q.any (sameKey node k) = false) : (q.map keyOf ++ [(node, k)]).Nodup :=
  List.nodup_append.2 ⟨h, List.nodup_singleton _, fun _ ha _ hb hab =>
    not_mem_keys_of_any hn (List.mem_singleton.1 hb ▸ hab ▸ ha)⟩

theorem length_queueWith (tick : Word32) (node : Nat) (c : Command) (o : Owner) (q : List QueueEntry) :
    (queueWith tick node c o q).length = if q.any (sameKey node (commandClass c)) then q.length else q.length + 1 := by
  unfold queueWith; split
  · exact List.length_map _
  · exact List.length_append

/-! ### The priority list (R176) -/

section
variable (s : State) (node : Nat) (c : Command) (o : Owner) (p : List PriorityEntry)

theorem priorityRoom_sublist : (priorityRoom s p).Sublist p := by
  unfold priorityRoom; split
  · exact List.Sublist.refl p
  · exact List.eraseP_sublist

/-- R176: a placement that replaces keeps the nodes, and one that adds adds a new one behind those that stay. -/
theorem nodes_priorityWith : (priorityWith s node c o p).map (·.node) =
    if p.any (·.node == node) then p.map (·.node) else (priorityRoom s p).map (·.node) ++ [node] := by
  unfold priorityWith; split
  · rw [List.map_map]
    refine List.map_congr_left fun e _ => ?_
    simp only [Function.comp_apply]
    split <;> rfl
  · rw [List.map_append]; rfl

theorem nodup_priorityWith (h : (p.map (·.node)).Nodup) : ((priorityWith s node c o p).map (·.node)).Nodup := by
  rw [nodes_priorityWith]; split
  · exact h
  case isFalse hn =>
    have hs := (priorityRoom_sublist s p).map (·.node)
    refine List.nodup_append.2 ⟨h.sublist hs, List.nodup_singleton node, fun a ha b hb hab => hn ?_⟩
    obtain ⟨e, he, rfl⟩ := List.mem_map.1 (hs.subset ha)
    rw [List.mem_singleton.1 hb] at hab
    exact List.any_eq_true.2 ⟨e, he, by simp [hab]⟩

end

/-! ### The commands are distinct -/

theorem commandsDistinct_iff (d : Sched) : commandsDistinct d ↔
    d.queue.length ≤ 16 ∧ (d.queue.map keyOf).Nodup ∧ (d.priority.map (·.node)).Nodup := Iff.rfl

theorem commandsDistinct_congr {d d' : Sched} (hq : d'.queue = d.queue) (hp : d'.priority = d.priority)
    (h : commandsDistinct d) : commandsDistinct d' := by
  unfold commandsDistinct at *; rwa [hq, hp]

theorem commandsDistinct_sublist {d d' : Sched} (hq : d'.queue.Sublist d.queue) (hp : d'.priority.Sublist d.priority)
    (h : commandsDistinct d) : commandsDistinct d' := by
  obtain ⟨h1, h2, h3⟩ := (commandsDistinct_iff d).1 h
  exact ⟨hq.length_le.trans h1, h2.sublist (hq.map _), h3.sublist (hp.map _)⟩

theorem sched_writeReserve (r : LogRecord) (s : State) : (writeReserve r s).sched = s.sched := by rw [writeReserve_eq]; rfl

theorem commandsDistinct_present (node : Nat) (c : Command) (o : Owner) {s : State} (h : commandsDistinct s.sched) :
    commandsDistinct (present node c o s).sched := by
  unfold present; split
  case isFalse => exact h
  case isTrue ht =>
    obtain ⟨h1, h2, h3⟩ := (commandsDistinct_iff _).1 h
    simp only [queueTakes, queueMax, Bool.and_eq_true, Bool.or_eq_true, decide_eq_true_eq] at ht
    refine (commandsDistinct_iff _).2 ⟨?_, ?_, h3⟩
    · show (queueWith _ _ _ _ _).length ≤ 16
      rw [length_queueWith]; split
      · exact h1
      case isFalse hn => exact ht.2.resolve_left hn
    · show ((queueWith _ _ _ _ _).map keyOf).Nodup
      rw [keys_queueWith]; split
      · exact h2
      case isFalse hn =>
        rw [Bool.not_eq_true] at hn
        exact nodup_keys_append h2 hn

theorem placeHalt_sched (node : Nat) (c : Command) (o : Owner) (s : State) :
    (placeHalt node c o s).sched = schedAfterHalt s node c o := by
  obtain ⟨w, p, h⟩ := placeHalt_frame node c o s
  rw [h]

theorem commandsDistinct_placeHalt (node : Nat) (c : Command) (o : Owner) {s : State} (h : commandsDistinct s.sched) :
    commandsDistinct (placeHalt node c o s).sched := by
  obtain ⟨h1, h2, h3⟩ := (commandsDistinct_iff _).1 h
  rw [placeHalt_sched]
  have hs : (s.sched.queue.filter fun e => !(e.node == node)).Sublist s.sched.queue := List.filter_sublist
  exact ⟨hs.length_le.trans h1, h2.sublist (hs.map _), nodup_priorityWith s node c o _ h3⟩

theorem sched_setOwner (node : Nat) (o : Option Owner) (s : State) : (s.setOwner node o).sched = s.sched := by
  unfold State.setOwner; split <;> rfl

theorem sched_bindTo (n : Nat) (b : Binding) (auto : Bool) (s : State) : (bindTo n b auto s).sched = s.sched := by
  have h (u : State) (hu : u.sched = s.sched) : ((u.setOwner b.jack (some (.sc n))).onStress n fun c =>
      { c with mode := .idle, binding := some b, autoTake := auto }).sched = s.sched := (sched_setOwner _ _ u).trans hu
  have hr : (match (stressAt s n).binding with
      | some old => if old.jack = b.jack then s else s.setOwner old.jack none
      | none => s).sched = s.sched := by
    split
    · split
      · rfl
      · exact sched_setOwner _ _ s
    · rfl
  unfold bindTo; dsimp only; split
  · exact h _ hr
  · exact h _ hr

theorem sched_releaseNodes (s : State) : (releaseNodes s).sched = s.sched := by
  unfold releaseNodes; split
  · rw [sched_setOwner, sched_setOwner]
  · rfl

theorem sched_configurePlacement (c : PlacementConfig) (s : State) : (configurePlacement c s).sched = s.sched :=
  (sched_setOwner _ _ _).trans ((sched_setOwner _ _ _).trans (sched_releaseNodes s))

/-- R174, R176: the entries stay distinct. -/
theorem keeps_commandsDistinct : Keeps fun s => commandsDistinct s.sched where
  elsewhere h hd := commandsDistinct_congr (queue_of_desk hd) (priority_of_desk hd) h
  reserve r s h := by rw [sched_writeReserve]; exact h
  ordinary _ _ _ h := h
  trim _ _ h := h
  watermark _ _ h := h
  overrun h := h
  present node c o _ h := commandsDistinct_present node c o h
  placeHalt node c o _ h := commandsDistinct_placeHalt node c o h
  enter e s hl hn h := by
    obtain ⟨-, h2, h3⟩ := (commandsDistinct_iff _).1 h
    refine (commandsDistinct_iff _).2 ⟨?_, ?_, h3⟩
    · show (s.sched.queue ++ [e]).length ≤ 16
      rw [List.length_append]; exact hl
    · show ((s.sched.queue ++ [e]).map keyOf).Nodup
      rw [List.map_append]
      exact nodup_keys_append h2 hn
  take q p _ hq hp h := commandsDistinct_sublist hq hp h
  bind n b auto s _ h := by rw [sched_bindTo]; exact h
  unbind n s _ h := by rw [show (unbind n s).sched = _ from sched_setOwner _ _ s]; exact h
  configure c s h := by rw [sched_configurePlacement]; exact h
  unconfigure {s} h := by rw [show (unconfigurePlacement s).sched = _ from sched_releaseNodes s]; exact h
  power straps line s := ⟨Nat.zero_le _, List.nodup_nil, List.nodup_nil⟩

end Sys2Proof.Machine
end

section
/-! SUPPORT. The owners of the nodes (R62, R115, R165): who owns a node after a request, at most six nodes owned, and with it
the room of the priority list (R176). -/

namespace Sys2Proof.Machine

open Sys2Proof Sys2Proof.Config

/-! ### The owner of a node -/

section
variable (s : State)

/-- R165: an owner set or released shows in the ownership table alone. -/
theorem setOwner_frame (node : Nat) (o : Option Owner) : ∃ v, s.setOwner node o = { s with ring := { s.ring with owners := v } } := by
  unfold State.setOwner; split
  · exact ⟨_, rfl⟩
  · exact ⟨s.ring.owners, rfl⟩

theorem ownerOf_setOwner (node a : Nat) (o : Option Owner) :
    ownerOf (s.setOwner node o) a = if node = a ∧ within 1 62 a = true then o else ownerOf s a := by
  by_cases ha : within 1 62 a = true
  · obtain ⟨h1, h2⟩ := within_iff.1 ha
    by_cases hn : node = a
    · rw [if_pos ⟨hn, ha⟩, hn, State.setOwner, if_pos ha, ownerOf, if_pos ha]
      exact look_put_same _ _ _ (by omega)
    · rw [if_neg fun h => hn h.1]
      unfold State.setOwner; split
      case isTrue hw =>
        have := (within_iff.1 hw).1
        rw [ownerOf, ownerOf, if_pos ha, if_pos ha]
        exact look_put_other _ _ _ _ (by omega)
      case isFalse => rfl
  · rw [if_neg fun h => ha h.2, ownerOf, ownerOf, if_neg ha, if_neg ha]

theorem within_of_owned {a : Nat} {o : Owner} (h : ownerOf s a = some o) : within 1 62 a = true := by
  unfold ownerOf at h
  split at h
  · assumption
  · cases h

/-! ### The binding of a channel (R62, R63) -/

/-- R62: the state with the node that the channel held before released. -/
def releasedFor (n : Nat) (b : Binding) : State :=
  match (stressAt s n).binding with
  | some old => if old.jack = b.jack then s else s.setOwner old.jack none
  | none => s

/-- R62: the state with the binding taken and the node owned. -/
def boundWith (n : Nat) (b : Binding) (auto : Bool) : State :=
  ((releasedFor s n b).setOwner b.jack (some (.sc n))).onStress n fun c =>
    { c with mode := .idle, binding := some b, autoTake := auto }

theorem bindTo_eq (n : Nat) (b : Binding) (auto : Bool) : bindTo n b auto s =
    if (stressAt s n).mode = .unbound ∨ (auto = true ∧ (stressAt s n).autoTake = false) then
      (boundWith s n b auto).startPass
    else boundWith s n b auto := rfl

theorem releasedFor_frame (n : Nat) (b : Binding) :
    ∃ v, releasedFor s n b = { s with ring := { s.ring with owners := v } } := by
  unfold releasedFor; split
  · split
    · exact ⟨s.ring.owners, rfl⟩
    · exact setOwner_frame s _ _
  · exact ⟨s.ring.owners, rfl⟩

theorem ownerOf_releasedFor (n : Nat) (b : Binding) (a : Nat) :
    (∀ o, ownerOf (releasedFor s n b) a = some o → ownerOf s a = some o)
      ∧ (∀ old, (stressAt s n).binding = some old → old.jack = a → a ≠ b.jack →
          ownerOf (releasedFor s n b) a = none) := by
  unfold releasedFor
  match hb : (stressAt s n).binding with
  | none => exact ⟨fun _ h => h, nofun⟩
  | some old =>
    dsimp only; split
    case isTrue hj => exact ⟨fun _ h => h, fun _ h ha hne => by cases h; exact absurd (ha.symm.trans hj) hne⟩
    case isFalse =>
      rw [ownerOf_setOwner]
      refine ⟨fun o h => ?_, fun old' h ha _ => ?_⟩
      · split at h
        · cases h
        · exact h
      · cases h
        split
        · rfl
        case isFalse hw =>
          by_contra ho
          obtain ⟨o, ho⟩ := Option.ne_none_iff_exists'.1 ho
          exact hw ⟨ha, within_of_owned s ho⟩

theorem boundWith_frame (n : Nat) (b : Binding) (auto : Bool) : ∃ v, boundWith s n b auto =
    { s.onStress n fun c => { c with mode := .idle, binding := some b, autoTake := auto } with
      ring := { s.ring with owners := v } } := by
  obtain ⟨v, h⟩ := releasedFor_frame s n b
  obtain ⟨w, h'⟩ := setOwner_frame (releasedFor s n b) b.jack (some (.sc n))
  exact ⟨w, by rw [boundWith, h', h]; rfl⟩

theorem ownerOf_boundWith (n : Nat) (b : Binding) (auto : Bool) (a : Nat) : ownerOf (boundWith s n b auto) a =
    if b.jack = a ∧ within 1 62 a = true then some (.sc n) else ownerOf (releasedFor s n b) a :=
  ownerOf_setOwner (releasedFor s n b) b.jack a _

/-! ### The nodes of the placement unit (R115) -/

theorem releaseNodes_frame : ∃ v, releaseNodes s = { s with ring := { s.ring with owners := v } } := by
  unfold releaseNodes; split
  case h_1 c _ =>
    obtain ⟨v, h⟩ := setOwner_frame s c.winchNode none
    obtain ⟨w, h'⟩ := setOwner_frame (s.setOwner c.winchNode none) c.pumpNode none
    exact ⟨w, by rw [h', h]⟩
  case h_2 => exact ⟨s.ring.owners, rfl⟩

theorem ownerOf_releaseNodes {a : Nat} {o : Owner} (h : ownerOf (releaseNodes s) a = some o) :
    ownerOf s a = some o
      ∧ ∀ c, s.placement.config = some c → c.winchNode ≠ a ∧ c.pumpNode ≠ a := by
  have hw := within_of_owned _ h
  unfold releaseNodes at h
  match hc : s.placement.config with
  | none => rw [hc] at h; exact ⟨h, nofun⟩
  | some c =>
    rw [hc] at h
    dsimp only at h
    rw [ownerOf_setOwner, ownerOf_setOwner] at h
    split at h
    · cases h
    case isFalse hp =>
      split at h
      · cases h
      case isFalse hq =>
        exact ⟨h, fun c' h' => by cases h'; exact ⟨fun ha => hq ⟨ha, hw⟩, fun ha => hp ⟨ha, hw⟩⟩⟩

theorem ownerOf_configurePlacement (c : PlacementConfig) (a : Nat) : ownerOf (configurePlacement c s) a =
    if (c.winchNode = a ∨ c.pumpNode = a) ∧ within 1 62 a = true then some .pu else ownerOf (releaseNodes s) a := by
  show ownerOf (((releaseNodes s).setOwner c.winchNode (some .pu)).setOwner c.pumpNode (some .pu)) a = _
  rw [ownerOf_setOwner, ownerOf_setOwner]
  by_cases hw : within 1 62 a = true <;> by_cases h1 : c.pumpNode = a <;> by_cases h2 : c.winchNode = a <;>
    simp [hw, h1, h2]

end

/-! ### The owners stay named (R62, R115, R165) -/

section
variable {s t : State}

theorem ownersBound_congr (ho : ∀ a, ownerOf t a = ownerOf s a)
    (hb : ∀ n, n < 4 → (stressAt t n).binding = (stressAt s n).binding)
    (hc : t.placement.config = s.placement.config) (h : ownersBound s) : ownersBound t := by
  obtain ⟨hsc, hpu⟩ := h
  refine ⟨fun a n ha => ?_, fun a ha => ?_⟩
  · obtain ⟨hn, hj⟩ := hsc a n ((ho a).symm.trans ha)
    exact ⟨hn, by rwa [hb n hn]⟩
  · rw [hc]; exact hpu a ((ho a).symm.trans ha)

theorem ownersBound_of_desk (h : ownersBound s) (hd : desk t = desk s) : ownersBound t :=
  ownersBound_congr (ownerOf_of_desk hd) (fun _ hn => binding_of_desk hd hn) (config_of_desk hd) h

theorem ownersBound_writeReserve (r : LogRecord) (h : ownersBound s) : ownersBound (writeReserve r s) := by
  rw [writeReserve_eq]; exact h

theorem ownersBound_present (node : Nat) (c : Command) (o : Owner) (h : ownersBound s) :
    ownersBound (present node c o s) := by
  unfold present; split <;> exact h

theorem ownersBound_placeHalt (node : Nat) (c : Command) (o : Owner) (h : ownersBound s) :
    ownersBound (placeHalt node c o s) := by
  obtain ⟨w, p, hp⟩ := placeHalt_frame node c o s
  rw [hp]; exact h

theorem ownersBound_bindTo (n : Nat) (b : Binding) (auto : Bool) (hn : n ≤ 3) (h : ownersBound s) :
    ownersBound (bindTo n b auto s) := by
  have hn : n < 4 := Nat.lt_succ_of_le hn
  have hb : ownersBound (boundWith s n b auto) := by
    obtain ⟨hsc, hpu⟩ := h
    obtain ⟨v, hv⟩ := boundWith_frame s n b auto
    have hstress : (boundWith s n b auto).stress =
        (s.onStress n fun c => { c with mode := .idle, binding := some b, autoTake := auto }).stress := by rw [hv]
    have hown : (stressAt (boundWith s n b auto) n).binding = some b := by
      rw [stressAt_of_stress hstress, stressAt_onStress_same hn]
    have hother (m : Nat) (hm : m ≠ n) : stressAt (boundWith s n b auto) m = stressAt s m := by
      rw [stressAt_of_stress hstress, stressAt_onStress_other hm]
    have hcfg : (boundWith s n b auto).placement = s.placement := by rw [hv]; rfl
    refine ⟨fun a m ha => ?_, fun a ha => ?_⟩
    · rw [ownerOf_boundWith] at ha
      split at ha
      case isTrue hj => cases ha; exact ⟨hn, b, hown, hj.1⟩
      case isFalse hj =>
        obtain ⟨hr, hold⟩ := ownerOf_releasedFor s n b a
        have ho := hr _ ha
        obtain ⟨hm, old, hbind, hjack⟩ := hsc a m ho
        by_cases hmn : m = n
        · subst hmn
          have hne : a ≠ b.jack := fun he => hj ⟨he.symm, within_of_owned s ho⟩
          rw [hold old hbind hjack hne] at ha; cases ha
        · exact ⟨hm, old, by rw [hother m hmn, hbind], hjack⟩
    · rw [hcfg]
      rw [ownerOf_boundWith] at ha
      split at ha
      · cases ha
      · exact hpu a ((ownerOf_releasedFor s n b a).1 _ ha)
  rw [bindTo_eq]; split
  · exact hb
  · exact hb

theorem ownersBound_unbind (n : Nat) (hn : n ≤ 3) (h : ownersBound s) : ownersBound (unbind n s) := by
  obtain ⟨hsc, hpu⟩ := h
  have hown (a : Nat) (o : Owner) (ha : ownerOf (unbind n s) a = some o) :
      ownerOf s a = some o ∧ (bindingOf s n).jack ≠ a := by
    have hw := within_of_owned _ ha
    rw [show ownerOf (unbind n s) a = _ from ownerOf_setOwner s (bindingOf s n).jack a none] at ha
    split at ha
    · cases ha
    case isFalse hj => exact ⟨ha, fun he => hj ⟨he, hw⟩⟩
  obtain ⟨v, hv⟩ := setOwner_frame s (bindingOf s n).jack none
  refine ⟨fun a m ha => ?_, fun a ha => ?_⟩
  · obtain ⟨ho, hne⟩ := hown a _ ha
    obtain ⟨hm, b, hb, hj⟩ := hsc a m ho
    have hmn : m ≠ n := by
      rintro rfl
      rw [bindingOf, hb] at hne
      exact hne hj
    refine ⟨hm, b, ?_, hj⟩
    rw [unbind, hv, stressAt_onStress_other hmn]
    exact hb
  · rw [unbind, hv]; exact hpu a (hown a _ ha).1

theorem ownersBound_configurePlacement (c : PlacementConfig) (h : ownersBound s) :
    ownersBound (configurePlacement c s) := by
  obtain ⟨hsc, hpu⟩ := h
  obtain ⟨v, hv⟩ := releaseNodes_frame s
  obtain ⟨w, hw⟩ := setOwner_frame (releaseNodes s) c.winchNode (some .pu)
  obtain ⟨x, hx⟩ := setOwner_frame ((releaseNodes s).setOwner c.winchNode (some .pu)) c.pumpNode (some .pu)
  have hstress : (configurePlacement c s).stress = s.stress := by rw [configurePlacement, hx, hw, hv]; rfl
  refine ⟨fun a n ha => ?_, fun a ha => ?_⟩
  · rw [ownerOf_configurePlacement] at ha
    split at ha
    · cases ha
    · rw [stressAt_of_stress hstress]
      exact hsc a n (ownerOf_releaseNodes s ha).1
  · refine ⟨c, rfl, ?_⟩
    rw [ownerOf_configurePlacement] at ha
    split at ha
    case isTrue hc => exact hc.1
    case isFalse =>
      obtain ⟨ho, hne⟩ := ownerOf_releaseNodes s ha
      obtain ⟨old, hold, hnode⟩ := hpu a ho
      exact absurd hnode (by simp [hne old hold])

theorem ownersBound_unconfigurePlacement (h : ownersBound s) : ownersBound (unconfigurePlacement s) := by
  obtain ⟨hsc, hpu⟩ := h
  obtain ⟨v, hv⟩ := releaseNodes_frame s
  have hstress : (unconfigurePlacement s).stress = s.stress := by rw [unconfigurePlacement, hv]; rfl
  refine ⟨fun a n ha => ?_, fun a ha => ?_⟩
  · rw [stressAt_of_stress hstress]
    exact hsc a n (ownerOf_releaseNodes s ha).1
  · obtain ⟨ho, hne⟩ := ownerOf_releaseNodes s ha
    obtain ⟨old, hold, hnode⟩ := hpu a ho
    exact absurd hnode (by simp [hne old hold])

end

/-- R62, R115, R165: an owned node is named by its owner. -/
theorem keeps_ownersBound : Keeps ownersBound where
  elsewhere h hd := ownersBound_of_desk h hd
  reserve r _ h := ownersBound_writeReserve r h
  ordinary _ _ _ h := h
  trim _ _ h := h
  watermark _ _ h := h
  overrun h := h
  present node c o _ h := ownersBound_present node c o h
  placeHalt node c o _ h := ownersBound_placeHalt node c o h
  enter _ _ _ _ h := h
  take _ _ _ _ _ h := h
  bind n b auto _ hn h := ownersBound_bindTo n b auto hn h
  unbind n _ hn h := ownersBound_unbind n hn h
  configure c _ h := ownersBound_configurePlacement c h
  unconfigure h := ownersBound_unconfigurePlacement h
  power straps line _ :=
    ⟨fun a _ h => absurd ((ownerOf_power straps line a).symm.trans h) nofun,
      fun a h => absurd ((ownerOf_power straps line a).symm.trans h) nofun⟩

/-! ### The room of the priority list (R176) -/

section
variable {s : State}

/-- The nodes that the bindings and the configuration name. -/
def namedNodes (s : State) : List Nat :=
  (channels4.filterMap fun n => (stressAt s n).binding.map (·.jack))
    ++ (s.placement.config.map fun c => [c.winchNode, c.pumpNode]).getD []

theorem length_namedNodes (s : State) : (namedNodes s).length ≤ 6 := by
  have h1 := List.length_filterMap_le (fun n => (stressAt s n).binding.map (·.jack)) channels4
  have h2 : ((s.placement.config.map fun c => [c.winchNode, c.pumpNode]).getD []).length ≤ 2 := by
    cases s.placement.config <;> simp
  rw [namedNodes, List.length_append]
  simp only [channels4, List.length_cons, List.length_nil] at h1
  simp only [channels4]
  omega

theorem mem_namedNodes (h : ownersBound s) {a : Nat} (ha : (ownerOf s a).isSome = true) : a ∈ namedNodes s := by
  obtain ⟨hsc, hpu⟩ := h
  obtain ⟨o, ho⟩ := Option.isSome_iff_exists.1 ha
  refine List.mem_append.2 ?_
  cases o with
  | sc n =>
    obtain ⟨hn, b, hb, hj⟩ := hsc a n ho
    refine .inl (List.mem_filterMap.2 ⟨n, ?_, by rw [hb]; exact congrArg some hj⟩)
    simp only [channels4, List.mem_cons, List.not_mem_nil, or_false]; omega
  | pu =>
    obtain ⟨c, hc, hn⟩ := hpu a ho
    rw [hc]
    exact .inr (by simpa [eq_comm] using hn)

/-- R176: at most six nodes are owned. -/
theorem length_owned_le (h : ownersBound s) {l : List Nat} (hd : l.Nodup) (ho : ∀ a ∈ l, (ownerOf s a).isSome = true) :
    l.length ≤ 6 :=
  ((hd.subperm fun _ ha => mem_namedNodes h (ho _ ha)).length_le).trans (length_namedNodes s)

/-- R176: room is always found. -/
theorem length_priorityRoom (h : ownersBound s) {p : List PriorityEntry} (hd : (p.map (·.node)).Nodup) (hl : p.length ≤ 8) :
    (priorityRoom s p).length ≤ 7 := by
  unfold priorityRoom priorityMax; split
  case isTrue hlt => exact Nat.le_of_lt_succ hlt
  case isFalse hge =>
    have hfree : ∃ e ∈ p, (ownerOf s e.node).isNone = true := by
      by_contra hno
      have hall : ∀ a ∈ p.map (·.node), (ownerOf s a).isSome = true := by
        intro a ha
        obtain ⟨e, he, rfl⟩ := List.mem_map.1 ha
        rw [← Option.not_isNone, Bool.not_eq_true']
        exact Bool.eq_false_iff.2 fun hn => hno ⟨e, he, hn⟩
      have := length_owned_le h hd hall
      rw [List.length_map] at this
      omega
    obtain ⟨e, he, hn⟩ := hfree
    rw [List.length_eraseP_of_mem he hn]
    omega

theorem length_priorityWith (h : ownersBound s) {p : List PriorityEntry} (hd : (p.map (·.node)).Nodup) (hl : p.length ≤ 8)
    (node : Nat) (c : Command) (o : Owner) : (priorityWith s node c o p).length ≤ 8 := by
  unfold priorityWith; split
  · rwa [List.length_map]
  · rw [List.length_append]
    exact Nat.succ_le_succ (length_priorityRoom h hd hl)

end

/-- R174, R176: the commands are distinct, the owned nodes named, and the priority list holds at most 8 entries. -/
theorem keeps_priorityInBounds : Keeps priorityInBounds where
  elsewhere := by
    rintro s t ⟨h1, h2, h3⟩ hd
    exact ⟨keeps_commandsDistinct.elsewhere h1 hd, keeps_ownersBound.elsewhere h2 hd, by rwa [priority_of_desk hd]⟩
  reserve := by
    rintro r s ⟨h1, h2, h3⟩
    exact ⟨keeps_commandsDistinct.reserve r h1, keeps_ownersBound.reserve r h2, by rwa [sched_writeReserve]⟩
  ordinary _ _ _ h := h
  trim _ _ h := h
  watermark _ _ h := h
  overrun h := h
  present := by
    rintro node c o s ⟨h1, h2, h3⟩
    refine ⟨keeps_commandsDistinct.present node c o h1, keeps_ownersBound.present node c o h2, ?_⟩
    unfold present; split <;> exact h3
  placeHalt := by
    rintro node c o s ⟨h1, h2, h3⟩
    refine ⟨keeps_commandsDistinct.placeHalt node c o h1, keeps_ownersBound.placeHalt node c o h2, ?_⟩
    rw [placeHalt_sched]
    exact length_priorityWith h2 h1.2.2 h3 node c o
  enter := by
    rintro e s hl hn ⟨h1, h2, h3⟩
    exact ⟨keeps_commandsDistinct.enter e hl hn h1, h2, h3⟩
  take := by
    rintro q p s hq hp ⟨h1, h2, h3⟩
    exact ⟨keeps_commandsDistinct.take q p hq hp h1, h2, hp.length_le.trans h3⟩
  bind := by
    rintro n b auto s hn ⟨h1, h2, h3⟩
    exact ⟨keeps_commandsDistinct.bind n b auto hn h1, keeps_ownersBound.bind n b auto hn h2, by rwa [sched_bindTo]⟩
  unbind := by
    rintro n s hn ⟨h1, h2, h3⟩
    exact ⟨keeps_commandsDistinct.unbind n hn h1, keeps_ownersBound.unbind n hn h2,
      by rwa [show (unbind n s).sched = _ from sched_setOwner _ _ s]⟩
  configure := by
    rintro c s ⟨h1, h2, h3⟩
    exact ⟨keeps_commandsDistinct.configure c h1, keeps_ownersBound.configure c h2, by rwa [sched_configurePlacement]⟩
  unconfigure := by
    rintro s ⟨h1, h2, h3⟩
    exact ⟨keeps_commandsDistinct.unconfigure h1, keeps_ownersBound.unconfigure h2,
      by rwa [show (unconfigurePlacement s).sched = _ from sched_releaseNodes s]⟩
  power straps line s :=
    ⟨keeps_commandsDistinct.power straps line s, keeps_ownersBound.power straps line s, Nat.zero_le _⟩

/-- Settles O10: the three invariants are invariants of the desk. -/
theorem commandsStayDistinct : Obligations.CommandsStayDistinct :=
  ⟨fun _ _ hs he => kept_step keeps_commandsDistinct he hs, fun _ _ hs he => kept_step keeps_ownersBound he hs,
    fun _ _ hs he => kept_step keeps_priorityInBounds he hs⟩

end Sys2Proof.Machine
end

section
/-! SUPPORT. The requests that bind a stressing channel (R62 to R64): the checks of BIND_CHANNEL, and the three statements. -/

namespace Sys2Proof.Machine

open Sys2Proof Sys2Proof.Config

/-! ### The checks of BIND_CHANNEL (R62) -/

theorem polledForce_iff (s : State) (m : Nat) : polledForce s m = true ↔
    (∃ t l, (channelAt s m).config = .calibrated t l) ∨ ∃ a d o l, (channelAt s m).config = .scaled a d o l := by
  unfold polledForce
  cases (channelAt s m).config <;> simp

theorem bindingInRange_iff (b : Binding) : bindingInRange b = true ↔
    1 ≤ b.jack ∧ b.jack ≤ 62 ∧ b.force ≤ 23 ∧ b.extension ≤ 23 ∧ b.seat ≤ 23 ∧ b.cell ≤ 3
      ∧ 1 ≤ b.stroke ∧ b.stroke ≤ 2147483647 ∧ b.force ≠ b.extension := by
  simp [bindingInRange, within, and_assoc]

section
variable {s : State} (h : takesNow s) (tag n : Nat)
include h

theorem exec_bindChannel (b : Binding) (auto : Bool) : exec (.bindChannel tag n b auto) s = .next (
    if 3 < n then refused tag 0x30 .badValue s
    else if holdsAnchor s n = true then refused tag 0x30 .busy s
    else if ¬bindingInRange b = true then refused tag 0x30 .badValue s
    else if ¬(polledForce s b.force && polledForce s b.extension && polledForce s b.seat) = true then
      refused tag 0x30 .badValue s
    else if freeFor s b.jack (.sc n) = true then runPass (answered tag 0x30 none [] (bindTo n b auto s))
    else refused tag 0x30 .inUse s) := by
  have hp := passDue_of_takesNow h
  have hn (b : Bool) : (!b) = true ↔ ¬b = true := by rw [Bool.not_eq_true', Bool.not_eq_true]
  show request tag 0x30 (actBindChannel n b auto) s = _
  rw [request_of_takesNow h, actBindChannel, respond_numbered _ _ _ hp]
  exact congrArg Host.Outcome.next (if_congr .rfl rfl (respond_check hp .rfl (respond_check hp (hn _)
    (respond_check hp (hn _) (respond_check_last hp .rfl (respond_done_run _))))))

end

/-- A change that starts no pass makes none when it is answered. -/
theorem runPass_answered {t : State} (tag code : Nat) (body : List Byte) (h : t.passDue = false) :
    runPass (answered tag code none body t) = answered tag code none body t := runPass_of_none h

theorem boundWith_passDue (s : State) (n : Nat) (b : Binding) (auto : Bool) : (boundWith s n b auto).passDue = s.passDue := by
  obtain ⟨v, hv⟩ := boundWith_frame s n b auto
  rw [hv]; rfl

/-- Settles O28, from the checks of BIND_CHANNEL in their order and the state with the binding taken. -/
theorem bindChannelTakesTheBinding : Obligations.BindChannelTakesTheBinding := by
  intro s tag n b auto h polled inRange free released bound newly
  have hbound : bound = boundWith s n b auto := rfl
  rw [exec_bindChannel h]
  refine ⟨fun hn => by rw [if_pos hn], fun hn hh => ?_, fun hn hh hf => ?_, fun hn hh hr h1 h2 h3 hf => ?_,
    fun hn hh hr h1 h2 h3 hf => ?_⟩ <;> rw [if_neg (Nat.not_lt.2 hn)]
  · rw [if_pos hh]
  · rw [hh, if_neg nofun]
    by_cases hr : bindingInRange b = true
    · rw [if_neg (not_not.2 hr), if_pos fun hp => ?_]
      simp only [Bool.and_eq_true, polledForce_iff, and_assoc] at hp
      exact hf ⟨(bindingInRange_iff b).1 hr, hp⟩
    · rw [if_pos hr]
  all_goals
    rw [hh, if_neg nofun, if_neg (not_not.2 ((bindingInRange_iff b).2 hr)),
      if_neg (not_not.2 (by simp only [Bool.and_eq_true, polledForce_iff]; exact ⟨⟨h1, h2⟩, h3⟩))]
  · rw [if_neg fun hfree => hf ((freeFor_iff ..).1 hfree)]
  · have hp : (boundWith s n b auto).passDue = false := (boundWith_passDue s n b auto).trans (passDue_of_takesNow h)
    rw [if_pos ((freeFor_iff ..).2 hf), bindTo_eq, hbound]
    refine ⟨?_, fun hnew => ?_, fun hnew => ?_⟩
    · rw [ownerOf_boundWith, if_pos ⟨rfl, within_iff.2 ⟨hr.1, hr.2.1⟩⟩]
    · rw [if_pos hnew]
      exact congrArg Host.Outcome.next (runPass_of_due rfl)
    · rw [if_neg hnew, runPass_answered tag 0x30 [] hp]

/-- Settles O29: the channel leaves UNBOUND's and the holding states' refusals behind it when it is IDLE. -/
theorem unbindChannelReleasesTheJack : Obligations.UnbindChannelReleasesTheJack := by
  intro s tag n h
  have hp := passDue_of_takesNow h
  have he : exec (.unbindChannel tag n) s = .next (
      if 3 < n then refused tag 0x31 .badValue s
      else if (stressAt s n).mode = .unbound then refused tag 0x31 .notFound s
      else if holdsAnchor s n = true then refused tag 0x31 .busy s
      else answered tag 0x31 none [] (unbind n s)) := by
    have hu : (unbind n s).passDue = false := by
      obtain ⟨v, hv⟩ := setOwner_frame s (bindingOf s n).jack none
      rw [unbind, hv]; exact hp
    show request tag 0x31 (actUnbindChannel n) s = _
    rw [request_of_takesNow h, actUnbindChannel, respond_numbered _ _ _ hp]
    exact congrArg Host.Outcome.next
      (if_congr .rfl rfl (respond_check hp .rfl (respond_check hp .rfl (respond_done _ hu))))
  rw [he]
  refine ⟨fun hn => by rw [if_pos hn], fun hn hm => ?_, fun hn hh => ?_, fun b hn hm hb => ⟨?_, ?_⟩⟩
  · rw [if_neg (Nat.not_lt.2 hn), if_pos hm]
  · rw [if_neg (Nat.not_lt.2 hn), if_neg fun hm => by simp [holdsAnchor, hm] at hh, if_pos hh]
  · rw [if_neg (Nat.not_lt.2 hn), if_neg (by rw [hm]; nofun), if_neg (by simp [holdsAnchor, hm]), unbind, bindingOf, hb]
    rfl
  · rw [ownerOf_setOwner]
    split
    · rfl
    case isFalse hw => exact if_neg fun hw' => hw ⟨rfl, hw'⟩

/-- Settles O30: setting auto-take on an IDLE channel starts a pass, any other choice none. -/
theorem setAutoTakeTakesTheChoice : Obligations.SetAutoTakeTakesTheChoice := by
  intro s tag n auto h
  have hp := passDue_of_takesNow h
  show request tag 0x32 (actSetAutoTake n auto) s = _
  rw [request_of_takesNow h, actSetAutoTake, respond_numbered _ _ _ hp]
  refine congrArg Host.Outcome.next (if_congr .rfl rfl (respond_check hp .rfl ?_))
  dsimp only
  by_cases hc : auto = true ∧ (stressAt s n).mode = .idle
  · rw [if_pos hc, if_pos (by simp [hc])]
    exact respond_done_pass _ rfl
  · rw [if_neg hc, if_neg (by simpa using hc)]
    exact respond_done _ hp

end Sys2Proof.Machine
end

section
/-! SUPPORT. The faults of a channel's own measurements (R81 to R84), and its command choices outside the approach of a
LOCKOFF (R68, R69, R71 to R74, R76, R91, R98). -/

namespace Sys2Proof.Machine

open Sys2Proof Sys2Proof.Config

/-! ### A channel without an anchor takes no measurement (R84) -/

section
variable {s : State} {n : Nat}

theorem stressSample_of_free (h : holdsAnchor s n = false) (m : Nat) (v : Int) (k : Mark) : stressSample m n v k s = s :=
  if_pos (by rw [h]; rfl)

theorem stressStale_of_free (h : holdsAnchor s n = false) (m : Nat) : stressStale m n s = s :=
  if_neg (by rw [h, Bool.false_and]; nofun)

/-- R83: the channels whose freshness a test needs. -/
theorem stressStale_of_holds (h : holdsAnchor s n = true) (m : Nat) : stressStale m n s =
    if (bindingOf s n).force = m ∨ (bindingOf s n).extension = m ∨ ((bindingOf s n).seat = m
      ∧ (stressAt s n).mode = .locking ∧ (workOf s n).progress = some .seating) then haltRun n .sensorStale s
    else s := by
  refine if_congr ?_ rfl rfl
  simp only [h, Bool.true_and, Bool.or_eq_true, Bool.and_eq_true, beq_iff_eq, isSeating_iff, or_assoc]

theorem extensionSample_of_holds (h : holdsAnchor s n = true) (v : Int) : extensionSample n v s =
    if ((bindingOf s n).stroke : Int) < v then haltRun n .strokeOut s
    else if (stressAt s n).mode = .running then settleStep stepFuel n (judgeExtension n v s) else s := by
  rw [extensionSample, h]; rfl

theorem forceSample_overload (h : holdsAnchor s n = true) {v : Int} (hv : ((designOf s (slotOf s n)).hardLimit : Int) < v)
    (k : Mark) : forceSample n v k s = haltRun n .overload s := by
  rw [forceSample, if_neg (by rw [h]; nofun), if_pos hv]

end

/-! ### Command choices outside an approach -/

section
variable {s t : State} {n : Nat}

/-- The wanted motion presented; `none` is the commanded motion as it stands. -/
def presentMotion (n : Nat) (s : State) : Option Motion → State
  | some m => wantMotion n m s
  | none => s

/-- No change that moves the jack alone begins an approach, on a channel of any number. -/
theorem MotionOnly.keepsNoApproach (h : MotionOnly n s t) (k : NoApproach s n) : NoApproach t n := by
  by_cases hn : n < 4
  · exact h.noApproach hn k
  · exact fun _ _ hp => hn (number_of_progress hp)

theorem choose_of_noApproach (h : NoApproach s n) (f : Int) (ok : Bool) :
    choose n f ok s = presentMotion n s (wanted s n f ok) := by
  rw [choose, chooseDirection_of_noApproach h]
  match wanted s n f ok with
  | none => exact presentSeat_of_noApproach h
  | some m => exact presentSeat_of_noApproach ((motionOnly_wantMotion n m s).keepsNoApproach h)

theorem wanted_of_sameStep (h : SameStep n s t) (target : targetOf t n = targetOf s n)
    (tolerance : toleranceOf t n = toleranceOf s n) {p : MoveParams} (hp : stepOf s n = .loadTo p ∨ stepOf s n = .unloadTo p)
    (f : Int) (ok : Bool) : wanted t n f ok = wanted s n f ok := by
  rw [wanted, wanted, h.stepOf]
  rcases hp with hp | hp <;> simp only [hp, target, tolerance]

theorem wanted_loadTo {p : MoveParams} (hp : stepOf s n = .loadTo p) (f : Int) (ok : Bool) :
    wanted s n f ok = some (if ok = false then .hold else if f < targetOf s n - p.approach then .advance p.speed
      else if f < targetOf s n - toleranceOf s n then .advance 1 else .hold) := by
  rw [wanted, hp]; cases ok <;> rfl

theorem wanted_unloadTo {p : MoveParams} (hp : stepOf s n = .unloadTo p) (f : Int) (ok : Bool) :
    wanted s n f ok = some (if ok = false then .hold else if targetOf s n + p.approach < f then .retract p.speed
      else if targetOf s n + toleranceOf s n < f then .retract 1 else .hold) := by
  rw [wanted, hp]; cases ok <;> rfl

theorem wanted_holdSettle {p : SettleParams} (hp : stepOf s n = .holdSettle p) {x : Int} {d : Direction}
    (hx : (workOf s n).target = some x) (hd : (workOf s n).direction = some d) (f : Int) (ok : Bool) :
    wanted s n f ok = if ok then settleChoice d x p.loadTolerance f else some .hold := by
  rw [wanted, hp]; dsimp only; rw [hx, hd]

theorem wanted_holdSettle_untargeted {p : SettleParams} (hp : stepOf s n = .holdSettle p) (hx : (workOf s n).target = none)
    (f : Int) (ok : Bool) : wanted s n f ok = some .hold := by
  rw [wanted, hp]; dsimp only; rw [hx]

/-- R76, R91: load maintenance about a target, with nothing presented within its band. -/
theorem presentMotion_maintain (a b : Prop) [Decidable a] [Decidable b] (m : Motion) (ok : Bool) :
    presentMotion n s (if ok then (if a then some m else if b then none else some .hold) else some .hold) =
      if ok = true ∧ a then wantMotion n m s else if ok = true ∧ b then s else wantMotion n .hold s := by
  by_cases ha : a <;> by_cases hb : b <;> cases ok <;> simp [ha, hb, presentMotion]

/-- R91: the creep target is that of the last LOAD_TO before the step. -/
theorem creepTarget_of_last {before after : List ProcStep} {p : MoveParams}
    (h : (classOf s (slotOf s n)).procedure.take (stepNumber s n - 1) = before ++ .loadTo p :: after)
    (ha : ∀ q ∈ after, stepIsLoad q = false) :
    creepTarget s n = ((designOf s (slotOf s n)).workingLoad * p.target / 1000 : Nat) := by
  have hnone : after.reverse.findSome? loadFactor = none := List.findSome?_eq_none_iff.2 fun q hq => by
    have := ha q (List.mem_reverse.1 hq)
    cases q with
    | loadTo => exact absurd this (by nofun)
    | _ => rfl
  have hfind : (stepsBefore s n).findSome? loadFactor = some p.target := by
    rw [stepsBefore, h, List.reverse_append, List.reverse_cons, List.append_assoc, List.findSome?_append, hnone]
    rfl
  rw [creepTarget, hfind]; rfl

end

/-! ### Force samples of moves and holds (R68, R72 to R74) -/

section
variable {s : State} {n : Nat}

theorem number_of_running (h : (stressAt s n).mode = .running) : n < 4 :=
  number_of_holdsAnchor s (holdsAnchor_of_mode s h rfl)

/-- R73, R74: the sample that completes a move: confirmed, in the band, with JACK_HOLD commanded and hold reached. -/
theorem completesMove_iff (f : Int) (k : Mark) :
    ((k == .within) && holding s n && inBand (targetOf s n) (toleranceOf s n) f) = true ↔
      k = .within ∧ (workOf s n).holdReached = true ∧ (workOf s n).commanded = some .hold
        ∧ targetOf s n - toleranceOf s n ≤ f ∧ f ≤ targetOf s n + toleranceOf s n := by
  simp only [holding, inBand, Bool.and_eq_true, beq_iff_eq, decide_eq_true_eq, and_assoc]

theorem judgeMove_complete {load : Bool} {f : Int} {ok : Bool}
    (h : (ok && holding s n && inBand (targetOf s n) (toleranceOf s n) f) = true) :
    judgeMove n load f ok s = (s.onWork n fun w =>
      if load then { w with lastLoaded := some (f, valueOf s (bindingOf s n).extension) }
      else { w with lastUnloaded := some (f, valueOf s (bindingOf s n).extension) }, .completes false) := if_pos h

theorem judgeMove_goesOn {load : Bool} {f : Int} {ok : Bool}
    (h : ¬(ok && holding s n && inBand (targetOf s n) (toleranceOf s n) f) = true) :
    judgeMove n load f ok s = (choose n f ok (setOvershoot n (ok && (if load then
      decide (targetOf s n + toleranceOf s n < f) else decide (f < targetOf s n - toleranceOf s n))) s), .goesOn) := if_neg h

/-- R72: the overshoot detail is no part of the choice of a move. -/
theorem choose_setOvershoot (hn : n < 4) {p : MoveParams} (hp : stepOf s n = .loadTo p ∨ stepOf s n = .unloadTo p)
    (f : Int) (ok b : Bool) : choose n f ok (setOvershoot n b s) = presentMotion n (setOvershoot n b s) (wanted s n f ok) := by
  cases b with
  | false => exact choose_of_noApproach (noApproach_of_step fun q hq => by rcases hp with hp | hp <;> cases hp.symm.trans hq) f ok
  | true =>
    have hw := workOf_onWork (s := s) hn fun w => { w with overshoot := true }
    have hs : SameStep n s (setOvershoot n true s) := sameStep_onWork hn fun w => { w with overshoot := true }
    have ht : targetOf (setOvershoot n true s) n = targetOf s n :=
      congrArg (Option.getD · 0) ((congrArg Work.target hw).trans rfl)
    have hl : toleranceOf (setOvershoot n true s) n = toleranceOf s n :=
      congrArg (Option.getD · 0) ((congrArg Work.tolerance hw).trans rfl)
    rw [choose_of_noApproach (noApproach_of_step fun q hq => by
      rw [hs.stepOf] at hq; rcases hp with hp | hp <;> cases hp.symm.trans hq), wanted_of_sameStep hs ht hl hp]

theorem setOvershoot_eq (k : Mark) (q : Prop) [Decidable q] : setOvershoot n (k == .within && decide q) s =
    if k = .within ∧ q then s.onWork n fun w => { w with overshoot := true } else s :=
  if_congr (by rw [Bool.and_eq_true, beq_iff_eq, decide_eq_true_eq]) rfl rfl

theorem unconfirmed_iff (k : Mark) : (k == .within) = false ↔ k ≠ .within := beq_eq_false_iff_ne

/-- R72, R74: the sample that completes no move. -/
theorem forceSample_moves (hm : (stressAt s n).mode = .running) {f : Int} (hf : f ≤ (designOf s (slotOf s n)).hardLimit)
    {k : Mark} {load : Bool} (hj : judgeForce n f (k == .within) s = judgeMove n load f (k == .within) s) {p : MoveParams}
    (hp : stepOf s n = .loadTo p ∨ stepOf s n = .unloadTo p)
    (h : ¬((k == .within) && holding s n && inBand (targetOf s n) (toleranceOf s n) f) = true) :
    forceSample n f k s = presentMotion n (setOvershoot n (k == .within && (if load then
      decide (targetOf s n + toleranceOf s n < f) else decide (f < targetOf s n - toleranceOf s n))) s)
      (wanted s n f (k == .within)) := by
  rw [forceSample_running hm hf, hj, judgeMove_goesOn h, settleStep_goesOn, choose_setOvershoot (number_of_running hm) hp]

/-- R76, R91, R98: a step with no judgment of its own chooses at each sample. -/
theorem forceSample_chooses (hm : (stressAt s n).mode = .running) {f : Int} (hf : f ≤ (designOf s (slotOf s n)).hardLimit)
    {k : Mark} (h : judgeForce n f (k == .within) s = (choose n f (k == .within) s, .goesOn)) :
    forceSample n f k s = choose n f (k == .within) s := by
  rw [forceSample_running hm hf, h, settleStep_goesOn]

end

/-! ### Start judgments outside an approach (R69, log 15, log 16) -/

section
variable {s : State} {n : Nat}

theorem holdCondition_move {p : MoveParams} (hp : stepOf s n = .loadTo p ∨ stepOf s n = .unloadTo p) (f : Int) :
    holdCondition s n f = true ↔ (if stepIsLoad (stepOf s n) = true then targetOf s n - toleranceOf s n ≤ f
      else f ≤ targetOf s n + toleranceOf s n) := by
  rcases hp with hp | hp <;> rw [holdCondition, hp] <;> exact decide_eq_true_iff

theorem holdAtStart_move {p : MoveParams} (hp : stepOf s n = .loadTo p ∨ stepOf s n = .unloadTo p) (f : Int) :
    holdAtStart n f s = if (workOf s n).commanded = some .hold ∧ (if stepIsLoad (stepOf s n) = true then
      targetOf s n - toleranceOf s n ≤ f else f ≤ targetOf s n + toleranceOf s n) then
        s.onWork n fun w => { w with holdReached := true } else s :=
  if_congr (by rw [Bool.and_eq_true, holdCondition_move hp, decide_eq_true_eq]) rfl rfl

theorem holdAtStart_of_unmet {f : Int} (h : holdCondition s n f = false) : holdAtStart n f s = s :=
  if_neg (by rw [h, Bool.and_false]; nofun)

/-- R69: the steps that choose by the force at their start. -/
theorem startJudgment_chooses (h : (∃ p, stepOf s n = .loadTo p ∨ stepOf s n = .unloadTo p)
    ∨ (∃ p, stepOf s n = .holdSettle p) ∨ ∃ p, stepOf s n = .holdCreep p) : startJudgment n s = (startChoice n s, .goesOn) := by
  rcases h with ⟨p, hp | hp⟩ | ⟨p, hp⟩ | ⟨p, hp⟩ <;> rw [startJudgment, hp]

theorem startChoice_outside (h : NoApproach s n) (hs : isFresh s (bindingOf s n).force = true) :
    startChoice n s = choose n (valueOf s (bindingOf s n).force) (markOf s (bindingOf s n).force == .within)
      (holdAtStart n (valueOf s (bindingOf s n).force) s) := by
  rw [startChoice_of_fresh hs rfl rfl, chooseDirection_of_noApproach h]

end

end Sys2Proof.Machine
end

section
/-! SUPPORT. The measurement faults and the moves, settled. -/

namespace Sys2Proof.Machine

open Sys2Proof Sys2Proof.Config

/-- Settles O33: each fault is the first branch of its sample. -/
theorem measurementFaultsHaltTheTest : Obligations.MeasurementFaultsHaltTheTest := by
  intro s n m v k cause
  refine ⟨fun h hv => forceSample_overload h hv k, fun h hv => ?_, fun h hm => ?_, fun h hf he hs => ?_,
    fun h => haltStress_of_holds h cause, fun h => ⟨stressSample_of_free h m v k, stressStale_of_free h m,
      haltStress_of_free cause h⟩⟩
  · rw [extensionSample_of_holds h, if_pos hv]
  · rw [stressStale_of_holds h, if_pos hm]
  · rw [stressStale_of_holds h, if_neg (by tauto)]

/-- Settles O34, from the motion that each step wants. -/
theorem movesChooseAndComplete : Obligations.MovesChooseAndComplete := by
  refine ⟨fun s n p f k hm hf => ?_, fun s n m => ?_, fun s n f ok => ?_, fun s n => ?_⟩
  · refine ⟨fun hp hb => ?_, fun hp hb => ?_, fun hp hb => ?_, fun hp hb => ?_⟩
    · rw [forceSample_running hm hf, judgeForce, hp]
      exact congrArg _ (judgeMove_complete ((completesMove_iff f k).2 hb))
    · rw [forceSample_running hm hf, judgeForce, hp]
      exact congrArg _ (judgeMove_complete ((completesMove_iff f k).2 hb))
    · rw [forceSample_moves (load := true) hm hf (by rw [judgeForce, hp]) (.inl hp) (mt (completesMove_iff f k).1 hb),
        wanted_loadTo hp]
      simp only [if_true, setOvershoot_eq, unconfirmed_iff]; rfl
    · rw [forceSample_moves (load := false) hm hf (by rw [judgeForce, hp]) (.inr hp) (mt (completesMove_iff f k).1 hb),
        wanted_unloadTo hp]
      simp only [Bool.false_eq_true, if_false, setOvershoot_eq, unconfirmed_iff]; rfl
  · refine ⟨fun h => if_pos h, fun h hq => ?_, fun h hq => ?_⟩
    · rw [wantMotion, if_neg h]; exact if_neg (by cases m <;> exact fun k => nomatch hq.symm.trans k)
    · rw [wantMotion, if_neg h]; cases m <;> exact if_pos hq
  · refine ⟨fun p hp => ?_, fun p hp => ?_, fun p x hp hx hd => ?_, fun p x hp hx hd => ?_, fun p hp hx => ?_,
      fun p hp => ?_, fun _ _ _ h ha => creepTarget_of_last h ha, fun hp => ?_, fun hp => ?_, fun hp hm hf k => ?_⟩
    · rw [choose_of_noApproach (noApproach_of_step fun q hq => nomatch hp.symm.trans hq), wanted_loadTo hp]; rfl
    · rw [choose_of_noApproach (noApproach_of_step fun q hq => nomatch hp.symm.trans hq), wanted_unloadTo hp]; rfl
    · rw [choose_of_noApproach (noApproach_of_step fun q hq => nomatch hp.symm.trans hq), wanted_holdSettle hp hx hd]
      exact presentMotion_maintain _ _ _ _
    · rw [choose_of_noApproach (noApproach_of_step fun q hq => nomatch hp.symm.trans hq), wanted_holdSettle hp hx hd]
      exact presentMotion_maintain _ _ _ _
    · rw [choose_of_noApproach (noApproach_of_step fun q hq => nomatch hp.symm.trans hq),
        wanted_holdSettle_untargeted hp hx]; rfl
    · rw [choose_of_noApproach (noApproach_of_step fun q hq => nomatch hp.symm.trans hq), wanted, hp]
      exact presentMotion_maintain _ _ _ _
    · rw [choose_of_noApproach (noApproach_of_step fun q hq => nomatch hp.symm.trans hq), wanted, hp]; rfl
    · rw [choose_of_noApproach (noApproach_of_step fun q hq => by rcases hp with hp | hp <;> cases hp.symm.trans hq), wanted]
      rcases hp with hp | hp <;> rw [hp] <;> rfl
    · refine forceSample_chooses hm hf ?_
      rcases hp with ⟨p, hp⟩ | ⟨p, hp⟩ | hp <;> rw [judgeForce, hp]
  · refine ⟨fun h => if_neg (by rw [h]; nofun), fun h => if_pos h, fun h ⟨p, hp⟩ => ?_, fun h hp => ?_, fun h hp => ?_⟩
    · have hno : NoApproach s n := noApproach_of_step fun q hq => by rcases hp with hp | hp <;> cases hp.symm.trans hq
      rw [startJudgment_chooses (.inl ⟨p, hp⟩), startChoice_outside hno h, holdAtStart_move hp]
    · have hno : NoApproach s n := noApproach_of_step fun q hq => by
        rcases hp with ⟨_, hp⟩ | ⟨_, hp⟩ <;> cases hp.symm.trans hq
      have hc : holdCondition s n (valueOf s (bindingOf s n).force) = false := by
        rcases hp with ⟨_, hp⟩ | ⟨_, hp⟩ <;> rw [holdCondition, hp]
      rw [startJudgment_chooses (.inr hp), startChoice_outside hno h, holdAtStart_of_unmet hc]
    · rw [startJudgment_chooses hp, startChoice_of_stale h]

end Sys2Proof.Machine
end

section
/-! SUPPORT. The end of a step and the start of the next (R69, R70, R79, R89). -/

namespace Sys2Proof.Machine

open Sys2Proof Sys2Proof.Config

/-! ### The record of a step, written or held (R70, R89) -/

section
variable {s : State} {n : Nat}

theorem ordinaryRoom_of_full (h : 2016 ≤ occupancy s.log) : ordinaryRoom s.log = false := decide_eq_false (Nat.not_lt.2 h)

theorem ordinaryRoom_of_room (h : ¬2016 ≤ occupancy s.log) : ordinaryRoom s.log = true := decide_eq_true (Nat.lt_of_not_le h)

theorem writeOrHold_of_room (h : ¬2016 ≤ occupancy s.log) (r : LogRecord) :
    writeOrHold n r s = s.onLog (appendRecord r) := if_pos (ordinaryRoom_of_room h)

theorem writeOrHold_of_full (h : 2016 ≤ occupancy s.log) (r : LogRecord) : writeOrHold n r s = stall n r s :=
  if_neg (by rw [ordinaryRoom_of_full h]; nofun)

/-- R89: the channel that holds a record, its motion apart. -/
def stalledWith (n : Nat) (r : LogRecord) (s : State) : State :=
  s.onStress n fun c => { c with mode := .stalled, work := { c.work with held := some r } }

theorem stressAt_stalledWith (hn : n < 4) (r : LogRecord) : stressAt (stalledWith n r s) n =
    { stressAt s n with mode := .stalled, work := { workOf s n with held := some r } } := stressAt_onStress_same hn _

theorem bindingOf_stalledWith (hn : n < 4) (r : LogRecord) : bindingOf (stalledWith n r s) n = bindingOf s n := by
  rw [bindingOf, stressAt_stalledWith hn, bindingOf]

theorem seeksTarget_of_not_running (h : (stressAt s n).mode ≠ .running) : seeksTarget s n = false := by
  rw [seeksTarget, beq_eq_false_iff_ne.2 h, Bool.false_and]

/-- R89: a channel that stalls wants JACK_HOLD; a JACK_HOLD that it presents sets no hold reached (log 15). -/
theorem stall_holds (hn : n < 4) (r : LogRecord) (hc : (workOf s n).commanded ≠ some .hold)
    (hq : queueTakes s (bindingOf s n).jack .jackHold = true) :
    (stall n r s).sched = (present (bindingOf s n).jack .jackHold (.sc n) s).sched
      ∧ stressAt (stall n r s) n = { stressAt s n with
          mode := .stalled, work := { workOf s n with held := some r, commanded := some .hold } } := by
  have hs := stressAt_stalledWith (s := s) hn r
  have hw : workOf (stalledWith n r s) n = { workOf s n with held := some r } := congrArg Stress.work hs
  have hb := bindingOf_stalledWith (s := s) hn r
  have hq' : queueTakes (stalledWith n r s) (bindingOf (stalledWith n r s) n).jack (motionCommand .hold) = true := by
    rw [hb]; exact hq
  have hstall : stall n r s = (present (bindingOf s n).jack .jackHold (.sc n) (stalledWith n r s)).onWork n fun w =>
      { w with commanded := some .hold, holdReached := w.holdReached } := by
    have hmode : (stressAt (stalledWith n r s) n).mode ≠ .running := by rw [hs]; nofun
    show wantMotion n .hold (stalledWith n r s) = _
    rw [wantMotion, if_neg (by rw [hw]; exact hc), if_pos hq', hb, seeksTarget_of_not_running hmode]
    simp only [Bool.and_false, Bool.or_false]; rfl
  have hp : stressAt (present (bindingOf s n).jack .jackHold (.sc n) (stalledWith n r s)) n = stressAt (stalledWith n r s) n := by
    unfold present; split <;> rfl
  refine ⟨?_, ?_⟩
  · rw [hstall]
    show (present (bindingOf s n).jack .jackHold (.sc n) (stalledWith n r s)).sched = _
    rw [present, present, if_pos (by exact hq), if_pos (by exact hq)]; rfl
  · rw [hstall, State.onWork, stressAt_onStress_same hn, hp, hs]

theorem stall_waits (hn : n < 4) (r : LogRecord)
    (h : ¬((workOf s n).commanded ≠ some .hold ∧ queueTakes s (bindingOf s n).jack .jackHold = true)) :
    stall n r s = stalledWith n r s := by
  have hw : workOf (stalledWith n r s) n = { workOf s n with held := some r } :=
    congrArg Stress.work (stressAt_stalledWith (s := s) hn r)
  show wantMotion n .hold (stalledWith n r s) = _
  by_cases hc : (workOf s n).commanded = some .hold
  · exact if_pos (by rw [hw]; exact hc)
  · rw [wantMotion, if_neg (by rw [hw]; exact hc), bindingOf_stalledWith hn]
    exact if_neg fun hq => h ⟨hc, hq⟩

/-- R89: stalling touches the channel and the queue alone. -/
theorem stall_keeps (n : Nat) (r : LogRecord) (s : State) : (stall n r s).log = s.log ∧ (stall n r s).anchorTable = s.anchorTable
    ∧ (stall n r s).gauge = s.gauge ∧ (stall n r s).placement = s.placement ∧ (stall n r s).passDue = s.passDue
    ∧ ∀ m, m ≠ n → stressAt (stall n r s) m = stressAt s m := by
  obtain ⟨c, b, d, h⟩ := motionOnly_wantMotion n .hold (stalledWith n r s)
  have hs : stall n r s = { (stalledWith n r s).onWork n (moved c b) with sched := d } := h
  rw [hs]
  refine ⟨rfl, rfl, rfl, rfl, rfl, fun m hm => ?_⟩
  show stressAt ((stalledWith n r s).onWork n (moved c b)) m = _
  rw [State.onWork, stressAt_onStress_other hm, stalledWith, stressAt_onStress_other hm]

/-! ### The end of a step -/

/-- R79: the step after the one that has ended. -/
def stepAt (s : State) (n k : Nat) : ProcStep := ((classOf s (slotOf s n)).procedure[k - 1]?).getD .finish

/-- The end of a step changes the channel's working data behind the writing of its record. -/
theorem endStep_eq (e : StepEnd) : endStep n e s =
    enterStep n (nextStep s n e) ((writeOrHold n (stepRecord s n e) s).onWork n fun w =>
      { w with pendingCause := pendingAfter (workOf s n) e }) := rfl

/-- R69: the working data at the start of the next step, by the channel as the record left it. -/
theorem stressAt_endStep (hn : n < 4) (e : StepEnd) {m : StressMode} {w : Work} (hslot : w.slot = (workOf s n).slot)
    (h : stressAt (writeOrHold n (stepRecord s n e) s) n = { stressAt s n with mode := m, work := w }) :
    stressAt (endStep n e s) n = { stressAt s n with
      mode := m
      work := withTarget s n (stepWork (nextStep s n e) { w with pendingCause := pendingAfter (workOf s n) e })
        (stepAt s n (nextStep s n e)) } := by
  generalize hu : (writeOrHold n (stepRecord s n e) s).onWork n (fun w =>
      { w with pendingCause := pendingAfter (workOf s n) e }) = u
  have hus : stressAt u n = { stressAt s n with
      mode := m, work := { w with pendingCause := pendingAfter (workOf s n) e } } := by
    rw [← hu, State.onWork, stressAt_onStress_same hn, h]
  have huw : workOf u n = { w with pendingCause := pendingAfter (workOf s n) e } := congrArg Stress.work hus
  have hf : TestFrame s u := hu ▸ (frame_onWork _ n _).after (frame_writeOrHold s n _)
  generalize hv : u.onWork n (stepWork (nextStep s n e)) = v
  have hvw : workOf v n = stepWork (nextStep s n e) (workOf u n) := by rw [← hv, workOf_onWork hn]
  have hfv : TestFrame s v := hv ▸ (frame_onWork _ n _).after hf
  have hsv : slotOf v n = slotOf s n := by
    rw [slotOf, hvw, huw, slotOf]; exact congrArg (Option.getD · 0) hslot
  have hstep : stepOf v n = stepAt s n (nextStep s n e) := by
    rw [stepOf, hsv, hfv.classOf, hvw]; rfl
  have htarget (f : Nat) : targetForce v n f = targetForce s n f := by rw [targetForce, hsv, hfv.designOf]; rfl
  rw [endStep_eq, hu, enterStep_stress hn, hv, hstep, hus, huw]
  cases stepAt s n (nextStep s n e) <;> simp only [withTarget, htarget]

theorem pendingAfter_eq (w : Work) (e : StepEnd) : pendingAfter w e = (match e with
    | .fails c => some (w.pendingCause.getD c)
    | _ => w.pendingCause) := by
  cases e with
  | fails c => cases h : w.pendingCause <;> simp [pendingAfter, h]
  | _ => rfl

theorem nextStep_eq (s : State) (n : Nat) (e : StepEnd) : e ≠ .goesOn → nextStep s n e =
    (match e, (classOf s (slotOf s n)).rejectExit with
      | .fails _, some x => x
      | _, _ => stepNumber s n + 1) := by
  intro h
  cases e with
  | goesOn => exact absurd rfl h
  | completes u => rfl
  | fails c => rw [nextStep]; cases (classOf s (slotOf s n)).rejectExit <;> rfl

/-- R69: the working data that the next step starts with, by the motion and the held record that the end leaves. -/
theorem withTarget_stepWork (s : State) (n k : Nat) (w : Work) (p : ProcStep) : withTarget s n (stepWork k w) p =
    { slot := w.slot, step := some k, elapsed := 0, commanded := w.commanded, holdReached := false
      target := match p with
        | .loadTo p => some (targetForce s n p.target)
        | .unloadTo p => some (targetForce s n p.target)
        | _ => w.target
      tolerance := match p with
        | .loadTo p => some p.tolerance
        | .unloadTo p => some p.tolerance
        | _ => w.tolerance
      direction := match p with
        | .loadTo _ => some .load
        | .unloadTo _ => some .unload
        | _ => w.direction
      lastLoaded := w.lastLoaded, lastUnloaded := w.lastUnloaded, overshoot := false, settle := none
      s1 := none, s2 := none, s2b := none
      progress := match p with
        | .lockoff _ => some .approach
        | _ => none
      approachDirection := none, approachDone := false, approachPoint := none, seatCount := none
      seatElapsed := none, releaseForce := none, releaseElapsed := none, window := 0
      requestOutstanding := false, outcome := none, pendingCause := w.pendingCause
      pointCounter := w.pointCounter, deferredFreeze := w.deferredFreeze, deferredHalt := w.deferredHalt
      held := w.held, startOwing := false } := by
  cases p <;> rfl

/-- The end of a step is a change of the channel's working data behind the writing of its record. -/
theorem endStep_onWork (n : Nat) (e : StepEnd) (s : State) :
    ∃ f, endStep n e s = (writeOrHold n (stepRecord s n e) s).onWork n f := by
  rw [endStep_eq, enterStep]
  rw [onWork_onWork, onWork_onWork]
  exact ⟨_, rfl⟩

/-- Writing or holding a record leaves all but the channel, the scheduler and the log. -/
theorem writeOrHold_keeps (n : Nat) (r : LogRecord) (s : State) :
    (writeOrHold n r s).anchorTable = s.anchorTable ∧ (writeOrHold n r s).gauge = s.gauge
      ∧ (writeOrHold n r s).placement = s.placement ∧ (writeOrHold n r s).passDue = s.passDue
      ∧ ∀ m, m ≠ n → stressAt (writeOrHold n r s) m = stressAt s m := by
  by_cases hf : 2016 ≤ occupancy s.log
  · rw [writeOrHold_of_full hf]
    exact (stall_keeps n r s).2
  · rw [writeOrHold_of_room hf]
    exact ⟨rfl, rfl, rfl, rfl, fun _ _ => rfl⟩

/-- R70, R89: the record is written, or the channel holds it and stalls, and wants JACK_HOLD. -/
theorem writeOrHold_cases (hn : n < 4) (r : LogRecord) :
    let full : Prop := 2016 ≤ occupancy s.log
    let holds : Prop := full ∧ (workOf s n).commanded ≠ some .hold ∧ queueTakes s (bindingOf s n).jack .jackHold = true
    ∃ m c h, stressAt (writeOrHold n r s) n =
        { stressAt s n with mode := m, work := { workOf s n with commanded := c, held := h } }
      ∧ (holds → c = some .hold
        ∧ (writeOrHold n r s).sched = (present (bindingOf s n).jack .jackHold (.sc n) s).sched)
      ∧ (¬holds → c = (workOf s n).commanded ∧ (writeOrHold n r s).sched = s.sched)
      ∧ (full → m = .stalled ∧ h = some r ∧ (writeOrHold n r s).log = s.log)
      ∧ (¬full → m = (stressAt s n).mode ∧ h = (workOf s n).held
        ∧ (writeOrHold n r s).log = appendRecord r s.log) := by
  intro full holds
  by_cases hf : full
  · have hlog := (stall_keeps n r s).1
    rw [writeOrHold_of_full hf]
    by_cases hh : (workOf s n).commanded ≠ some .hold ∧ queueTakes s (bindingOf s n).jack .jackHold = true
    · obtain ⟨hsched, hs⟩ := stall_holds hn r hh.1 hh.2
      exact ⟨.stalled, some .hold, some r, hs, fun _ => ⟨rfl, hsched⟩, fun h => absurd ⟨hf, hh⟩ h,
        fun _ => ⟨rfl, rfl, hlog⟩, fun h => absurd hf h⟩
    · have hs := stall_waits hn r hh
      refine ⟨.stalled, (workOf s n).commanded, some r, ?_, fun h => absurd h.2 hh, fun _ => ⟨rfl, by rw [hs]; rfl⟩,
        fun _ => ⟨rfl, rfl, hlog⟩, fun h => absurd hf h⟩
      rw [hs]; exact stressAt_stalledWith hn r
  · rw [writeOrHold_of_room hf]
    exact ⟨(stressAt s n).mode, (workOf s n).commanded, (workOf s n).held, rfl, fun h => absurd h.1 hf,
      fun _ => ⟨rfl, rfl⟩, fun h => absurd h hf, fun _ => ⟨rfl, rfl, rfl⟩⟩

/-- The end of a step leaves what the writing of its record leaves. -/
theorem endStep_keeps (n : Nat) (e : StepEnd) (s : State) :
    (endStep n e s).log = (writeOrHold n (stepRecord s n e) s).log
      ∧ (endStep n e s).sched = (writeOrHold n (stepRecord s n e) s).sched
      ∧ (endStep n e s).anchorTable = s.anchorTable ∧ (endStep n e s).gauge = s.gauge
      ∧ (endStep n e s).placement = s.placement ∧ (endStep n e s).passDue = s.passDue
      ∧ ∀ m, m ≠ n → stressAt (endStep n e s) m = stressAt s m := by
  obtain ⟨f, he⟩ := endStep_onWork n e s
  obtain ⟨ha, hg, hp, hd, ho⟩ := writeOrHold_keeps n (stepRecord s n e) s
  rw [he]
  generalize writeOrHold n (stepRecord s n e) s = u at ha hg hp hd ho ⊢
  exact ⟨rfl, rfl, ha, hg, hp, hd, fun m hm => (stressAt_onStress_other hm _).trans (ho m hm)⟩

end

/-- Settles O35: the record is written or held first, and the next step starts on the channel as that left it. -/
theorem endedStepsWriteAndStartTheNext : Obligations.EndedStepsWriteAndStartTheNext := by
  refine ⟨fun s n e hn hm he => ?_, fun s n k => ⟨settleStep_goesOn k n s, fun e he => ⟨fun h => ?_, fun h => ?_⟩⟩⟩
  · obtain ⟨hlog, hsched, ha, hg, hp, hd, ho⟩ := endStep_keeps n e s
    obtain ⟨m, c, h, hs, hholds, hrests, hfull, hroom⟩ := writeOrHold_cases (s := s) hn (stepRecord s n e)
    have ht := (stressAt_endStep hn e (w := { workOf s n with commanded := c, held := h }) rfl hs).trans
      (congrArg (fun w => { stressAt s n with mode := m, work := w }) (withTarget_stepWork s n _ _ _))
    have hmode : (stressAt (endStep n e s) n).mode = m := congrArg Stress.mode ht
    refine ⟨⟨c, h, (congrArg Stress.work ht).trans (by simp only [nextStep_eq s n e he, pendingAfter_eq] <;> rfl),
      fun hh => (hholds hh).1, fun hh => (hrests hh).1, fun hf => (hfull hf).2.1, fun hf => (hroom hf).2.1⟩,
      fun hf => ?_, fun hf => ?_, fun hh => hsched.trans (hholds hh).2, fun hh => hsched.trans (hrests hh).2, ho, ha, hg,
      hp, hd, frame_endStep s n e⟩
    · obtain ⟨h1, -, h3⟩ := hroom hf
      exact ⟨hmode.trans (h1.trans hm), hlog.trans h3⟩
    · obtain ⟨h1, -, h3⟩ := hfull hf
      exact ⟨hmode.trans h1, hlog.trans h3⟩
  · exact (if_neg he).trans (if_pos h)
  · exact (if_neg he).trans (if_neg h)

end Sys2Proof.Machine
end

section
/-! SUPPORT. The acceptance figures of chapter 05, the creep readings and the timeouts that halt a test (R75, R92 to R96,
R99, R100, R108). -/

namespace Sys2Proof.Machine

open Sys2Proof Sys2Proof.Config

/-! ### Figures (R93, R95, R96, R108) -/

/-- R93: the quotient itself, or the end of the range that it lies beyond. -/
theorem creepValue_cases (later earlier : Int) (logratio : Nat) :
    let q := roundDiv ((later - earlier) * 1000) logratio
    let v := creepValue later earlier logratio
    (v = q ∧ -2147483648 ≤ v ∧ v ≤ 2147483647) ∨ (v = -2147483648 ∧ q < v) ∨ (v = 2147483647 ∧ v < q) := by
  dsimp only [creepValue, saturate]
  split
  · omega
  · split <;> omega

/-- R93: a saturated creep value is on the far side of the exact one. -/
theorem creepValue_rounds (later earlier : Int) {logratio : Nat} (hl : 0 < logratio) :
    let exact := (later - earlier) * 1000
    let v := creepValue later earlier logratio
    (-2147483648 ≤ v ∧ v ≤ 2147483647)
      ∧ (-2147483648 < v → v < 2147483647 → 2 * (v * logratio - exact).natAbs ≤ logratio
          ∧ (2 * (v * logratio - exact).natAbs = logratio → exact.natAbs ≤ (v * logratio).natAbs))
      ∧ (v = -2147483648 → 2 * exact ≤ 2 * v * logratio + logratio)
      ∧ (v = 2147483647 → 2 * v * logratio - logratio ≤ 2 * exact) := by
  have hn := roundDiv_nearest ((later - earlier) * 1000) hl
  have hc := creepValue_cases later earlier logratio
  have h0 : (0 : Int) ≤ logratio := Int.natCast_nonneg logratio
  dsimp only at hc ⊢
  generalize (later - earlier) * 1000 = x at hn hc ⊢
  generalize roundDiv x logratio = q at hn hc
  generalize creepValue later earlier logratio = v at hc ⊢
  have hass : 2 * v * logratio = 2 * (v * logratio) := Int.mul_assoc 2 v logratio
  obtain ⟨near, half⟩ := hn
  rcases hc with ⟨rfl, hlo, hhi⟩ | ⟨hv, hq⟩ | ⟨hv, hq⟩
  · exact ⟨⟨hlo, hhi⟩, fun _ _ => ⟨near, half⟩, by omega, by omega⟩
  · have := Int.mul_le_mul_of_nonneg_right (Int.le_of_lt hq) h0
    exact ⟨by omega, by omega, by omega, by omega⟩
  · have := Int.mul_le_mul_of_nonneg_right (Int.le_of_lt hq) h0
    exact ⟨by omega, by omega, by omega, by omega⟩

/-- R95: the apparent length of a positive extension is rounded like every quotient, and saturated. -/
theorem apparentLength_rounds (d : Design) (c : ClassDef) {dp ds : Int} (hp : (c.minSpan : Int) ≤ dp) (hpos : 0 < dp)
    (hs : 0 < ds) : ∃ l : Nat, apparentLength d c (some (dp, ds)) = some l ∧ l ≤ 65535
      ∧ 2 * (l * (100 * dp)) ≤ 2 * ((d.strands * c.area * c.modulus : Nat) * ds) + 100 * dp
      ∧ (l < 65535 → 2 * ((d.strands * c.area * c.modulus : Nat) * ds) < 2 * (l * (100 * dp)) + 100 * dp) := by
  have hx : (0 : Int) ≤ (d.strands * c.area * c.modulus : Nat) * ds := Int.mul_nonneg (Int.natCast_nonneg _) (Int.le_of_lt hs)
  have hcast : ((100 * dp.toNat : Nat) : Int) = 100 * dp := by omega
  have hd : 0 < 100 * dp.toNat := by omega
  have he : apparentLength d c (some (dp, ds)) = some (min 65535
      (roundDiv ((d.strands * c.area * c.modulus : Nat) * ds) (100 * dp.toNat)).toNat) := by
    rw [apparentLength, if_neg (by omega), if_neg (by omega)]; push_cast; rfl
  rw [he]
  have hn := roundDiv_nearest ((d.strands * c.area * c.modulus : Nat) * ds) hd
  have hq : 0 ≤ roundDiv ((d.strands * c.area * c.modulus : Nat) * ds) (100 * dp.toNat) := by
    rw [roundDiv, if_neg (Int.not_lt.2 hx)]; exact Int.natCast_nonneg _
  rw [hcast] at hn
  generalize ((d.strands * c.area * c.modulus : Nat) : Int) * ds = x at hn hx hq ⊢
  generalize roundDiv x (100 * dp.toNat) = q at hn hq ⊢
  obtain ⟨near, half⟩ := hn
  refine ⟨_, rfl, Nat.min_le_left _ _, ?_, fun h => ?_⟩
  · have hle : ((min 65535 q.toNat : Nat) : Int) ≤ q := by omega
    have := Int.mul_le_mul_of_nonneg_right hle (show 0 ≤ 100 * dp by omega)
    omega
  · have hm : ((min 65535 q.toNat : Nat) : Int) = q := by omega
    have := Int.mul_nonneg hq (show 0 ≤ 100 * dp by omega)
    rw [hm]
    omega

/-- R96: LOW is judged first. -/
theorem apparentEnd_iff (d : Design) (c : ClassDef) (l : Nat) :
    (apparentEnd d c (some l) = .completes false ↔ apparentMin d c ≤ l ∧ l ≤ apparentMax d c)
      ∧ (apparentEnd d c (some l) = .fails .apparentLow ↔ l < apparentMin d c)
      ∧ (apparentEnd d c (some l) = .fails .apparentHigh ↔ apparentMin d c ≤ l ∧ apparentMax d c < l) := by
  rw [apparentEnd]
  by_cases hlow : l < apparentMin d c
  · simp [hlow]
  · by_cases hhigh : apparentMax d c < l
    · simp [hlow, hhigh]; omega
    · simp [hlow, hhigh]; omega

theorem truncDiv_of_nonneg {a : Int} (h : 0 ≤ a) (b : Nat) : truncDiv a b = a / b := Int.tdiv_eq_ediv_of_nonneg h

/-- R108: the band of the retained load. -/
theorem retained_band (c : ClassDef) {l : Int} (hl : 0 ≤ l) (ht : c.tolLow ≤ 1000) :
    retainedLow c l = l * (1000 - c.tolLow) / 1000 ∧ retainedHigh c l = l * (1000 + c.tolHigh) / 1000 :=
  ⟨truncDiv_of_nonneg (Int.mul_nonneg hl (by omega)) 1000, truncDiv_of_nonneg (Int.mul_nonneg hl (by omega)) 1000⟩

/-! ### The creep readings (R92 to R94) -/

section
variable {s : State} {n : Nat} {p : CreepParams} {v : Int}

theorem extensionSample_creep (hh : holdsAnchor s n = true) (hv : v ≤ (bindingOf s n).stroke)
    (hm : (stressAt s n).mode = .running) (hp : stepOf s n = .holdCreep p) :
    extensionSample n v s = settleStep 25 n (creepSample n p v s) := by
  rw [extensionSample_of_holds hh, if_neg (Int.not_lt.2 hv), if_pos hm, judgeExtension, hp]

theorem extensionSample_rests (hh : holdsAnchor s n = true) (hv : v ≤ (bindingOf s n).stroke)
    (hm : (stressAt s n).mode ≠ .running) : extensionSample n v s = s := by
  rw [extensionSample_of_holds hh, if_neg (Int.not_lt.2 hv), if_neg hm]

/-- R92: the first reading is taken at t1. -/
theorem creepSample_first (h1 : (workOf s n).s1 = none) : creepSample n p v s =
    if p.t1 ≤ (workOf s n).elapsed then (s.onWork n fun w => { w with s1 := some (v, w.elapsed) }, .goesOn)
    else (s, .goesOn) := by
  unfold creepSample; dsimp only; rw [h1]

/-- R93: the second reading is taken at t2 and gives the primary creep value. -/
theorem creepSample_second {a : Int × Nat} (h1 : (workOf s n).s1 = some a) (h2 : (workOf s n).s2 = none) :
    creepSample n p v s =
      if p.t2 ≤ (workOf s n).elapsed then
        ((s.onWork n fun w => { w with s2 := some (v, w.elapsed) }).onAnchor (slotOf s n) fun r =>
            { r with ksPrimary := some (creepValue v a.1 p.logratio) },
          if creepValue v a.1 p.logratio ≤ p.limit then .completes false
          else if p.extension.isSome then .goesOn else .fails .creep)
      else (s, .goesOn) := by
  unfold creepSample; dsimp only; rw [h1, h2]; dsimp only
  exact if_congr Iff.rfl (by split <;> rfl) rfl

/-- R94: the reading of the extension is taken at t2b and gives the extended creep value. -/
theorem creepSample_third {a b : Int × Nat} {e : CreepExtension} (h1 : (workOf s n).s1 = some a)
    (h2 : (workOf s n).s2 = some b) (he : p.extension = some e) :
    creepSample n p v s =
      if e.t2b ≤ (workOf s n).elapsed then
        ((s.onWork n fun w => { w with s2b := some (v, w.elapsed) }).onAnchor (slotOf s n) fun r =>
            { r with ksExtension := some (creepValue v b.1 e.logratio) },
          if creepValue v b.1 e.logratio ≤ p.limit then .completes false else .fails .creep)
      else (s, .goesOn) := by
  unfold creepSample; dsimp only; rw [h1, h2, he]; dsimp only
  exact if_congr Iff.rfl (by split <;> rfl) rfl

end

/-! ### The timeouts (R75, R100) -/

section
variable {s : State} {n : Nat}

/-- R100: an approach borrows the parameters of the last LOAD_TO or UNLOAD_TO before it. -/
theorem borrowed_of_last {before after : List ProcStep} {p : MoveParams} {q : ProcStep}
    (h : (classOf s (slotOf s n)).procedure.take (stepNumber s n - 1) = before ++ q :: after)
    (hq : q = .loadTo p ∨ q = .unloadTo p) (ha : ∀ r ∈ after, stepIsMove r = false) : borrowed s n = p := by
  have hnone : after.reverse.findSome? moveParams = none := List.findSome?_eq_none_iff.2 fun r hr => by
    have := ha r (List.mem_reverse.1 hr)
    cases r with
    | loadTo => exact absurd this (by nofun)
    | unloadTo => exact absurd this (by nofun)
    | _ => rfl
  rw [borrowed, stepsBefore, h, List.reverse_append, List.reverse_cons, List.append_assoc, List.findSome?_append, hnone]
  rcases hq with rfl | rfl <;> rfl

/-- R75: a step past its timeout halts the test (log 2). -/
theorem exec_loadTimeout (hn : n < 4) (ht : s.tickOpen = true) (hm : (stressAt s n).mode = .running)
    (hp : pastTimeout s n = true) : exec (.loadTimeout n) s = .next (afterPass (haltRun n .loadTimeout s)) := by
  have hd : isDue s (.loadTimeout n) = true := by
    show (s.tickOpen && decide (n < 4) && inMode s n .running && pastTimeout s n) = true
    simp [ht, hn, inMode, hm, hp]
  have he : effect s (.loadTimeout n) = haltRun n .loadTimeout s := haltStress_of_holds (holdsAnchor_of_mode s hm rfl) _
  refine (congrArg Host.Outcome.next (if_pos hd)).trans ?_
  rw [he, runPass_of_due rfl]

theorem pastTimeout_of_move {p : MoveParams} (hp : stepOf s n = .loadTo p ∨ stepOf s n = .unloadTo p)
    (ht : p.timeout ≤ (workOf s n).elapsed) : pastTimeout s n = true := by
  rcases hp with hp | hp <;> rw [pastTimeout, hp] <;> exact decide_eq_true ht

theorem pastTimeout_of_approach {p : LockParams} (hp : stepOf s n = .lockoff p) (ha : (workOf s n).progress = some .approach)
    (ht : (borrowed s n).timeout ≤ (workOf s n).elapsed) : pastTimeout s n = true := by
  rw [pastTimeout, hp]; dsimp only; rw [ha, decide_eq_true ht]; rfl

end

/-- Settles O37: the figures by their rounding, the readings by their order, the timeouts by the row that halts. -/
theorem figuresAndTimeLimitsJudgeTheTest : Obligations.FiguresAndTimeLimitsJudgeTheTest := by
  refine ⟨⟨fun _ _ _ hl => creepValue_rounds _ _ hl, fun w hi lo => ⟨fun h => ?_, fun hh hl => ?_⟩,
    fun d c dp ds => ⟨rfl, fun h => if_pos h, fun hp hs => ?_, fun hp hpos hs => apparentLength_rounds d c hp hpos hs⟩,
    fun d c l => ?_, fun s n hp => ⟨fun hl => ?_, fun v hl => ?_⟩, fun c jack l hl ht => ⟨rfl, retained_band c hl ht⟩⟩,
    fun s n p v hh hv hp => ⟨extensionSample_rests hh hv, fun hm => ?_⟩,
    fun s n hn ht => ⟨fun p hm hp hto => exec_loadTimeout hn ht hm (pastTimeout_of_move hp hto),
      fun p hm hp ha hto => exec_loadTimeout hn ht hm (pastTimeout_of_approach hp ha hto),
      fun _ _ _ _ h hq ha => borrowed_of_last h hq ha⟩⟩
  · rw [apparentSpan]
    rcases h with h | h
    · rw [h]
    · rw [h]; cases w.lastLoaded <;> rfl
  · rw [apparentSpan, hh, hl]
  · rw [apparentLength, if_neg (Int.not_lt.2 hp), if_pos hs]
  · obtain ⟨hc, hlow, hhigh⟩ := apparentEnd_iff d c l
    exact ⟨hc, hlow, hhigh, rfl⟩
  · rw [startJudgment, hp]; dsimp only
    rw [apparentStep]
    rw [hl]; rfl
  · rw [startJudgment, hp]; dsimp only
    rw [apparentStep]
    rw [hl]
  · have hx := extensionSample_creep hh hv hm hp
    refine ⟨fun h1 ht => ?_, fun h1 ht => ?_, fun a h1 h2 ht => ?_, fun a h1 h2 ht => ⟨fun hk => ?_, fun hk he => ?_,
      fun hk he => ?_⟩, fun a b e h1 h2 he => ⟨fun ht => ?_, fun ht hk => ?_, fun ht hk => ?_⟩⟩
    · rw [hx, creepSample_first h1, if_neg (Nat.not_le.2 ht), settleStep_goesOn]
    · rw [hx, creepSample_first h1, if_pos ht, settleStep_goesOn]
    · rw [hx, creepSample_second h1 h2, if_neg (Nat.not_le.2 ht), settleStep_goesOn]
    · rw [hx, creepSample_second h1 h2, if_pos ht, if_pos hk]
    · rw [hx, creepSample_second h1 h2, if_pos ht, if_neg (Int.not_le.2 hk), he]; rfl
    · rw [hx, creepSample_second h1 h2, if_pos ht, if_neg (Int.not_le.2 hk), if_pos (Option.isSome_iff_ne_none.2 he),
        settleStep_goesOn]
    · rw [hx, creepSample_third h1 h2 he, if_neg (Nat.not_le.2 ht), settleStep_goesOn]
    · rw [hx, creepSample_third h1 h2 he, if_pos ht, if_pos hk]
    · rw [hx, creepSample_third h1 h2 he, if_pos ht, if_neg (Int.not_le.2 hk)]

end Sys2Proof.Machine
end

section
/-! SUPPORT. Settle intervals, point records, held records and the resume judgment (R75, R77, R78, R80, R88 to R90). -/

namespace Sys2Proof.Machine

open Sys2Proof Sys2Proof.Config

/-! ### Changes of the working data at the value it has -/

section
variable {s : State} {n : Nat}

theorem onWork_congr {f g : Work → Work} (h : f (workOf s n) = g (workOf s n)) : s.onWork n f = s.onWork n g :=
  congrArg (fun w => { s with stress := put s.stress n { stressAt s n with work := w } }) h

theorem onWork_self {f : Work → Work} (h : f (workOf s n) = workOf s n) : s.onWork n f = s :=
  (congrArg (fun w => { s with stress := put s.stress n { stressAt s n with work := w } }) h).trans
    (congrArg (fun v => { s with stress := v }) (put_look s.stress n))

/-! ### Settle intervals (R77, R78) -/

theorem intervalFull_iff {p : SettleParams} (hp : stepOf s n = .holdSettle p) :
    intervalFull s n = true ↔ ∃ d, (workOf s n).settle = some d ∧ p.interval ≤ d.progress := by
  rw [intervalFull, hp]
  cases (workOf s n).settle <;> simp

theorem pastMaximum_iff {s : State} {n : Nat} :
    pastMaximum s n = true ↔ ∃ p, stepOf s n = .holdSettle p ∧ p.maximum ≤ (workOf s n).elapsed := by
  rw [pastMaximum]
  cases stepOf s n <;> simp

/-- R77: the interval that a tick has filled, counted. -/
theorem countInterval_eq {p : SettleParams} (hp : stepOf s n = .holdSettle p) {d : SettleData}
    (hd : (workOf s n).settle = some d) (hf : p.interval ≤ d.progress) :
    let counted := s.onWork n fun w => { w with settle := some { d with progress := 0, count := d.count + 1 } }
    countInterval n s = if p.limit ≤ d.count + 1 then settleStep stepFuel n (counted, .completes false) else counted := by
  have hc : s.onWork n (fun w =>
      { w with settle := w.settle.map fun d => { d with progress := 0, count := d.count + 1 } }) =
        s.onWork n fun w => { w with settle := some { d with progress := 0, count := d.count + 1 } } :=
    onWork_congr (by rw [hd]; rfl)
  rw [countInterval, hc]
  refine if_congr ?_ rfl rfl
  rw [settlesNow, hp, hd]
  simp [hf]

theorem exec_settleInterval (hn : n < 4) (ht : s.tickOpen = true) (hm : (stressAt s n).mode = .running)
    (hf : intervalFull s n = true) : exec (.settleInterval n) s = .next (runPass (countInterval n s)) := by
  have hd : isDue s (.settleInterval n) = true := by
    show (s.tickOpen && decide (n < 4) && inMode s n .running && intervalFull s n) = true
    simp [ht, hn, inMode, hm, hf]
  exact congrArg Host.Outcome.next (if_pos hd)

theorem exec_settleMaximum (hn : n < 4) (ht : s.tickOpen = true) (hm : (stressAt s n).mode = .running)
    (hp : pastMaximum s n = true) (hf : intervalFull s n = false) :
    exec (.settleMaximum n) s = .next (runPass (completeUnsettled n s)) := by
  have hd : isDue s (.settleMaximum n) = true := by
    show (s.tickOpen && decide (n < 4) && inMode s n .running && pastMaximum s n && !intervalFull s n) = true
    simp [ht, hn, inMode, hm, hp, hf]
  exact congrArg Host.Outcome.next (if_pos hd)

/-! ### Settle samples (R77) -/

theorem extensionSample_settle {p : SettleParams} {v : Int} (hh : holdsAnchor s n = true) (hv : v ≤ (bindingOf s n).stroke)
    (hm : (stressAt s n).mode = .running) (hp : stepOf s n = .holdSettle p) :
    extensionSample n v s = s.onWork n (settleSample p v) := by
  rw [extensionSample_of_holds hh, if_neg (Int.not_lt.2 hv), if_pos hm, judgeExtension, hp, settleStep_goesOn]

theorem settleSample_first {p : SettleParams} {v : Int} {w : Work} (h : w.settle = none) : settleSample p v w =
    if p.minimum ≤ w.elapsed then { w with settle := some { reference := v, progress := 0, count := 0 } } else w := by
  rw [settleSample, h]

theorem settleSample_later {p : SettleParams} {v : Int} {w : Work} {d : SettleData} (h : w.settle = some d) :
    settleSample p v w = if (p.band : Int) < (v - d.reference).natAbs then
      { w with settle := some { reference := v, progress := 0, count := 0 } } else w := by
  rw [settleSample, h]

/-! ### Point records (R80, R89) -/

theorem exec_stressPointDue (hn : n < 4) (ht : s.tickOpen = true)
    (hm : (stressAt s n).mode = .running ∨ (stressAt s n).mode = .locking) (hi : 0 < pointInterval s n)
    (hc : pointInterval s n ≤ (workOf s n).pointCounter) :
    exec (.stressPointDue n) s = .next (runPass (stressPoint n s)) := by
  have hd : isDue s (.stressPoint n) = true := by
    show (s.tickOpen && decide (n < 4) && ((inMode s n .running || inMode s n .locking)
      && decide (0 < pointInterval s n) && decide (pointInterval s n ≤ (workOf s n).pointCounter))) = true
    rcases hm with hm | hm <;> simp [ht, hn, inMode, hm, hi, hc]
  exact congrArg Host.Outcome.next (if_pos hd)

theorem stressPoint_written (h : occupancy s.log < 2016) :
    stressPoint n s = zeroPoint n (s.onLog (appendRecord (pointRecord s n))) := if_pos (decide_eq_true h)

theorem stressPoint_full (h : 2016 ≤ occupancy s.log) : stressPoint n s =
    if (stressAt s n).mode = .running then stall n (pointRecord s n) s else zeroPoint n s :=
  if_neg (by rw [ordinaryRoom_of_full h]; nofun)

/-! ### Held records (R90) -/

theorem exec_heldRecordWrite (hn : n < 4) {r : LogRecord}
    (hm : (stressAt s n).mode = .stalled ∨ (stressAt s n).mode = .frozen) (hr : (workOf s n).held = some r)
    (room : occupancy s.log < 2016) : exec (.heldRecordWrite n) s = .next (runPass (heldWritten n r s)) := by
  have hd : isDue s (.heldRecord n) = true := by
    show (decide (n < 4) && ((inMode s n .stalled || inMode s n .frozen) && (workOf s n).held.isSome
      && ordinaryRoom s.log)) = true
    have ho : ordinaryRoom s.log = true := decide_eq_true room
    rcases hm with hm | hm <;> simp [hn, inMode, hm, hr, ho]
  have he : effect s (.heldRecord n) = heldWritten n r s := by
    show writeHeld n s = _
    rw [writeHeld, hr]
  exact congrArg Host.Outcome.next ((if_pos hd).trans (congrArg runPass he))

/-! ### The resume judgment (R88) -/

theorem resume_judges (h : (workOf s n).outcome = none) : resume n s =
    if pastTimeout s n then haltStress n .loadTimeout s
    else if pastMaximum s n then completeUnsettled n s
    else if (workOf s n).startOwing then
      settleStep stepFuel n (startJudgment n (s.onWork n fun w => { w with startOwing := false }))
    else chooseStanding n s := by
  rw [resume, h]

theorem pastTimeout_iff : pastTimeout s n = true ↔
    (∃ p, (stepOf s n = .loadTo p ∨ stepOf s n = .unloadTo p) ∧ p.timeout ≤ (workOf s n).elapsed)
      ∨ ∃ p, stepOf s n = .lockoff p ∧ (workOf s n).progress = some .approach
        ∧ (borrowed s n).timeout ≤ (workOf s n).elapsed := by
  rw [pastTimeout]
  cases stepOf s n <;> simp

theorem pastTimeout_of_maximum (h : pastMaximum s n = true) : pastTimeout s n = false := by
  obtain ⟨p, hp, _⟩ := pastMaximum_iff.1 h
  rw [pastTimeout, hp]

end

/-- Settles O39: each row by what is due, each sample by the timer, the resume by its order of judgments. -/
theorem intervalsPointsAndHeldRecords : Obligations.IntervalsPointsAndHeldRecords := by
  refine ⟨fun s n p hn ht hd hm hp => ⟨fun d hs hf => ?_, fun hmax hpart => ?_⟩, fun s n hn hd => ⟨fun ht hi hc => ?_,
    fun r hr room => ?_⟩, fun s n p v hh hv hp => ⟨fun hm => ?_, fun hm => ?_⟩, fun s n hm ho => ?_⟩
  · have he := exec_settleInterval hn ht hm ((intervalFull_iff hp).2 ⟨d, hs, hf⟩)
    rw [countInterval_eq hp hs hf] at he
    refine ⟨fun hl => ?_, fun hl => ?_⟩
    · rw [he, if_neg (Nat.not_le.2 hl)]
      exact congrArg Host.Outcome.next (runPass_of_none hd)
    · rw [he, if_pos hl]
  · refine exec_settleMaximum hn ht hm (pastMaximum_iff.2 ⟨p, hp, hmax⟩) (Bool.eq_false_iff.2 fun h => ?_)
    obtain ⟨d, hs, hf⟩ := (intervalFull_iff hp).1 h
    exact Nat.not_lt.2 hf (hpart d hs)
  · refine ⟨fun hm room => ?_, fun hm full => ?_, fun hm full => ?_⟩
    · rw [exec_stressPointDue hn ht hm hi hc, stressPoint_written room]
      exact congrArg Host.Outcome.next (runPass_of_none hd)
    · rw [exec_stressPointDue hn ht (.inl hm) hi hc, stressPoint_full full, if_pos hm,
        runPass_of_none ((stall_keeps n _ s).2.2.2.2.1.trans hd)]; rfl
    · rw [exec_stressPointDue hn ht (.inr hm) hi hc, stressPoint_full full, if_neg (by rw [hm]; nofun)]
      exact congrArg Host.Outcome.next (runPass_of_none hd)
  · refine ⟨fun hm => ?_, fun hm => ?_⟩
    · rw [exec_heldRecordWrite hn (.inr hm) hr room, heldWritten, if_neg (by rw [hm]; nofun)]
      exact congrArg Host.Outcome.next (runPass_of_none hd)
    · rw [exec_heldRecordWrite hn (.inl hm) hr room, heldWritten, if_pos hm]
  · exact extensionSample_rests hh hv hm
  · have hx := extensionSample_settle hh hv hm hp
    refine ⟨fun hs ht => ?_, fun hs ht => ?_, fun d hs hb => ?_, fun d hs hb => ?_⟩
    · exact hx.trans (onWork_self ((settleSample_first hs).trans (if_neg (Nat.not_le.2 ht))))
    · exact hx.trans (onWork_congr ((settleSample_first hs).trans (if_pos ht)))
    · exact hx.trans (onWork_self ((settleSample_later hs).trans (if_neg (by omega))))
    · exact hx.trans (onWork_congr ((settleSample_later hs).trans (if_pos (by omega))))
  · have hr := resume_judges ho
    refine ⟨fun late => ?_, fun full => ?_, fun late full hw => ?_, fun late full hw => ?_⟩
    · rw [hr, if_pos (pastTimeout_iff.2 late), haltStress_of_holds (holdsAnchor_of_mode s hm rfl)]
    · have hmax := pastMaximum_iff.2 full
      rw [hr, if_neg (by rw [pastTimeout_of_maximum hmax]; nofun), if_pos hmax]; rfl
    · rw [hr, if_neg (mt pastTimeout_iff.1 late), if_neg (mt pastMaximum_iff.1 full), if_pos hw]
    · rw [hr, if_neg (mt pastTimeout_iff.1 late), if_neg (mt pastMaximum_iff.1 full), if_neg (by rw [hw]; nofun)]

end Sys2Proof.Machine
end

section
/-! SUPPORT. Several halts placed one after the other (R176): the two lists behind them, and who keeps an entry. -/

namespace Sys2Proof.Machine

open Sys2Proof Sys2Proof.Config

/-! ### The lists after several halts -/

/-- R176: the scheduler's lists after halts placed in order. -/
def afterHalts (s : State) (l : List PriorityEntry) (d : Sched) : Sched :=
  { d with
    priority := l.foldl (fun p x => priorityWith s x.node x.command x.origin p) d.priority
    queue := d.queue.filter fun e => l.all fun x => x.node != e.node }

section
variable {s t : State}

theorem ownerOf_of_ring (h : t.ring = s.ring) (a : Nat) : ownerOf t a = ownerOf s a := by rw [ownerOf, h, ownerOf]

theorem priorityWith_of_ring (h : t.ring = s.ring) (node : Nat) (c : Command) (o : Owner) (p : List PriorityEntry) :
    priorityWith t node c o p = priorityWith s node c o p := by
  have hroom : priorityRoom t p = priorityRoom s p := by rw [priorityRoom, priorityRoom]; simp only [ownerOf_of_ring h]
  rw [priorityWith, priorityWith, hroom]

theorem afterHalts_of_ring (h : t.ring = s.ring) (l : List PriorityEntry) (d : Sched) : afterHalts t l d = afterHalts s l d := by
  rw [afterHalts, afterHalts]
  simp only [priorityWith_of_ring h]

theorem afterHalts_nil (s : State) (d : Sched) : afterHalts s [] d = d := by
  have hq : (d.queue.filter fun e => ([] : List PriorityEntry).all fun x => x.node != e.node) = d.queue :=
    List.filter_eq_self.2 fun _ _ => rfl
  rw [afterHalts, hq]; rfl

theorem afterHalts_append (s : State) (a b : List PriorityEntry) (d : Sched) :
    afterHalts s (a ++ b) d = afterHalts s b (afterHalts s a d) := by
  rw [afterHalts, afterHalts, afterHalts, List.foldl_append]
  simp only [List.filter_filter, List.all_append, Bool.and_comm]

theorem schedAfterHalt_eq (s : State) (node : Nat) (c : Command) (o : Owner) :
    schedAfterHalt s node c o = afterHalts s [{ node := node, command := c, origin := o }] s.sched := by
  have hq : (s.sched.queue.filter fun e => !(e.node == node)) = s.sched.queue.filter fun e =>
      [({ node := node, command := c, origin := o } : PriorityEntry)].all fun x => x.node != e.node :=
    congrArg (fun p => List.filter p s.sched.queue) (funext fun e => by
      simp only [List.all_cons, List.all_nil, Bool.and_true, bne, Bool.beq_comm])
  rw [schedAfterHalt, afterHalts, hq]; rfl

/-! ### Entries of owned nodes stay (R176) -/

/-- The entry that a halt places is in the list. -/
theorem mem_priorityWith_self (s : State) (x : PriorityEntry) (p : List PriorityEntry) :
    x ∈ priorityWith s x.node x.command x.origin p := by
  unfold priorityWith; split
  case isTrue h =>
    obtain ⟨e, he, hn⟩ := List.any_eq_true.1 h
    exact List.mem_map.2 ⟨e, he, by rw [if_pos hn]; cases x; cases beq_iff_eq.1 hn; rfl⟩
  case isFalse => exact List.mem_append_right _ (List.mem_singleton.2 rfl)

/-- An entry of an owned node leaves the list only for a later halt of the same node. -/
theorem mem_priorityWith_of_owned {x y : PriorityEntry} {p : List PriorityEntry} (hx : x ∈ p)
    (ho : (ownerOf s x.node).isSome = true) (h : y.node = x.node → y = x) :
    x ∈ priorityWith s y.node y.command y.origin p := by
  by_cases hy : y.node = x.node
  · rw [h hy]; exact mem_priorityWith_self s x p
  · unfold priorityWith; split
    · exact List.mem_map.2 ⟨x, hx, if_neg fun hb => hy (beq_iff_eq.1 hb).symm⟩
    · refine List.mem_append_left _ ?_
      unfold priorityRoom; split
      · exact hx
      · refine (List.mem_eraseP_of_neg fun hn => ?_).2 hx
        rw [Option.isNone_iff_eq_none.1 hn] at ho; cases ho

theorem mem_foldl_priorityWith_of_owned {x : PriorityEntry} (ho : (ownerOf s x.node).isSome = true) :
    ∀ {l : List PriorityEntry} {p : List PriorityEntry}, x ∈ p → (∀ y ∈ l, y.node = x.node → y = x) →
      x ∈ l.foldl (fun p y => priorityWith s y.node y.command y.origin p) p
  | [], _, hx, _ => hx
  | y :: l, _, hx, h => mem_foldl_priorityWith_of_owned ho
      (l := l) (mem_priorityWith_of_owned hx ho (h y List.mem_cons_self)) fun z hz => h z (List.mem_cons_of_mem y hz)

/-- R176: of several halts, the only one of an owned node is in the list. -/
theorem mem_afterHalts {x : PriorityEntry} (ho : (ownerOf s x.node).isSome = true) {d : Sched} :
    ∀ {l : List PriorityEntry}, x ∈ l → (∀ y ∈ l, y.node = x.node → y = x) → x ∈ (afterHalts s l d).priority := by
  intro l hx h
  obtain ⟨front, back, rfl⟩ := List.append_of_mem hx
  rw [afterHalts, List.foldl_append, List.foldl_cons]
  exact mem_foldl_priorityWith_of_owned ho (mem_priorityWith_self s x _) fun y hy => h y (by simp [hy])

end

end Sys2Proof.Machine
end

section
/-! SUPPORT. The part becomes frozen (R146, R87, R107, R129), and the trip counters take an observation (R143 to R145). -/

namespace Sys2Proof.Machine

open Sys2Proof Sys2Proof.Config

/-! ### The stressing channels freeze (R87, R107) -/

/-- R87, R107: a channel after the part has become frozen. -/
def frozenChannel (c : Stress) : Stress :=
  match c.mode with
  | .running => { c with mode := .frozen, work := { c.work with commanded := some .hold } }
  | .stalled => { c with mode := .frozen, work := { c.work with commanded := some .hold } }
  | .locking => { c with work := { c.work with deferredFreeze := true } }
  | _ => c

/-- R87: the freeze stops the channel's jack. -/
def freezeStops (s : State) (n : Nat) : Bool := (stressAt s n).mode == .running || (stressAt s n).mode == .stalled

/-- R87: the JACK_HOLD of a channel that the freeze stops. -/
def jackStop (s : State) (n : Nat) : PriorityEntry := { node := (bindingOf s n).jack, command := .jackHold, origin := .sc n }

/-- R87: the JACK_HOLDs that a freeze places for some channels. -/
def jackStops (s : State) (l : List Nat) : List PriorityEntry := (l.filter (freezeStops s)).map (jackStop s)

section
variable {s : State} {n : Nat}

theorem onStress_onStress (hn : n < 4) (f g : Stress → Stress) :
    (s.onStress n f).onStress n g = s.onStress n fun c => g (f c) := by
  simp only [State.onStress, put_put, look_put_same _ _ _ hn]

theorem frozenChannel_of_stopped {c : Stress} (h : c.mode = .running ∨ c.mode = .stalled) :
    frozenChannel c = { c with mode := .frozen, work := { c.work with commanded := some .hold } } := by
  rcases h with h | h <;> rw [frozenChannel, h]

theorem frozenChannel_of_locking {c : Stress} (h : c.mode = .locking) :
    frozenChannel c = { c with work := { c.work with deferredFreeze := true } } := by rw [frozenChannel, h]

theorem frozenChannel_of_rest {c : Stress} (h : c.mode = .idle ∨ c.mode = .unbound ∨ c.mode = .frozen) :
    frozenChannel c = c := by
  rcases h with h | h | h <;> rw [frozenChannel, h]

theorem freezeStops_iff : freezeStops s n = true ↔ (stressAt s n).mode = .running ∨ (stressAt s n).mode = .stalled := by
  rw [freezeStops, Bool.or_eq_true, beq_iff_eq, beq_iff_eq]

theorem jackStops_of_stopped (h : freezeStops s n = true) : jackStops s [n] = [jackStop s n] := by
  rw [jackStops, List.filter_cons_of_pos h]; rfl

theorem jackStops_of_rest (h : ¬freezeStops s n = true) : jackStops s [n] = [] := by
  rw [jackStops, List.filter_cons_of_neg h]; rfl

/-- R87: a channel stopped by the freeze. -/
theorem holdByPriority_frozen (hn : n < 4) : holdByPriority n (s.setMode n .frozen) =
    { s with
      stress := put s.stress n { stressAt s n with mode := .frozen, work := { workOf s n with commanded := some .hold } }
      sched := afterHalts s [jackStop s n] s.sched } := by
  have hb : bindingOf (s.setMode n .frozen) n = bindingOf s n := by
    rw [bindingOf, State.setMode, stressAt_onStress_same hn, bindingOf]
  have hs : afterHalts (s.setMode n .frozen) [jackStop s n] s.sched = afterHalts s [jackStop s n] s.sched :=
    afterHalts_of_ring rfl _ _
  have ht := onStress_onStress (s := s) hn (fun c => { c with mode := .frozen })
    fun c => { c with work := { c.work with commanded := some .hold } }
  rw [holdByPriority, hb, placeHalt_sc, schedAfterHalt_eq, ← hs]
  exact congrArg (fun t : State => { t with sched := afterHalts (s.setMode n .frozen) [jackStop s n] s.sched }) ht

theorem freezeStress_eq (hn : n < 4) : freezeStress s n =
    { s with
      stress := put s.stress n (frozenChannel (stressAt s n))
      sched := afterHalts s (jackStops s [n]) s.sched } := by
  by_cases hf : freezeStops s n = true
  · rw [jackStops_of_stopped hf, frozenChannel_of_stopped (freezeStops_iff.1 hf)]
    refine Eq.trans ?_ (holdByPriority_frozen hn)
    unfold freezeStress
    rcases freezeStops_iff.1 hf with hm | hm <;> rw [hm]
  · rw [jackStops_of_rest hf, afterHalts_nil]
    rw [freezeStops_iff, not_or] at hf
    unfold freezeStress
    cases hm : (stressAt s n).mode with
    | running => exact absurd hm hf.1
    | stalled => exact absurd hm hf.2
    | locking => rw [frozenChannel_of_locking hm]; rfl
    | frozen => rw [frozenChannel_of_rest (.inr (.inr hm)), stressAt, put_look]
    | idle => rw [frozenChannel_of_rest (.inl hm), stressAt, put_look]
    | unbound => rw [frozenChannel_of_rest (.inr (.inl hm)), stressAt, put_look]

end

/-- The freeze of some channels, each once: each of them frozen, and their JACK_HOLDs placed in order. -/
theorem foldl_freezeStress : ∀ (l : List Nat) (s : State), l.Nodup → (∀ n ∈ l, n < 4) →
    l.foldl freezeStress s =
        { s with stress := (l.foldl freezeStress s).stress, sched := afterHalts s (jackStops s l) s.sched }
      ∧ ∀ n, stressAt (l.foldl freezeStress s) n = if n ∈ l then frozenChannel (stressAt s n) else stressAt s n
  | [], s, _, _ => ⟨by
      rw [List.foldl_nil, jackStops, List.filter_nil, List.map_nil, afterHalts_nil], fun _ => rfl⟩
  | a :: l, s, hd, hl => by
    obtain ⟨ha, hd⟩ := List.nodup_cons.1 hd
    have h4 : a < 4 := hl a List.mem_cons_self
    obtain ⟨hs, hc⟩ := foldl_freezeStress l (freezeStress s a) hd fun n hn => hl n (List.mem_cons_of_mem a hn)
    have ht := freezeStress_eq (s := s) h4
    have same : stressAt (freezeStress s a) a = frozenChannel (stressAt s a) := by
      rw [ht]; exact stressAt_onStress_same (s := s) h4 frozenChannel
    have other (n : Nat) (h : n ≠ a) : stressAt (freezeStress s a) n = stressAt s n := by
      rw [ht]; exact stressAt_onStress_other (s := s) h frozenChannel
    have stops : jackStops (freezeStress s a) l = jackStops s l := by
      rw [jackStops, jackStops]
      have hf : l.filter (freezeStops (freezeStress s a)) = l.filter (freezeStops s) := List.filter_congr fun n hn => by
        rw [freezeStops, other n fun h => ha (h ▸ hn), freezeStops]
      rw [hf]
      refine List.map_congr_left fun n hn => ?_
      rw [jackStop, bindingOf, other n fun h => ha (h ▸ (List.mem_filter.1 hn).1), jackStop, bindingOf]
    have split : jackStops s (a :: l) = jackStops s [a] ++ jackStops s l := by
      rw [jackStops, jackStops, jackStops, ← List.map_append, ← List.filter_append]; rfl
    refine ⟨?_, fun n => ?_⟩
    · rw [List.foldl_cons, hs, stops, split, afterHalts_append]
      rw [afterHalts_of_ring (t := freezeStress s a) (s := s) (by rw [ht]), ht]
    · rw [List.foldl_cons, hc]
      by_cases hn : n = a
      · subst hn
        rw [if_neg ha, if_pos List.mem_cons_self, same]
      · rw [other n hn]
        exact if_congr (by rw [List.mem_cons, or_iff_right hn]) rfl rfl

theorem stressAt_of_le {s : State} {n : Nat} (h : 4 ≤ n) : (stressAt s n).mode = .unbound := by
  rw [stressAt, look_of_le _ _ h]; rfl

/-- R87, R107: every channel after the freeze. -/
theorem stressAt_freezeAll (s : State) (n : Nat) :
    stressAt (channels4.foldl freezeStress s) n = frozenChannel (stressAt s n) := by
  rw [(foldl_freezeStress channels4 s (by decide) (by decide)).2 n]
  by_cases hn : n < 4
  · exact if_pos (List.mem_range.2 hn)
  · rw [frozenChannel_of_rest (.inr (.inl (stressAt_of_le (Nat.le_of_not_lt hn)))), ite_self]

/-! ### The placement unit pauses (R129) -/

/-- R129: the placement unit after the part has become frozen. -/
def frozenUnit (u : Placement) : Placement :=
  match u.mode with
  | .winching =>
    { u with mode := .paused, winchCommand := some .stop, run := u.run.map fun r => { r with pausedFrom := some .winching } }
  | .grouting =>
    { u with mode := .paused, pumpCommand := some .stop, run := u.run.map fun r => { r with pausedFrom := some .grouting } }
  | _ => u

/-- R129: the stop that the freeze places for the placement unit. -/
def driveStops (s : State) : List PriorityEntry :=
  match s.placement.mode with
  | .winching => [{ node := (placementConfig s).winchNode, command := .winchStop, origin := .pu }]
  | .grouting => [{ node := (placementConfig s).pumpNode, command := .pumpStop, origin := .pu }]
  | _ => []

theorem pausePlacement_eq (s : State) : pausePlacement s =
    { s with placement := frozenUnit s.placement, sched := afterHalts s (driveStops s) s.sched } := by
  have rests (h : driveStops s = []) (hu : frozenUnit s.placement = s.placement) :
      s = { s with placement := frozenUnit s.placement, sched := afterHalts s (driveStops s) s.sched } := by
    rw [h, hu, afterHalts_nil]
  unfold pausePlacement
  cases hm : s.placement.mode <;> dsimp only
  case winching =>
    rw [stopByPriority_eq, schedAfterHalt_eq, driveStops, frozenUnit, hm]; rfl
  case grouting =>
    rw [stopByPriority_eq, schedAfterHalt_eq, driveStops, frozenUnit, hm]; rfl
  case idle => exact rests (by rw [driveStops, hm]) (by rw [frozenUnit, hm])
  case paused => exact rests (by rw [driveStops, hm]) (by rw [frozenUnit, hm])

/-! ### The whole change (R146) -/

/-- R146: every halt that a freeze places. -/
def freezeHalts (s : State) : List PriorityEntry := jackStops s channels4 ++ driveStops s

/-- R146: becoming frozen as one record update. -/
theorem becomeFrozen_eq (detail : Nat) (s : State) : becomeFrozen detail s =
    { s with
      trip := { s.trip with frozen := true }
      stress := (channels4.foldl freezeStress (s.onTrip fun t => { t with frozen := true })).stress
      sched := afterHalts s (freezeHalts s) s.sched
      placement := frozenUnit s.placement
      log := reserveLog (freezeRecord s 0 detail) s.log } := by
  have hf := (foldl_freezeStress channels4 (s.onTrip fun t => { t with frozen := true }) (by decide) (by decide)).1
  rw [becomeFrozen]
  generalize channels4.foldl freezeStress (s.onTrip fun t => { t with frozen := true }) = u at hf ⊢
  rw [pausePlacement_eq, writeReserve_eq, hf, freezeHalts, afterHalts_append]
  rfl

theorem stressAt_becomeFrozen (detail : Nat) (s : State) (n : Nat) :
    stressAt (becomeFrozen detail s) n = frozenChannel (stressAt s n) := by
  rw [becomeFrozen_eq]
  exact stressAt_freezeAll (s.onTrip fun t => { t with frozen := true }) n

end Sys2Proof.Machine
end

section
/-! SUPPORT. The trip counters take an observation (R143 to R146), and the part frozen, settled. -/

namespace Sys2Proof.Machine

open Sys2Proof Sys2Proof.Config

/-! ### One counter and one observation -/

/-- R143, R144: the counter counts the observation. -/
theorem judgeCounter_counts (o : Observation) (c : Counter) : (judgeCounter o c).1 = (c.enabled &&
    match c.source, o with
    | some (.channel m t inv edge), .sample m' v =>
      m == m' && (if inv then decide (v < t) else decide (t ≤ v)) && (!edge || !c.previous)
    | some (.events x mask), .event x' k => x == x' && mask.testBit (eventIndex k)
    | some .ringError, .ringError => true
    | some .gaugeFault, .gaugeFault => true
    | _, _ => false) := by
  obtain ⟨enabled, source, freezeEnable, value, overflow, previous⟩ := c
  cases source with
  | none => cases enabled <;> rfl
  | some source =>
    cases source with
    | channel m t inv edge =>
      cases o with
      | sample m' v =>
        cases enabled with
        | false => rfl
        | true => by_cases hm : m = m' <;> simp [judgeCounter, hm, qualifies]
      | _ => cases enabled <;> rfl
    | _ => cases o <;> cases enabled <;> rfl

/-- R144: previous-qualified after the observation. -/
theorem judgeCounter_previous (o : Observation) (c : Counter) : (judgeCounter o c).2 =
    (match c.source, o with
      | some (.channel m t inv _), .sample m' v => if c.enabled = true ∧ m = m' then
          some (if inv then decide (v < t) else decide (t ≤ v)) else none
      | _, _ => none : Option Bool).getD c.previous := by
  obtain ⟨enabled, source, freezeEnable, value, overflow, previous⟩ := c
  cases source with
  | none => cases enabled <;> rfl
  | some source =>
    cases source with
    | channel m t inv edge =>
      cases o with
      | sample m' v =>
        cases enabled with
        | false => rfl
        | true => by_cases hm : m = m' <;> simp [judgeCounter, hm, qualifies]
      | _ => cases enabled <;> rfl
    | _ => cases o <;> cases enabled <;> rfl

section
variable {frozen : Bool} {o : Observation} {c : Counter}

theorem observeCounter_still (h : frozen = true ∨ (judgeCounter o c).1 = false) :
    observeCounter frozen o c = { c with previous := (judgeCounter o c).2 } := by
  rw [observeCounter]
  exact if_neg (by rcases h with h | h <;> simp [h])

theorem observeCounter_raised (hf : frozen = false) (h : (judgeCounter o c).1 = true) :
    observeCounter frozen o c = raise { c with previous := (judgeCounter o c).2 } := by
  rw [observeCounter]
  exact if_pos (by simp [hf, h])

theorem raise_below (h : c.value < 65535) : raise c = { c with value := c.value + 1 } := if_neg (Nat.ne_of_lt h)

theorem raise_full (h : c.value = 65535) : raise c = { c with value := 0, overflow := true } := if_pos h

/-- An observation moves the value, the mark and previous-qualified of a counter, and nothing else. -/
theorem observeCounter_eq (frozen : Bool) (o : Observation) (c : Counter) : observeCounter frozen o c =
    { c with
      previous := (judgeCounter o c).2, value := (observeCounter frozen o c).value
      overflow := (observeCounter frozen o c).overflow } := by
  by_cases h : frozen = false ∧ (judgeCounter o c).1 = true
  · rw [observeCounter_raised h.1 h.2, raise]
    split <;> rfl
  · rw [observeCounter_still (by
      rcases Bool.eq_false_or_eq_true frozen with hf | hf
      · exact .inl hf
      · exact .inr (Bool.eq_false_iff.2 fun hj => h ⟨hf, hj⟩))]

end

/-! ### The part and one observation -/

section
variable {o : Observation} {s : State}

/-- R143: the counters after the observation, before the part becomes frozen. -/
def observed (o : Observation) (s : State) : State :=
  s.onTrip fun t => { t with counters := t.counters.map (observeCounter s.trip.frozen o) }

theorem observe_eq (o : Observation) (s : State) : observe o s =
    match counters8.find? fun q => trips s.trip.frozen o (counterAt s q) with
    | some q => becomeFrozen (48 + q) (observed o s)
    | none => observed o s := rfl

theorem trips_iff {c : Counter} : trips s.trip.frozen o c = true ↔
    s.trip.frozen = false ∧ c.freezeEnable = true ∧ (judgeCounter o c).1 = true ∧ c.value = 65535 := by
  simp [trips, and_assoc]

theorem becomeFrozen_counters (detail : Nat) (s : State) : (becomeFrozen detail s).trip = { s.trip with frozen := true } := by
  rw [becomeFrozen_eq]

theorem observe_counters (o : Observation) (s : State) : (observe o s).trip.counters = (observed o s).trip.counters := by
  rw [observe_eq]
  split
  · rw [becomeFrozen_counters]
  · rfl

theorem counterAt_observe {q : Nat} (h : q < 8) :
    counterAt (observe o s) q = observeCounter s.trip.frozen o (counterAt s q) := by
  rw [counterAt, observe_counters]
  exact look_map _ _ q h

/-- The counters are all that an observation without an overflow changes. -/
theorem observed_eq (o : Observation) (s : State) :
    observed o s = { s with trip := { s.trip with counters := (observe o s).trip.counters } } := by
  rw [observe_counters]; rfl

theorem observe_quiet (h : ∀ q, q < 8 → ¬trips s.trip.frozen o (counterAt s q) = true) : observe o s = observed o s := by
  have hf : counters8.find? (fun q => trips s.trip.frozen o (counterAt s q)) = none :=
    List.find?_eq_none.2 fun q hq => h q (List.mem_range.1 hq)
  rw [observe_eq, hf]

/-- R146: the lowest numbered counter that overflows names the freeze. -/
theorem observe_trips {q : Nat} (h : q < 8) (hq : trips s.trip.frozen o (counterAt s q) = true)
    (hp : ∀ p, p < q → ¬trips s.trip.frozen o (counterAt s p) = true) :
    observe o s = becomeFrozen (48 + q) (observed o s) := by
  have hf : counters8.find? (fun q => trips s.trip.frozen o (counterAt s q)) = some q := by
    rw [counters8, List.find?_range_eq_some]
    exact ⟨hq, List.mem_range.2 h, fun p hlt => by rw [Bool.not_eq_true', Bool.eq_false_iff]; exact hp p hlt⟩
  rw [observe_eq, hf]

theorem observe_frozen : (observe o s).trip.frozen = true ↔
    s.trip.frozen = true ∨ ∃ q, q < 8 ∧ trips s.trip.frozen o (counterAt s q) = true := by
  rw [observe_eq]
  split
  case h_1 q hq =>
    rw [becomeFrozen_counters]
    have ht := List.find?_some hq
    exact iff_of_true rfl (.inr ⟨q, List.mem_range.1 (List.mem_of_find?_eq_some hq), ht⟩)
  case h_2 hn =>
    refine ⟨fun h => .inl h, fun h => h.elim id fun ⟨q, hq, ht⟩ => ?_⟩
    exact absurd ht (List.find?_eq_none.1 hn q (List.mem_range.2 hq))

end

/-- Settles O45: each counter for itself, the first overflow, and the freeze as one record update. -/
theorem observationsCountAndFreezeThePart : Obligations.ObservationsCountAndFreezeThePart := by
  refine ⟨fun o s => ?_, fun s detail => ?_⟩
  · intro qualified counts judged overflows
    have hcounts (c : Counter) : counts c = (judgeCounter o c).1 := (judgeCounter_counts o c).symm
    have hjudged (c : Counter) : (judged c).getD c.previous = (judgeCounter o c).2 := (judgeCounter_previous o c).symm
    have htrips (q : Nat) : trips s.trip.frozen o (counterAt s q) = true ↔ s.trip.frozen = false ∧ overflows q := by
      rw [trips_iff, ← hcounts]
    refine ⟨fun q hq => ?_, ?_, fun q hq hf ho hp => ?_, fun h => ?_⟩
    · dsimp only
      rw [counterAt_observe hq, hjudged, hcounts]
      refine ⟨fun h => ?_, fun hf hc hv => ?_, fun hf hc hv => ?_, observeCounter_eq _ _ _⟩
      · rw [observeCounter_still h]; exact ⟨rfl, rfl⟩
      · rw [observeCounter_raised hf hc, raise_below (by exact hv)]; exact ⟨rfl, rfl⟩
      · rw [observeCounter_raised hf hc, raise_full (by exact hv)]; exact ⟨rfl, rfl⟩
    · rw [observe_frozen]
      simp only [htrips]
      cases s.trip.frozen <;> simp
    · rw [← observed_eq]
      exact observe_trips hq ((htrips q).2 ⟨hf, ho⟩) fun p hlt ht => hp p hlt ((htrips p).1 ht).2
    · rw [← observed_eq]
      refine observe_quiet fun q hq ht => ?_
      obtain ⟨hf, ho⟩ := (htrips q).1 ht
      exact h.elim (fun h => by rw [hf] at h; cases h) fun h => h q hq ho
  · have ht := becomeFrozen_eq detail s
    have hc := stressAt_becomeFrozen detail s
    refine ⟨?_, fun n _ hm => ?_, fun n _ hm => ?_, fun n hm => ?_, fun hm => ?_, fun hm => ?_, fun hm => ?_, ?_,
      fun x hx ho hu => ?_, ?_⟩
    · rw [ht]
    · rw [hc, frozenChannel_of_stopped hm]; rfl
    · rw [hc, frozenChannel_of_locking hm]; rfl
    · rw [hc, frozenChannel_of_rest hm]
    · rw [ht, frozenUnit, hm]
    · rw [ht, frozenUnit, hm]
    · rw [ht]
      rcases hm with hm | hm <;> rw [frozenUnit, hm]
    · rw [ht]; rfl
    · have hm := mem_afterHalts (s := s) ho (d := s.sched) (l := freezeHalts s) hx hu
      rw [ht]; exact hm
    · rw [ht]; rfl

end Sys2Proof.Machine
end

section
/-! SUPPORT. What the acts of one stressing channel leave of the others, and what the placement unit's runs leave of the
channels and of the trip counters. -/

namespace Sys2Proof.Machine

open Sys2Proof Sys2Proof.Config

/-! ### Acts of one channel beside the others -/

/-- The change leaves every stressing channel but `n` as it was. -/
def Beside (n : Nat) (s t : State) : Prop := ∀ m, m ≠ n → stressAt t m = stressAt s m

section
variable {n : Nat} {s t u : State}

theorem Beside.refl (n : Nat) (s : State) : Beside n s s := fun _ _ => rfl

theorem Beside.trans (h : Beside n s t) (k : Beside n t u) : Beside n s u := fun m hm => (k m hm).trans (h m hm)

theorem Beside.after (k : Beside n t u) (h : Beside n s t) : Beside n s u := h.trans k

theorem Beside.of_stress (n : Nat) (h : t.stress = s.stress) : Beside n s t := fun m _ => stressAt_of_stress h m

end

section
variable (s : State) (n : Nat)

theorem beside_onStress (f : Stress → Stress) : Beside n s (s.onStress n f) := fun _ hm => stressAt_onStress_other hm f

theorem beside_onWork (f : Work → Work) : Beside n s (s.onWork n f) := beside_onStress s n _

theorem beside_wantMotion (m : Motion) : Beside n s (wantMotion n m s) := by
  obtain ⟨c, b, d, h⟩ := motionOnly_wantMotion n m s
  rw [h]
  exact beside_onWork s n (moved c b)

theorem beside_writeOrDrop (r : LogRecord) : Beside n s (writeOrDrop r s) := by
  rw [writeOrDrop_eq]; exact .refl n s

theorem beside_writeReserve (r : LogRecord) : Beside n s (writeReserve r s) := by
  rw [writeReserve_eq]; exact .refl n s

theorem beside_placeHalt (node : Nat) (c : Command) (o : Owner) : Beside n s (placeHalt node c o s) := by
  obtain ⟨w, p, h⟩ := placeHalt_frame node c o s
  rw [h]; exact .refl n s

theorem beside_present (node : Nat) (c : Command) (o : Owner) : Beside n s (present node c o s) := by
  unfold present; split <;> exact .refl n s

theorem beside_haltRun (cause : HaltCause) : Beside n s (haltRun n cause s) := by
  rw [haltRun_eq]
  exact fun _ hm => leaveAnchor_other s hm

theorem beside_haltStress (cause : HaltCause) : Beside n s (haltStress n cause s) := by
  unfold haltStress; split
  · exact beside_haltRun s n cause
  · exact .refl n s

theorem beside_openWindow (p : LockParams) : Beside n s (openWindow n p s) := by
  unfold openWindow; dsimp only
  split
  · exact (beside_writeOrDrop _ n _).after (beside_onStress s n _)
  · exact (beside_haltRun _ n _).after ((beside_writeOrDrop _ n _).after (beside_onStress s n _))

theorem beside_presentSeat : Beside n s (presentSeat n s) := by
  unfold presentSeat; split
  · split
    · exact (beside_openWindow _ n _).after (beside_present s n _ _ _)
    · exact .refl n s
  · exact .refl n s

theorem beside_chooseDirection (f : Int) (ok : Bool) : Beside n s (chooseDirection n f ok s) := by
  unfold chooseDirection; split
  · split
    · exact beside_onWork s n _
    · exact .refl n s
  · exact .refl n s

theorem beside_choose (f : Int) (ok : Bool) : Beside n s (choose n f ok s) := by
  unfold choose; dsimp only
  refine (beside_chooseDirection s n f ok).trans ?_
  split
  · exact (beside_presentSeat _ n).after (beside_wantMotion _ n _)
  · exact beside_presentSeat _ n

theorem beside_chooseStanding : Beside n s (chooseStanding n s) := by
  unfold chooseStanding; dsimp only; split
  · exact beside_choose s n _ _
  · exact .refl n s

theorem beside_holdAtStart (f : Int) : Beside n s (holdAtStart n f s) := by
  unfold holdAtStart; split
  · exact beside_onWork s n _
  · exact .refl n s

theorem beside_startChoice : Beside n s (startChoice n s) := by
  unfold startChoice; dsimp only; split
  · exact (beside_choose _ n _ _).after ((beside_holdAtStart _ n _).after (beside_chooseDirection s n _ _))
  · exact .refl n s

/-! ### Cell requests and outcomes -/

theorem beside_onAnchor (i : Nat) (f : Anchor → Anchor) : Beside n s (s.onAnchor i f) := .of_stress n rfl

theorem beside_judgeOutcome (o : OutcomeRecord) : Beside n s (judgeOutcome n o s).1 := by
  unfold judgeOutcome
  split
  · split
    · exact beside_haltStress s n _
    · dsimp only; split
      · exact beside_onAnchor s n _ _
      · exact (beside_haltStress _ n _).after (beside_onAnchor s n _ _)
  · split
    · exact beside_haltStress s n _
    · dsimp only; split
      · exact beside_onAnchor s n _ _
      · split <;> exact beside_onAnchor s n _ _
  · exact .refl n s

theorem beside_recordOutcome (o : CellOutcome) (r : Option CellReading) : Beside n s (recordOutcome n o r s).1 := by
  unfold recordOutcome; dsimp only; split
  · exact (beside_judgeOutcome _ n _).after (beside_onWork s n _)
  · exact beside_onWork s n _

theorem beside_joinRequest (c : Nat) (f : CellRequest → CellRequest) : Beside n s (joinRequest c f s) :=
  .of_stress n (searchCells_stress _)

theorem beside_requestCell : Beside n s (requestCell n s).1 := by
  unfold requestCell; dsimp only; split
  · exact beside_recordOutcome s n _ _
  · exact (beside_joinRequest _ n _ _).after (beside_onWork s n _)

/-! ### Steps -/

theorem beside_leaveAnchor : Beside n s (leaveAnchor n s) := fun _ hm => leaveAnchor_other s hm

theorem beside_giveVerdict : Beside n s (giveVerdict n s) := by
  unfold giveVerdict; dsimp only
  have h (t : State) : Beside n t
      (leaveAnchor n (verdictAnchor (slotOf s n) (workOf s n).pendingCause (writeReserve (verdictRecord s n) t))) :=
    (beside_leaveAnchor _ n).after ((beside_onAnchor _ n _ _).after (beside_writeReserve t n _))
  split
  · exact h s
  · exact (h _).after (beside_placeHalt s n _ _ _)

theorem beside_apparentStep : Beside n s (apparentStep n s).1 := by
  unfold apparentStep; dsimp only; split
  · exact beside_onAnchor s n _ _
  · exact .refl n s

theorem beside_startJudgment : Beside n s (startJudgment n s).1 := by
  unfold startJudgment; split
  · exact beside_startChoice s n
  · exact beside_startChoice s n
  · exact beside_startChoice s n
  · exact beside_startChoice s n
  · exact beside_apparentStep s n
  · exact (beside_requestCell _ n).after (beside_wantMotion s n _)
  · exact beside_startChoice s n
  · exact beside_giveVerdict s n

theorem beside_endStep (e : StepEnd) : Beside n s (endStep n e s) := (endStep_keeps n e s).2.2.2.2.2.2

end

theorem beside_settleStep (n : Nat) : ∀ (fuel : Nat) (p : State × StepEnd), Beside n p.1 (settleStep fuel n p)
  | 0, (s, _) => .refl n s
  | fuel + 1, (s, e) => by
    unfold settleStep; dsimp only; split
    · exact .refl n s
    · refine (beside_endStep s n e).trans ?_
      split
      · exact (beside_settleStep n fuel _).after (beside_startJudgment _ n)
      · exact beside_onWork _ n _

section
variable (s : State) (n : Nat)

/-! ### Resumes, the thaw and the start of a test -/

theorem beside_resume : Beside n s (resume n s) := by
  unfold resume; split
  · exact (beside_settleStep n _ _).after (beside_judgeOutcome s n _)
  · split
    · exact beside_haltStress s n _
    · split
      · exact beside_settleStep n _ (s, _)
      · split
        · exact (beside_settleStep n _ _).after ((beside_startJudgment _ n).after (beside_onWork s n _))
        · exact beside_chooseStanding s n

theorem beside_thawStress : Beside n s (thawStress s n) := by
  unfold thawStress; split
  · split
    · exact (beside_wantMotion _ n _).after (beside_onStress s n _)
    · exact (beside_resume _ n).after (beside_onStress s n _)
  · exact .refl n s

theorem beside_admitTo (slot : Nat) : Beside n s (admitTo n slot s) := by
  rw [admitTo_eq]
  have hb : Beside n s (begun n slot s) := by
    unfold begun enterStep taken
    refine (beside_onWork _ n _).after ((beside_onWork _ n _).after (Beside.after (t := (admitAnchor slot s).onStress n fun c =>
      { c with mode := .running, work := { Work.clear with slot := some slot } }) ?_ ?_))
    · exact (writeOrHold_keeps n _ _).2.2.2.2
    · exact (beside_onStress _ n _).after (.of_stress n rfl)
  split
  · exact (beside_haltRun _ n _).after hb
  · split
    · exact (beside_settleStep n _ _).after ((beside_startJudgment _ n).after hb)
    · exact (beside_onWork _ n _).after hb

end

/-! ### A hand-out pass leaves every channel that is not IDLE -/

theorem stressAt_passLoop {n : Nat} : ∀ (fuel : Nat) (s : State), (stressAt s n).mode ≠ .idle →
    stressAt (passLoop fuel s) n = stressAt s n
  | 0, _, _ => rfl
  | fuel + 1, s, h => by
    unfold passLoop; split
    case h_1 m slot hn =>
      have hm : canReceive s m = true := by
        unfold nextHandOut at hn
        split at hn
        case h_1 _ _ _ hf => cases hn; exact List.find?_some hf
        case h_2 => cases hn
      have hidle : (stressAt s m).mode = .idle := by
        rw [canReceive, Bool.and_eq_true, beq_iff_eq] at hm; exact hm.1
      have hs : stressAt (admitTo m slot s) n = stressAt s n :=
        beside_admitTo s m slot n fun he => h (he ▸ hidle)
      rw [stressAt_passLoop fuel _ (by rw [hs]; exact h), hs]
    case h_2 => rfl

theorem stressAt_afterPass {s : State} {n : Nat} (h : (stressAt s n).mode ≠ .idle) :
    stressAt (afterPass s) n = stressAt s n := by
  show stressAt (handOut s) n = _
  unfold handOut; split
  · exact stressAt_passLoop _ s h
  · rfl

/-! ### The placement unit's runs leave the channels and the trip counters -/

/-- The change leaves the stressing channels and the trip counters as they were. -/
structure RunFrame (s t : State) : Prop where
  stress : t.stress = s.stress
  trip : t.trip = s.trip

section
variable {s t u : State}

theorem RunFrame.refl (s : State) : RunFrame s s := ⟨rfl, rfl⟩

theorem RunFrame.after (k : RunFrame t u) (h : RunFrame s t) : RunFrame s u :=
  ⟨k.stress.trans h.stress, k.trip.trans h.trip⟩

variable (s)

theorem run_onPlacement (f : Placement → Placement) : RunFrame s (s.onPlacement f) := ⟨rfl, rfl⟩

theorem run_writeOrDrop (r : LogRecord) : RunFrame s (writeOrDrop r s) := by rw [writeOrDrop_eq]; exact ⟨rfl, rfl⟩

theorem run_driveChoice (p : RunPhase) : RunFrame s (driveChoice p s) := by
  obtain h | ⟨q, h⟩ := wantDrive_cases s p (wantedDrive (runOf s))
  · rw [driveChoice, h]; exact .refl s
  · rw [driveChoice, h]; exact ⟨rfl, rfl⟩

theorem run_stopRun (p : RunPhase) : RunFrame s (stopRun p s) := by rw [stopRun_eq]; exact ⟨rfl, rfl⟩

theorem run_cureOne (slot : Nat) : RunFrame s (cureOne slot s) := by unfold cureOne; split <;> exact ⟨rfl, rfl⟩

theorem run_haltPlacementRun (cause : HaltCause) : RunFrame s (haltPlacementRun cause s) := by
  rw [haltPlacementRun_eq]; exact ⟨rfl, rfl⟩

theorem run_onAnchor (i : Nat) (f : Anchor → Anchor) : RunFrame s (s.onAnchor i f) := ⟨rfl, rfl⟩

theorem run_zeroTotal (m : Nat) : RunFrame s (zeroTotal m s) := ⟨rfl, rfl⟩

theorem run_judgeStarved (p : RunPhase) : RunFrame s (judgeStarved p s) := ⟨rfl, rfl⟩

theorem run_beginRun (p : RunPhase) (slot : Nat) : RunFrame s (beginRun p slot s) := by
  unfold beginRun; dsimp only
  exact (run_driveChoice _ p).after <| (run_judgeStarved _ p).after <| (run_writeOrDrop _ _).after <|
    (run_zeroTotal _ _).after <| (run_onPlacement _ _).after (run_onAnchor s slot _)

theorem run_completeWinching : RunFrame s (completeWinching s) := by
  unfold completeWinching; dsimp only
  generalize hs : writeOrDrop _ _ = s2
  have h2 : RunFrame s s2 := by
    rw [← hs]
    exact (run_writeOrDrop _ _).after ((run_onAnchor _ _ _).after (run_stopRun s _))
  split
  · exact (run_beginRun _ _ _).after h2
  · exact (run_onPlacement _ _).after h2

theorem run_completeGrouting : RunFrame s (completeGrouting s) := by
  unfold completeGrouting; dsimp only
  exact (run_onPlacement _ _).after <| (run_writeOrDrop _ _).after <| (run_cureOne _ _).after <|
    (run_onAnchor _ _ _).after (run_stopRun s _)

theorem run_judgeRun (p : RunPhase) : RunFrame s (judgeRun p s) := by
  unfold judgeRun; dsimp only
  have h1 := run_judgeStarved s p
  split
  · exact (run_driveChoice _ p).after h1
  · split
    · split
      · exact (run_completeWinching _).after h1
      · exact (run_driveChoice _ _).after h1
    · split
      · exact (run_completeGrouting _).after h1
      · split
        · exact (run_haltPlacementRun _ _).after h1
        · exact (run_driveChoice _ _).after h1

theorem run_thawPlacement : RunFrame s (thawPlacement s) := by
  unfold thawPlacement; split
  · exact (run_judgeRun _ _).after ⟨rfl, rfl⟩
  · exact .refl s

end

end Sys2Proof.Machine
end

section
/-! SUPPORT. The requests of the trip counters (R142, R147, R148): LOAD_TRIP, FREEZE, and the thaw of the part. -/

namespace Sys2Proof.Machine

open Sys2Proof Sys2Proof.Config

/-! ### The thaw of a channel (R88) -/

section
variable {s : State} {n : Nat}

theorem thawStress_of_other (h : (stressAt s n).mode ≠ .frozen) : thawStress s n = s := if_neg h

theorem thawStress_free (h : (stressAt s n).mode = .frozen) (hw : (workOf s n).held = none) :
    thawStress s n = resume n (s.setMode n .running) := by
  rw [thawStress, if_pos h, if_neg (by rw [hw]; nofun)]

theorem thawStress_held (h : (stressAt s n).mode = .frozen) (hw : (workOf s n).held.isSome = true) :
    thawStress s n = wantMotion n .hold (s.setMode n .stalled) := by
  rw [thawStress, if_pos h, if_pos hw]

/-- R88: a FROZEN channel with a held record is STALLED after its thaw, and still holds it. -/
theorem stressAt_thawStress_held (h : (stressAt s n).mode = .frozen) (hw : (workOf s n).held.isSome = true) :
    (stressAt (thawStress s n) n).mode = .stalled ∧ (workOf (thawStress s n) n).held = (workOf s n).held := by
  have hn : n < 4 := number_of_holdsAnchor s (holdsAnchor_of_mode s h rfl)
  obtain ⟨c, b, hm⟩ := (motionOnly_wantMotion n .hold (s.setMode n .stalled)).stressAt hn
  have hs : stressAt (s.setMode n .stalled) n = { stressAt s n with mode := .stalled } := stressAt_onStress_same hn _
  rw [workOf, thawStress_held h hw, hm, workOf, hs]
  exact ⟨rfl, rfl⟩

end

theorem stressAt_foldl_thawStress {n : Nat} : ∀ (l : List Nat) (s : State), n ∉ l →
    stressAt (l.foldl thawStress s) n = stressAt s n
  | [], _, _ => rfl
  | a :: l, s, h => by
    obtain ⟨ha, hl⟩ := not_or.1 (mt List.mem_cons.2 h)
    rw [List.foldl_cons, stressAt_foldl_thawStress l _ hl, beside_thawStress s a n ha]

/-- R88: the same through the thaw of every channel. -/
theorem foldl_thawStress_held {n : Nat} : ∀ (l : List Nat) (s : State), l.Nodup → n ∈ l → (stressAt s n).mode = .frozen →
    (workOf s n).held.isSome = true → (stressAt (l.foldl thawStress s) n).mode = .stalled
      ∧ (workOf (l.foldl thawStress s) n).held = (workOf s n).held
  | [], _, _, h, _, _ => by cases h
  | a :: l, s, hd, h, hm, hw => by
    obtain ⟨ha, hd⟩ := List.nodup_cons.1 hd
    rw [List.foldl_cons]
    by_cases hn : n = a
    · subst hn
      rw [workOf, stressAt_foldl_thawStress l _ ha]
      exact stressAt_thawStress_held hm hw
    · have hs := beside_thawStress s a n hn
      have hl : n ∈ l := (List.mem_cons.1 h).resolve_left hn
      have hws : workOf (thawStress s a) n = workOf s n := congrArg Stress.work hs
      rw [← hws]
      exact foldl_thawStress_held l _ hd hl (by rw [hs]; exact hm) (by rw [hws]; exact hw)

/-! ### The thaw of the part (R148) -/

/-- R148: the part as the thaw leaves it, its hand-out pass and its record apart. -/
def thawed (s : State) : State :=
  thawPlacement (channels4.foldl thawStress (s.onTrip fun t => { t with frozen := false, stationFreeze := false }))

section
variable (s : State)

theorem reader_thawed : ReaderFrame (s.onTrip fun t => { t with frozen := false, stationFreeze := false }) (thawed s) :=
  (reader_thawPlacement _).after (frame_foldl thawStress frame_thawStress channels4 _).reader

theorem thawed_trip : (thawed s).trip = { s.trip with frozen := false, stationFreeze := false } :=
  (run_thawPlacement _).trip.trans (frame_foldl thawStress frame_thawStress channels4 _).trip

theorem thawed_pass_frame : TestFrame (thawed s) (afterPass (thawed s).startPass) := by
  have h := (frame_runPass (thawed s).startPass).after (frame_startPass (thawed s))
  rwa [runPass_of_due rfl] at h

theorem thawPart_eq : thawPart s = writeReserve
    { tick := now s, kind := .freeze, unit := 5, slot := 255, detail := 0, data := be 1 1 ++ counterFigures s }
    (afterPass (thawed s).startPass) := by
  have hpass : runPass (becomeUnfrozen s) = afterPass (thawed s).startPass := runPass_of_due rfl
  have hf := thawed_pass_frame s
  have hnow : now (afterPass (thawed s).startPass) = now s :=
    congrArg Station.tick (hf.station.trans (reader_thawed s).station)
  have hfig : counterFigures (afterPass (thawed s).startPass) = counterFigures s := by
    rw [counterFigures, hf.trip, thawed_trip]; rfl
  rw [thawPart, hpass, freezeRecord, hnow, hfig]

theorem stressAt_startPass (u : State) (n : Nat) : stressAt u.startPass n = stressAt u n := rfl

theorem writeReserve_keeps (r : LogRecord) (u : State) : (writeReserve r u).trip = u.trip ∧ (writeReserve r u).ring = u.ring
    ∧ (writeReserve r u).passDue = u.passDue ∧ ∀ n, stressAt (writeReserve r u) n = stressAt u n := by
  rw [writeReserve_eq]; exact ⟨rfl, rfl, rfl, fun _ => rfl⟩

theorem thawPart_frame : (thawPart s).trip = { s.trip with frozen := false, stationFreeze := false }
    ∧ (thawPart s).ring = s.ring ∧ (thawPart s).passDue = false := by
  have hf := thawed_pass_frame s
  have ht := thawed_trip s
  have hr := (reader_thawed s).ring
  obtain ⟨htrip, hring, hpass, _⟩ := writeReserve_keeps { tick := now s, kind := .freeze, unit := 5, slot := 255
                                                          detail := 0, data := be 1 1 ++ counterFigures s }
    (afterPass (thawed s).startPass)
  rw [thawPart_eq, htrip, hring, hpass, hf.trip, hf.ring, ht, hr]
  exact ⟨rfl, rfl, rfl⟩

/-- R88: what the thaw of the part leaves of a FROZEN channel with a held record. -/
theorem thawPart_held {n : Nat} (hm : (stressAt s n).mode = .frozen) (hw : (workOf s n).held.isSome = true) :
    (stressAt (thawPart s) n).mode = .stalled ∧ (workOf (thawPart s) n).held = (workOf s n).held := by
  have hn : n < 4 := number_of_holdsAnchor s (holdsAnchor_of_mode s hm rfl)
  obtain ⟨h1, h2⟩ := foldl_thawStress_held channels4 (s.onTrip fun t => { t with frozen := false, stationFreeze := false })
    (by decide) (List.mem_range.2 hn) hm hw
  have hs : stressAt (thawed s) n = stressAt (channels4.foldl thawStress
      (s.onTrip fun t => { t with frozen := false, stationFreeze := false })) n := by
    rw [thawed]
    generalize channels4.foldl thawStress (s.onTrip fun t => { t with frozen := false, stationFreeze := false }) = u
    exact stressAt_of_stress (run_thawPlacement u).stress n
  have hm' : (stressAt (thawed s).startPass n).mode ≠ .idle := by
    rw [stressAt_startPass, hs, h1]; nofun
  have ht : stressAt (thawPart s) n = stressAt (thawed s) n := by
    rw [thawPart_eq, (writeReserve_keeps _ _).2.2.2, stressAt_afterPass hm', stressAt_startPass]
  rw [workOf, ht, hs]
  exact ⟨h1, h2⟩

end

/-! ### The requests -/

section
variable {s : State} (h : takesNow s) (tag : Nat)
include h

/-- R142: LOAD_TRIP. -/
theorem exec_loadTrip (q : Nat) (cfg : TripConfig) :
    let loaded := s.onTrip fun t => { t with counters := put t.counters q (loadCounter cfg (look t.counters q)) }
    exec (.loadTrip tag q cfg) s = .next (if 7 < q then refused tag 0x42 .badValue s
      else if tripConfigInRange cfg = true then runPass (answered tag 0x42 none []
        (if holdsFreeze (counterAt loaded q) && !s.trip.frozen then becomeFrozen (48 + q) loaded else loaded))
      else refused tag 0x42 .badValue s) := by
  have hp := passDue_of_takesNow h
  show request tag 0x42 (actLoadTrip q cfg) s = _
  rw [request_of_takesNow h, actLoadTrip, respond_numbered _ _ _ hp]
  exact congrArg Host.Outcome.next (if_congr .rfl rfl (respond_check_last hp .rfl (respond_done_run _)))

/-- R147: FREEZE. -/
theorem exec_freeze : exec (.freeze tag) s = .next (runPass (answered tag 0x45 none []
    (if s.trip.frozen = true then s.onTrip fun t => { t with stationFreeze := true }
      else becomeFrozen (causeDetail .station) (s.onTrip fun t => { t with stationFreeze := true })))) := by
  show request tag 0x45 actFreeze s = _
  rw [request_of_takesNow h, actFreeze]
  exact congrArg Host.Outcome.next (respond_done_run _)

/-- R148: THAW. -/
theorem exec_thaw : exec (.thaw tag) s = .next (if tripsHold s = true then refused tag 0x46 .frozen s
    else if s.trip.frozen = true then answered tag 0x46 none [] (thawPart s)
    else answered tag 0x46 none [] (s.onTrip fun t => { t with stationFreeze := false })) := by
  have hp := passDue_of_takesNow h
  show request tag 0x46 actThaw s = _
  rw [request_of_takesNow h, actThaw]
  refine congrArg Host.Outcome.next (respond_check hp .rfl ?_)
  rw [apply_ite (respond tag 0x46)]
  exact if_congr .rfl (respond_done _ (thawPart_frame s).2.2) (respond_done _ hp)

end

theorem tripsHold_iff (s : State) : tripsHold s = true ↔
    ∃ q, q < 8 ∧ (counterAt s q).freezeEnable = true ∧ (counterAt s q).overflow = true := by
  simp only [tripsHold, counters8, List.any_eq_true, List.mem_range, holdsFreeze, Bool.and_eq_true]

/-- Settles O46, from the three requests in the order of their checks, and the frames of the thaw. -/
theorem tripRequestsLoadAndFreeze : Obligations.TripRequestsLoadAndFreeze := by
  refine ⟨fun s tag q cfg h => ?_, fun s tag h => ⟨fun hf => ?_, fun hf => ?_, fun ht => ?_, fun ht => ?_⟩,
    fun s n => ⟨thawStress_of_other, fun hm hw => thawStress_free hm hw,
      fun hm hw => thawStress_held hm (Option.isSome_iff_ne_none.2 hw)⟩⟩
  · have he := exec_loadTrip h tag q cfg
    have hc (hq : q ≤ 7) : holdsFreeze (counterAt (s.onTrip fun t =>
        { t with counters := put t.counters q (loadCounter cfg (look t.counters q)) }) q) =
          (cfg.freezeEnable && (counterAt s q).overflow) := by
      rw [holdsFreeze, counterAt, State.onTrip, look_put_same _ _ _ (Nat.lt_succ_of_le hq)]; rfl
    refine ⟨fun hr => ?_, fun hq hr hfe ho hf => ?_, fun hq hr hf => ?_⟩
    · rw [he]
      by_cases hq : 7 < q
      · rw [if_pos hq]
      · rw [if_neg hq, hr.resolve_left hq, if_neg nofun]
    · rw [he, if_neg (Nat.not_lt.2 hq), if_pos hr, if_pos (by rw [hc hq, hfe, ho, hf]; rfl)]; rfl
    · rw [he, if_neg (Nat.not_lt.2 hq), if_pos hr, if_neg (by
        rw [hc hq]; rcases hf with hf | hf | hf <;> simp [hf])]
      exact congrArg Host.Outcome.next (runPass_answered tag 0x42 [] (passDue_of_takesNow h))
  · rw [exec_freeze h, if_pos hf]
    exact congrArg Host.Outcome.next (runPass_answered tag 0x45 [] (passDue_of_takesNow h))
  · rw [exec_freeze h, if_neg (by rw [hf]; nofun)]
  · rw [exec_thaw h, if_pos ((tripsHold_iff s).2 ht)]
  · have hno : ¬tripsHold s = true := fun hh => by
      obtain ⟨q, hq, hfe, ho⟩ := (tripsHold_iff s).1 hh
      rw [ht q hq hfe] at ho; cases ho
    have he : exec (.thaw tag) s = _ := (exec_thaw h tag).trans (by rw [if_neg hno])
    refine ⟨fun hf => ?_, fun hf => ?_, fun hf => ⟨answered tag 0x46 none [] (thawPart s), ?_, ?_⟩⟩
    · rw [he, if_neg (by rw [hf]; nofun)]
    · rw [he, if_pos hf, thawPart_eq]; rfl
    · rw [he, if_pos hf]
    · obtain ⟨htrip, hring, _⟩ := thawPart_frame s
      refine ⟨?_, ?_, ?_, fun n _ hm hw => thawPart_held s hm hw, ?_⟩
      · show (thawPart s).trip.frozen = false; rw [htrip]
      · show (thawPart s).trip.stationFreeze = false; rw [htrip]
      · show (thawPart s).trip.counters = _; rw [htrip]
      · show (thawPart s).ring.responses ++ _ = _; rw [hring]; rfl

end Sys2Proof.Machine
end

section
/-! SUPPORT. The halt of every run (R84, R132): what it makes of the channels, the placement unit and their anchors. -/

namespace Sys2Proof.Machine

open Sys2Proof Sys2Proof.Config

/-! ### Anchors halted with one cause -/

/-- R14: the anchor of a slot has been halted with a cause. -/
def HaltedBy (cause : HaltCause) (i : Nat) (s : State) : Prop :=
  (anchorAt s i).phase = .halted ∧ (anchorAt s i).haltCause = some cause

section
variable {s t : State} {cause : HaltCause} {i : Nat}

theorem HaltedBy.of_anchor (h : HaltedBy cause i s) (ht : anchorAt t i = anchorAt s i) : HaltedBy cause i t := by
  rw [HaltedBy, ht]; exact h

theorem haltedBy_haltAnchor (h : i < 96) : HaltedBy cause i (haltAnchor i cause s) := by
  rw [HaltedBy, anchorAt_haltAnchor_same cause h]; exact ⟨rfl, rfl⟩

/-- A further halt with the same cause leaves an anchor halted with it. -/
theorem haltedBy_haltAnchor_again (h : HaltedBy cause i s) (j : Nat) : HaltedBy cause i (haltAnchor j cause s) := by
  by_cases hj : i = j
  · subst hj
    by_cases hi : i < 96
    · exact haltedBy_haltAnchor hi
    · refine h.of_anchor ?_
      rw [anchorAt, anchorAt, look_of_le _ _ (Nat.le_of_not_lt hi), look_of_le _ _ (Nat.le_of_not_lt hi)]
  · exact h.of_anchor (anchorAt_haltAnchor_other cause hj)

/-! ### The halt of one run -/

theorem haltedBy_haltRun {n : Nat} (h : slotOf s n < 96) : HaltedBy cause (slotOf s n) (haltRun n cause s) :=
  (haltedBy_haltAnchor h).of_anchor (anchorAt_haltRun s n cause _)

theorem haltedBy_haltStress (h : HaltedBy cause i s) (n : Nat) : HaltedBy cause i (haltStress n cause s) := by
  unfold haltStress; split
  · exact (haltedBy_haltAnchor_again h (slotOf s n)).of_anchor (anchorAt_haltRun s n cause i)
  · exact h

/-- R85: a channel that holds an anchor after its halt. -/
theorem stressAt_haltStress_same {n : Nat} (h : holdsAnchor s n = true) (cause : HaltCause) :
    stressAt (haltStress n cause s) n = { stressAt s n with mode := .idle, work := Work.clear } := by
  rw [haltStress_of_holds h, stressAt_haltRun, leaveAnchor_same s (number_of_holdsAnchor s h)]

end

theorem holdsAnchor_of_stress {s t : State} {n : Nat} (h : stressAt t n = stressAt s n) : holdsAnchor t n = holdsAnchor s n := by
  rw [holdsAnchor, h, holdsAnchor]

/-! ### The halt of every channel -/

section
variable {cause : HaltCause}

theorem stressAt_foldl_haltStress_of_free {n : Nat} : ∀ (l : List Nat) (s : State), holdsAnchor s n = false ∨ n ∉ l →
    stressAt (l.foldl (fun u n => haltStress n cause u) s) n = stressAt s n
  | [], _, _ => rfl
  | a :: l, s, h => by
    have hs : stressAt (haltStress a cause s) n = stressAt s n := by
      by_cases hn : n = a
      · subst hn
        rw [haltStress_of_free cause (h.resolve_right (not_not.2 List.mem_cons_self))]
      · exact beside_haltStress s a cause n hn
    rw [List.foldl_cons, stressAt_foldl_haltStress_of_free l _ ?_, hs]
    exact h.imp (fun h => by rw [holdsAnchor_of_stress hs, h]) fun h => mt (List.mem_cons_of_mem a) h

theorem haltedBy_foldl {i : Nat} : ∀ (l : List Nat) {s : State}, HaltedBy cause i s →
    HaltedBy cause i (l.foldl (fun u n => haltStress n cause u) s)
  | [], _, h => h
  | a :: l, _, h => haltedBy_foldl l (haltedBy_haltStress h a)

/-- R84, R85: a channel that holds an anchor, and its anchor, after the halt of every channel. -/
theorem foldl_haltStress_of_holds {n : Nat} : ∀ (l : List Nat) (s : State), l.Nodup → n ∈ l → holdsAnchor s n = true →
    stressAt (l.foldl (fun u n => haltStress n cause u) s) n = { stressAt s n with mode := .idle, work := Work.clear }
      ∧ (slotOf s n < 96 → HaltedBy cause (slotOf s n) (l.foldl (fun u n => haltStress n cause u) s))
  | [], _, _, h, _ => by cases h
  | a :: l, s, hd, h, hh => by
    obtain ⟨ha, hd⟩ := List.nodup_cons.1 hd
    rw [List.foldl_cons]
    by_cases hn : n = a
    · subst hn
      rw [stressAt_foldl_haltStress_of_free l _ (.inr ha), stressAt_haltStress_same hh]
      refine ⟨rfl, fun hslot => haltedBy_foldl l ?_⟩
      rw [haltStress_of_holds hh]
      exact haltedBy_haltRun hslot
    · have hs := beside_haltStress s a cause n hn
      have hslot : slotOf (haltStress a cause s) n = slotOf s n := by rw [slotOf, workOf, hs, slotOf, workOf]
      have ih := foldl_haltStress_of_holds l (haltStress a cause s) hd ((List.mem_cons.1 h).resolve_left hn)
        (by rw [holdsAnchor_of_stress hs, hh])
      rwa [hs, hslot] at ih

end

/-! ### The halt of every run -/

/-- R84, R132: every stressing channel and then the placement unit halted with one cause (log 3). -/
def haltedAll (cause : HaltCause) (s : State) : State := haltPlacement cause (haltAllStress cause s)

section
variable (cause : HaltCause) (s : State)

theorem haltPlacement_stress : (haltPlacement cause s).stress = s.stress := by
  unfold haltPlacement; split
  · exact (run_haltPlacementRun s cause).stress
  · rfl

theorem haltPlacement_trip : (haltPlacement cause s).trip = s.trip := by
  unfold haltPlacement; split
  · exact (run_haltPlacementRun s cause).trip
  · rfl

theorem haltPlacement_measure : (haltPlacement cause s).measure = s.measure := by
  unfold haltPlacement; split
  · rw [haltPlacementRun_eq]
  · rfl

variable {cause s} in
theorem haltedBy_haltPlacement {i : Nat} (h : HaltedBy cause i s) : HaltedBy cause i (haltPlacement cause s) := by
  unfold haltPlacement; split
  · have ha : anchorAt (haltPlacementRun cause s) i = anchorAt (haltAnchor (runOf s).slot cause s) i := by
      rw [haltPlacementRun_eq]; rfl
    exact (haltedBy_haltAnchor_again h _).of_anchor ha
  · exact h

/-- R131: a run after its halt. -/
theorem haltPlacement_of_run {r : Run} (hm : s.placement.mode ≠ .idle) (hr : s.placement.run = some r) :
    (haltPlacement cause s).placement.mode = .idle ∧ (haltPlacement cause s).placement.run = none
      ∧ (r.slot < 96 → HaltedBy cause r.slot (haltPlacement cause s)) := by
  rw [haltPlacement, if_pos ((placementBusy_iff s).2 hm)]
  have ha : anchorAt (haltPlacementRun cause s) r.slot = anchorAt (haltAnchor r.slot cause s) r.slot := by
    rw [haltPlacementRun_eq, runOf_of_run hr]; rfl
  refine ⟨by rw [haltPlacementRun_eq], by rw [haltPlacementRun_eq], fun h => (haltedBy_haltAnchor h).of_anchor ha⟩

/-- R84, R85, R132: the runs of `s` have been halted with one cause in `t`, and nothing else of the part has changed but
records, commands and cell requests. -/
structure RunsHalted (cause : HaltCause) (s t : State) : Prop where
  reader : ReaderFrame s t
  trip : t.trip = s.trip
  measure : t.measure = s.measure
  free : ∀ n, holdsAnchor s n = false → stressAt t n = stressAt s n
  holds : ∀ n, holdsAnchor s n = true → (stressAt t n).mode = .idle ∧ workOf t n = Work.clear
    ∧ (slotOf s n < 96 → HaltedBy cause (slotOf s n) t)
  runs : ∀ r, s.placement.mode ≠ .idle → s.placement.run = some r → t.placement.mode = .idle
    ∧ t.placement.run = none ∧ (r.slot < 96 → HaltedBy cause r.slot t)

theorem runsHalted_haltedAll : RunsHalted cause s (haltedAll cause s) := by
  have hf := frame_haltAllStress s cause
  refine ⟨(reader_haltPlacement _ cause).after hf.reader, (haltPlacement_trip cause _).trans hf.trip,
    (haltPlacement_measure cause _).trans hf.measure, fun n h => ?_, fun n h => ?_, fun r hm hr => ?_⟩
  · exact (stressAt_of_stress (haltPlacement_stress cause _) n).trans
      (stressAt_foldl_haltStress_of_free channels4 s (.inl h))
  · obtain ⟨hs, ha⟩ := foldl_haltStress_of_holds (cause := cause) channels4 s (by decide)
      (List.mem_range.2 (number_of_holdsAnchor s h)) h
    have ht : stressAt (haltedAll cause s) n = { stressAt s n with mode := .idle, work := Work.clear } :=
      (stressAt_of_stress (haltPlacement_stress cause _) n).trans hs
    rw [workOf, ht]
    exact ⟨rfl, rfl, fun hslot => haltedBy_haltPlacement (ha hslot)⟩
  · exact haltPlacement_of_run cause _ (by rw [hf.unitMode]; exact hm) (by rw [hf.unitRun, hr])

end

/-! ### A pass that the part's condition keeps closed -/

theorem runPass_of_closed {s : State} (h : passOpen s = false) : runPass s = { s with passDue := false } := by
  rcases Bool.eq_false_or_eq_true s.passDue with hp | hp
  · rw [runPass_of_due hp, afterPass, handOut_of_closed h]
  · rw [runPass_of_none hp]
    exact congrArg (fun b => { s with passDue := b }) hp

end Sys2Proof.Machine
end

section
/-! SUPPORT. The break of the ring (R155, R162, R180), and ESTOP latched and cleared (R196, R197, R177). -/

namespace Sys2Proof.Machine

open Sys2Proof Sys2Proof.Config

/-! ### The break of the ring -/

/-- R162: the ring interface in BROKEN. -/
def brokenRing (r : Ring) : Ring :=
  { r with
    state := .broken, lossCount := 0, inFlight := [], probeDue := true
    transmitter := r.transmitter.map fun t => { t with discarded := true } }

/-- R180: the scheduler after a break. -/
def brokenSched (d : Sched) : Sched :=
  { d with
    queue := [], failures := Vector.replicate 62 0, passedOver := 0
    polls := d.polls.map fun p => p.map fun p => { p with inFlight := false } }

section
variable (s : State)

/-- R162: the part with its ring broken and every run halted, the scheduler apart. -/
def brokenRuns : State := haltedAll .ring (s.onRing brokenRing)

theorem breakRing_eq : breakRing s = (brokenRuns s).onSched brokenSched := by
  have sched (u : State) : (schedulerBreak u).onSched (fun d =>
      { d with polls := d.polls.map fun p => p.map fun p => { p with inFlight := false } }) = u.onSched brokenSched := rfl
  exact sched _

theorem runsHalted_brokenRuns : RunsHalted .ring (s.onRing brokenRing) (brokenRuns s) := by
  rw [brokenRuns]; exact runsHalted_haltedAll _ _

theorem passOpen_breakRing : passOpen (breakRing s) = false := by
  have hr := (runsHalted_brokenRuns s).reader.ring
  rw [breakRing_eq]
  generalize brokenRuns s = u at hr ⊢
  have hu : ringUp (u.onSched brokenSched) = false := by
    show (u.ring.state == .up) = false
    rw [hr]; rfl
  rw [passOpen, hu, Bool.and_false]

/-- R155: a loss of signal in UP. -/
theorem exec_lossOfSignal_up (h : quiet s = true) (hu : s.ring.state = .up) :
    exec .lossOfSignal s = .next { (brokenRuns s).onSched brokenSched with passDue := false } := by
  have hl : loseSignal s = breakRing s := if_pos ((ringUp_iff s).2 hu)
  refine (event_of_quiet h).trans (congrArg Host.Outcome.next ?_)
  rw [hl, runPass_of_closed (passOpen_breakRing s), breakRing_eq]

/-- R155: a loss of signal out of UP. -/
theorem exec_lossOfSignal_down (h : quiet s = true) (hu : s.ring.state ≠ .up) : exec .lossOfSignal s = .next s := by
  have hl : loseSignal s = s := if_neg (mt (ringUp_iff s).1 hu)
  refine (event_of_quiet h).trans (congrArg Host.Outcome.next ?_)
  rw [hl, runPass_of_none (quiet_passDue h)]

theorem look_brokenPolls {d : Sched} {e : Nat} {p : Poll} (h : look d.polls e = some p) :
    look (brokenSched d).polls e = some { p with inFlight := false } := by
  have he : e < 32 := by
    by_contra hn
    rw [look_of_le _ _ (Nat.le_of_not_lt hn)] at h; cases h
  show look (d.polls.map _) e = _
  rw [look_map _ _ e he, h]; rfl

theorem look_brokenFailures (d : Sched) (i : Nat) : look (brokenSched d).failures i = 0 := by
  show look (Vector.replicate 62 0) i = 0
  by_cases hi : i < 62
  · exact look_replicate 0 i hi
  · exact look_of_le _ _ (Nat.le_of_not_lt hi)

end

/-- Settles O52: the break as the halt of every run between the ring's change and the scheduler's. -/
theorem lossOfSignalBreaksTheRing : Obligations.LossOfSignalBreaksTheRing := by
  refine fun s h => ⟨exec_lossOfSignal_down s h, fun hu => ⟨_, exec_lossOfSignal_up s h hu, ?_⟩⟩
  have hh := runsHalted_brokenRuns s
  generalize brokenRuns s = u at hh ⊢
  have hf := hh.reader
  have ring (g : Ring → Prop) (hg : g (brokenRing s.ring)) : g u.ring := by rw [hf.ring]; exact hg
  refine ⟨ring (·.state = .broken) rfl, ring (·.lossCount = 0) rfl, ring (·.inFlight = []) rfl,
    ring (·.probeDue = true) rfl, ring (·.responses = s.ring.responses) rfl, ring (·.owners = s.ring.owners) rfl,
    ring (·.store = s.ring.store) rfl, rfl, rfl, fun a => look_brokenFailures u.sched _, hf.lastSent, fun e p hp => ?_,
    fun n _ => hh.holds n, hh.free, hh.runs, hh.measure, hh.trip, hf.station⟩
  refine look_brokenPolls ?_
  rw [hf.polls]; exact hp

/-! ### The halt sweep (R177) -/

/-- R177: the sweep as the halts of the owned nodes placed in order. -/
theorem foldl_sweepNode_afterHalts : ∀ (nodes : List Nat) (s : State), ∃ w p, nodes.foldl sweepNode s =
    { s with
      sched := afterHalts s (haltsOf s nodes) s.sched
      placement := { s.placement with winchCommand := w, pumpCommand := p } }
  | [], s => ⟨_, _, by rw [haltsOf, List.filterMap_nil, afterHalts_nil]; rfl⟩
  | a :: nodes, s => by
    rw [List.foldl_cons, sweepNode]
    match ho : ownerOf s a with
    | none =>
      obtain ⟨w, p, h⟩ := foldl_sweepNode_afterHalts nodes s
      refine ⟨w, p, h.trans ?_⟩
      rw [haltsOf, haltsOf, List.filterMap_cons, ho]; rfl
    | some o =>
      obtain ⟨w, p, h⟩ := placeHalt_frame a (haltOf s a o) o s
      rw [schedAfterHalt_eq] at h
      obtain ⟨w', p', h'⟩ := foldl_sweepNode_afterHalts nodes
        { s with
          sched := afterHalts s [haltEntry s a o] s.sched
          placement := { s.placement with winchCommand := w, pumpCommand := p } }
      have hl : haltsOf s (a :: nodes) = [haltEntry s a o] ++ haltsOf s nodes := by
        rw [haltsOf, List.filterMap_cons, ho]; rfl
      refine ⟨w', p', ?_⟩
      dsimp only
      rw [h, hl, afterHalts_append]
      exact h'

theorem haltSweep_eq (s : State) : ∃ w p, haltSweep s =
    { s with
      sched := afterHalts s (haltsOf s nodes62) s.sched
      placement := { s.placement with winchCommand := w, pumpCommand := p } } := foldl_sweepNode_afterHalts nodes62 s

theorem mem_nodes62_of_owned {s : State} {a : Nat} {o : Owner} (h : ownerOf s a = some o) : a ∈ nodes62 := by
  have hw : within 1 62 a = true := by
    by_contra hn
    rw [ownerOf, if_neg hn] at h; cases h
  obtain ⟨hlo, hhi⟩ := within_iff.1 hw
  exact List.mem_map.2 ⟨a - 1, List.mem_range.2 (by omega), by omega⟩

/-- R177: what the sweep leaves, the scheduler's two lists and the placement unit's recorded commands apart. -/
theorem haltSweep_keeps (s : State) : (haltSweep s).stress = s.stress ∧ (haltSweep s).anchorTable = s.anchorTable
    ∧ (haltSweep s).placement.mode = s.placement.mode ∧ (haltSweep s).placement.run = s.placement.run
    ∧ (haltSweep s).station = s.station ∧ (haltSweep s).ring = s.ring ∧ (haltSweep s).trip = s.trip
    ∧ (haltSweep s).measure = s.measure ∧ (haltSweep s).sched.polls = s.sched.polls ∧ (haltSweep s).log = s.log := by
  obtain ⟨w, p, hs⟩ := haltSweep_eq s
  rw [hs]
  exact ⟨rfl, rfl, rfl, rfl, rfl, rfl, rfl, rfl, rfl, rfl⟩

/-- R177: after the sweep every owned node has its halt and no entry in the queue. -/
theorem haltSweep_owned {s : State} {a : Nat} {o : Owner} (h : ownerOf s a = some o) :
    haltEntry s a o ∈ (haltSweep s).sched.priority ∧ ∀ e ∈ (haltSweep s).sched.queue, e.node ≠ a := by
  obtain ⟨w, p, hs⟩ := haltSweep_eq s
  have hx : haltEntry s a o ∈ haltsOf s nodes62 :=
    List.mem_filterMap.2 ⟨a, mem_nodes62_of_owned h, by rw [h]; rfl⟩
  have hu : ∀ y ∈ haltsOf s nodes62, y.node = (haltEntry s a o).node → y = haltEntry s a o := fun y hy hn => by
    obtain ⟨b, _, hb⟩ := List.mem_filterMap.1 hy
    obtain ⟨o', ho', rfl⟩ := Option.map_eq_some_iff.1 hb
    change b = a at hn
    subst hn
    rw [Option.some.inj (h.symm.trans ho')]
  have hm := mem_afterHalts (s := s) (x := haltEntry s a o) (congrArg Option.isSome h) (d := s.sched) hx hu
  rw [hs]
  refine ⟨hm, fun e he hn => ?_⟩
  have hall := List.all_eq_true.1 (List.mem_filter.1 he).2 _ hx
  exact (bne_iff_ne.1 hall) hn.symm

/-! ### ESTOP (R196) -/

section
variable (s : State)

/-- R196: the state with the line asserted and ESTOP latched. -/
def latchedLine : State := s.onStation fun t => { t with line := true, estop := true }

/-- R196: every run halted by ESTOP, the sweep and the record apart. -/
def estopHalted : State := haltedAll .estop (latchedLine s)

theorem ownedCount_eq : ownedCount s = (List.range 62).countP fun i => (ownerOf s (i + 1)).isSome :=
  List.countP_map

theorem runsHalted_estopHalted : RunsHalted .estop (latchedLine s) (estopHalted s) := by
  rw [estopHalted]; exact runsHalted_haltedAll _ _

theorem ownerOf_estopHalted (a : Nat) : ownerOf (estopHalted s) a = ownerOf s a :=
  ownerOf_of_ring (runsHalted_estopHalted s).reader.ring a

theorem haltOf_estopHalted (a : Nat) (o : Owner) : haltOf (estopHalted s) a o = haltOf s a o := by
  have hc := (runsHalted_estopHalted s).reader.unitConfig
  cases o with
  | sc n => rw [haltOf, haltOf]
  | pu => rw [haltOf, hc, haltOf]; rfl

/-- R196: the record of the latching, by the state before it. -/
theorem estopRecord_swept : estopRecord (haltSweep (estopHalted s)) =
    { tick := now s, kind := .halt, unit := 6, slot := 255, detail := 30
      data := be 1 ((List.range 62).countP fun i => (ownerOf s (i + 1)).isSome) } := by
  obtain ⟨-, -, -, -, station, ring, -⟩ := haltSweep_keeps (estopHalted s)
  have ho (a : Nat) : ownerOf (haltSweep (estopHalted s)) a = ownerOf s a :=
    (ownerOf_of_ring ring a).trans (ownerOf_estopHalted s a)
  rw [estopRecord, ownedCount_eq, now, station, (runsHalted_estopHalted s).reader.station]
  simp only [ho]; rfl

/-- R196: the assertion of the line where ESTOP is not latched. -/
theorem exec_estopAsserted_latches (h : quiet s = true) (he : s.station.estop = false) :
    exec .estopAsserted s = .next { haltSweep (estopHalted s) with
      passDue := false
      log := reserveLog
        { tick := now s, kind := .halt, unit := 6, slot := 255, detail := 30
          data := be 1 ((List.range 62).countP fun i => (ownerOf s (i + 1)).isSome) } (estopHalted s).log } := by
  have hl : assertLine s = writeReserve (estopRecord (haltSweep (estopHalted s))) (haltSweep (estopHalted s)) :=
    if_neg (by rw [he]; nofun)
  obtain ⟨-, -, -, -, station, -, -, -, -, hlog⟩ := haltSweep_keeps (estopHalted s)
  have hst : (haltSweep (estopHalted s)).station.estop = true := by
    rw [station, (runsHalted_estopHalted s).reader.station]; rfl
  refine (event_of_quiet h).trans (congrArg Host.Outcome.next ?_)
  rw [hl, estopRecord_swept, writeReserve_eq, ← hlog]
  generalize haltSweep (estopHalted s) = u at hst ⊢
  refine runPass_of_closed ?_
  show (!u.trip.frozen && !u.station.estop && ringUp u) = false
  rw [hst, Bool.not_true, Bool.and_false, Bool.false_and]

/-- R197: CLEAR_ESTOP. -/
theorem exec_clearEstop (h : takesNow s) (tag : Nat) : exec (.clearEstop tag) s = .next (
    if s.station.line = true then refused tag 0x65 .estop s
    else if s.station.estop = true then
      afterPass (answered tag 0x65 none [] (s.onStation fun t => { t with estop := false }).startPass)
    else answered tag 0x65 none [] s) := by
  have hp := passDue_of_takesNow h
  show request tag 0x65 actClearEstop s = _
  rw [request_of_takesNow h, actClearEstop]
  refine congrArg Host.Outcome.next (respond_check hp .rfl ?_)
  rw [apply_ite (respond tag 0x65)]
  exact if_congr .rfl (respond_done_pass _ rfl) (respond_done _ hp)

end

/-- Settles O58: the halt of every run, then the sweep, then the record. -/
theorem estopHaltsEveryRunAndIsCleared : Obligations.EstopHaltsEveryRunAndIsCleared := by
  refine ⟨fun s h => ?_, fun s tag h => exec_clearEstop s h tag⟩
  intro swept r latched halted
  have hpass := quiet_passDue h
  refine ⟨?_, fun he => ?_, fun he => ⟨_, exec_estopAsserted_latches s h he, ?_⟩⟩
  · show event (fun s => s.onStation fun t => { t with line := false }) s = _
    rw [event_of_quiet h]
    exact congrArg Host.Outcome.next (runPass_of_none (by exact hpass))
  · have hl : assertLine s = s.onStation fun t => { t with line := true } := if_pos he
    refine (event_of_quiet h).trans (congrArg Host.Outcome.next ?_)
    rw [hl]
    exact runPass_of_none (by exact hpass)
  · have hhalted : estopHalted s = halted := by rw [estopHalted, haltedAll]; rfl
    have hh := runsHalted_estopHalted s
    have owned (a : Nat) (o : Owner) (ho : ownerOf s a = some o) := haltSweep_owned ((ownerOf_estopHalted s a).trans ho)
    simp only [haltEntry, haltOf_estopHalted] at owned
    obtain ⟨stress, anchors, mode, run, station, ring, trip, measure, polls, -⟩ := haltSweep_keeps (estopHalted s)
    rw [hhalted] at hh owned stress anchors mode run station ring trip measure polls ⊢
    clear_value halted
    generalize hw : haltSweep halted = w at owned stress anchors mode run station ring trip measure polls ⊢
    have anchor (i : Nat) : anchorAt w i = anchorAt halted i := anchorAt_of_slots (congrArg AnchorTable.slots anchors) i
    refine ⟨station.trans hh.reader.station, fun n _ hn => ?_, fun r hm hr => ?_, fun a o ho => ?_, rfl,
      ring.trans hh.reader.ring, trip.trans hh.trip, measure.trans hh.measure, polls.trans hh.reader.polls⟩
    · obtain ⟨hmode, hwork, hanchor⟩ := hh.holds n hn
      have hs := stressAt_of_stress stress n
      exact ⟨(congrArg Stress.mode hs).trans hmode, (congrArg Stress.work hs).trans hwork,
        fun hslot => (hanchor hslot).of_anchor (t := w) (anchor _)⟩
    · obtain ⟨hmode, hrun, hanchor⟩ := hh.runs r hm hr
      exact ⟨mode.trans hmode, run.trans hrun, fun hslot => ((hanchor hslot).of_anchor (t := w) (anchor _)).2⟩
    · obtain ⟨hm, hq⟩ := owned a o ho
      exact ⟨⟨_, hm, rfl, rfl, rfl⟩, hq⟩

end Sys2Proof.Machine
end

section
/-! SUPPORT. What a presentation makes of the command queue and a placed halt of the two lists (R174, R176), and the recorded
commands of the placement unit after the halt sweep (R117, R177). -/

namespace Sys2Proof.Machine

open Sys2Proof Sys2Proof.Config

/-! ### A presentation (R174) -/

section
variable {s : State} {node : Nat} {c : Command} {o : Owner}

theorem sameKey_iff_node_class {k : CommandClass} {e : QueueEntry} :
    sameKey node k e = true ↔ e.node = node ∧ commandClass e.command = k :=
  (sameKey_iff node k e).trans Prod.mk_inj

theorem any_sameKey_iff {k : CommandClass} {q : List QueueEntry} :
    q.any (sameKey node k) = true ↔ ∃ e ∈ q, e.node = node ∧ commandClass e.command = k := by
  simp only [List.any_eq_true, sameKey_iff_node_class]

theorem queueTakes_iff : queueTakes s node c = true ↔ s.ring.state = .up ∧
    ((∃ e ∈ s.sched.queue, e.node = node ∧ commandClass e.command = commandClass c) ∨ s.sched.queue.length < 16) := by
  rw [queueTakes, Bool.and_eq_true, Bool.or_eq_true, ringUp_iff, any_sameKey_iff, decide_eq_true_iff, queueMax]

theorem present_of_refused (h : queueTakes s node c = false) : present node c o s = s := if_neg (by rw [h]; nofun)

/-- R174: an entry of the key is replaced in place and keeps its tick. -/
theorem queueWith_of_key {tick : Word32} {q : List QueueEntry}
    (h : ∃ e ∈ q, e.node = node ∧ commandClass e.command = commandClass c) :
    queueWith tick node c o q =
      q.map fun e => if sameKey node (commandClass c) e then { e with command := c, origin := o } else e :=
  if_pos (any_sameKey_iff.2 h)

theorem queueWith_of_fresh {tick : Word32} {q : List QueueEntry}
    (h : ∀ e ∈ q, ¬(e.node = node ∧ commandClass e.command = commandClass c)) :
    queueWith tick node c o q = q ++ [{ node := node, command := c, origin := o, enqueued := tick }] :=
  if_neg fun ha => by
    obtain ⟨e, he, hk⟩ := any_sameKey_iff.1 ha
    exact h e he hk

end

/-! ### A placed halt (R176) -/

section
variable {s : State} {node : Nat} {c : Command} {o : Owner} {p : List PriorityEntry}

theorem any_node_iff : p.any (·.node == node) = true ↔ ∃ e ∈ p, e.node = node := by
  simp only [List.any_eq_true, beq_iff_eq]

/-- R176: the entry of the node becomes the halt where it stands. -/
theorem priorityWith_of_listed (h : ∃ e ∈ p, e.node = node) : priorityWith s node c o p =
    p.map fun e => if e.node = node then { node := node, command := c, origin := o } else e := by
  rw [priorityWith, if_pos (any_node_iff.2 h)]
  refine List.map_congr_left fun e _ => ?_
  by_cases he : e.node = node
  · rw [if_pos he, if_pos (beq_iff_eq.2 he), he]
  · rw [if_neg he, if_neg (mt beq_iff_eq.1 he)]

theorem priorityWith_of_unlisted (h : ∀ e ∈ p, e.node ≠ node) :
    priorityWith s node c o p = priorityRoom s p ++ [{ node := node, command := c, origin := o }] :=
  if_neg fun ha => by
    obtain ⟨e, he, hn⟩ := any_node_iff.1 ha
    exact h e he hn

theorem priorityRoom_of_room (h : p.length < 8) : priorityRoom s p = p := if_pos h

/-- R176: what leaves a full list is the first entry whose node has no owner. -/
theorem priorityRoom_of_full {front back : List PriorityEntry} {e : PriorityEntry} (hp : p = front ++ e :: back)
    (hl : 8 ≤ p.length) (hfront : ∀ k ∈ front, ownerOf s k.node ≠ none) (he : ownerOf s e.node = none) :
    priorityRoom s p = front ++ back := by
  have hstay : ∀ k ∈ front, ¬(ownerOf s k.node).isNone = true := fun k hk hn =>
    hfront k hk (Option.isNone_iff_eq_none.1 hn)
  rw [priorityRoom, if_neg (Nat.not_lt.2 hl), hp, List.eraseP_append_right _ hstay, List.eraseP_cons, he]
  rfl

end

/-! ### The queue after the sweep (R177) -/

section
variable {s : State}

theorem mem_haltsOf {nodes : List Nat} {x : PriorityEntry} :
    x ∈ haltsOf s nodes ↔ ∃ a ∈ nodes, ∃ o, ownerOf s a = some o ∧ haltEntry s a o = x := by
  simp only [haltsOf, List.mem_filterMap, Option.map_eq_some_iff]

theorem haltsOf_all_ne_iff (a : Nat) :
    ((haltsOf s nodes62).all fun x => x.node != a) = true ↔ ownerOf s a = none := by
  rw [List.all_eq_true]
  constructor
  · intro h
    by_contra hn
    obtain ⟨o, ho⟩ := Option.ne_none_iff_exists'.1 hn
    exact bne_iff_ne.1 (h _ (mem_haltsOf.2 ⟨a, mem_nodes62_of_owned ho, o, ho, rfl⟩)) rfl
  · intro h x hx
    obtain ⟨b, _, o, ho, rfl⟩ := mem_haltsOf.1 hx
    refine bne_iff_ne.2 fun hb => ?_
    change b = a at hb
    rw [hb, h] at ho; cases ho

/-- R177: the entries of owned nodes leave the queue, and no other. -/
theorem queue_haltSweep (s : State) :
    (haltSweep s).sched.queue = s.sched.queue.filter fun e => (ownerOf s e.node).isNone := by
  obtain ⟨w, p, hs⟩ := haltSweep_eq s
  rw [hs]
  refine List.filter_congr fun e _ => Bool.eq_iff_iff.2 ?_
  rw [haltsOf_all_ne_iff, Option.isNone_iff_eq_none]

/-- R177: the two lists and the placement unit's recorded commands apart, the part is as it was. -/
theorem haltSweep_frame (s : State) : haltSweep s = { s with
    sched := { s.sched with queue := (haltSweep s).sched.queue, priority := (haltSweep s).sched.priority }
    placement := { s.placement with
      winchCommand := (haltSweep s).placement.winchCommand, pumpCommand := (haltSweep s).placement.pumpCommand } } := by
  obtain ⟨w, p, hs⟩ := haltSweep_eq s
  generalize haltSweep s = t at hs ⊢
  rw [hs]; rfl

end

/-! ### The placement unit's recorded commands after the sweep (R117, log 23) -/

/-- The sweep places WINCH_STOP for this node. -/
def stopsWinch (s : State) (a : Nat) : Bool := ownerOf s a == some .pu && haltOf s a .pu == .winchStop

/-- The sweep places PUMP_STOP for this node, and the node is the pump of the unit's configuration. -/
def stopsPump (s : State) (a : Nat) : Bool :=
  ownerOf s a == some .pu && haltOf s a .pu == .pumpStop && (placementConfig s).pumpNode == a

section
variable {s : State}

theorem haltOf_pu {cfg : PlacementConfig} (h : s.placement.config = some cfg) (a : Nat) :
    haltOf s a .pu = if a = cfg.winchNode then .winchStop else .pumpStop := by
  simp only [haltOf, h, eq_comm]

theorem haltOf_pu_cases (s : State) (a : Nat) :
    (haltOf s a .pu = .winchStop ∧ (placementConfig s).winchNode = a) ∨ haltOf s a .pu = .pumpStop := by
  cases h : s.placement.config with
  | none => right; simp only [haltOf, h]
  | some cfg =>
    rw [haltOf_pu h, placementConfig_of_config h]
    by_cases ha : a = cfg.winchNode
    · exact .inl ⟨if_pos ha, ha.symm⟩
    · exact .inr (if_neg ha)

/-- R117, R179: a WINCH_STOP that the placement unit places for the winch node it names is the winch's recorded command. -/
theorem placement_placeHalt_winchStop (a : Nat) : (placeHalt a .winchStop .pu s).placement =
    if (placementConfig s).winchNode = a then { s.placement with winchCommand := some .stop } else s.placement :=
  apply_ite State.placement _ _ _

theorem placement_placeHalt_pumpStop (a : Nat) : (placeHalt a .pumpStop .pu s).placement =
    if (placementConfig s).pumpNode = a then { s.placement with pumpCommand := some .stop } else s.placement :=
  apply_ite State.placement _ _ _

/-- One node of the sweep: each of the two commands becomes the stop where the stop is placed for its node. -/
theorem recorded_sweepNode (s : State) (a : Nat) :
    (sweepNode s a).placement.winchCommand = (if stopsWinch s a then some .stop else s.placement.winchCommand)
      ∧ (sweepNode s a).placement.pumpCommand = (if stopsPump s a then some .stop else s.placement.pumpCommand) := by
  rw [sweepNode, stopsWinch, stopsPump]
  cases ho : ownerOf s a with
  | none => exact ⟨rfl, rfl⟩
  | some o =>
    cases o with
    | sc n => exact ⟨rfl, rfl⟩
    | pu =>
      dsimp only
      obtain ⟨hh, hw⟩ | hh := haltOf_pu_cases s a
      · rw [hh, placement_placeHalt_winchStop, if_pos hw]
        exact ⟨rfl, rfl⟩
      · rw [hh, placement_placeHalt_pumpStop]
        by_cases hp : (placementConfig s).pumpNode = a
        · rw [if_pos hp, beq_iff_eq.2 hp]
          exact ⟨rfl, rfl⟩
        · rw [if_neg hp, beq_eq_false_iff_ne.2 hp]
          exact ⟨rfl, rfl⟩

/-- A node of the sweep changes neither the ownership table nor the placement unit's configuration. -/
theorem sweepNode_ring_config (s : State) (a : Nat) :
    (sweepNode s a).ring = s.ring ∧ (sweepNode s a).placement.config = s.placement.config := by
  obtain ⟨w, p, h⟩ := foldl_sweepNode_afterHalts [a] s
  change sweepNode s a = _ at h
  rw [h]
  exact ⟨rfl, rfl⟩

theorem stopsWinch_sweepNode (s : State) (a b : Nat) : stopsWinch (sweepNode s a) b = stopsWinch s b := by
  obtain ⟨hring, hcfg⟩ := sweepNode_ring_config s a
  simp only [stopsWinch, haltOf, ownerOf_of_ring hring, hcfg]

theorem stopsPump_sweepNode (s : State) (a b : Nat) : stopsPump (sweepNode s a) b = stopsPump s b := by
  obtain ⟨hring, hcfg⟩ := sweepNode_ring_config s a
  simp only [stopsPump, haltOf, placementConfig, ownerOf_of_ring hring, hcfg]

/-- A command that each node of a sweep makes the stop exactly where `stops` says is the stop after the sweep exactly where
`stops` says so of one of its nodes. -/
theorem foldl_sweepNode_recorded {stops : State → Nat → Bool} {command : State → Option Drive}
    (kept : ∀ s a b, stops (sweepNode s a) b = stops s b)
    (one : ∀ s a, command (sweepNode s a) = if stops s a then some .stop else command s) :
    ∀ (nodes : List Nat) (s : State),
      command (nodes.foldl sweepNode s) = if nodes.any (stops s) then some .stop else command s
  | [], _ => rfl
  | a :: nodes, s => by
    have hk : stops (sweepNode s a) = stops s := funext (kept s a)
    rw [List.foldl_cons, foldl_sweepNode_recorded kept one nodes, hk, one, List.any_cons]
    cases stops s a <;> cases nodes.any (stops s) <;> rfl

theorem winchCommand_haltSweep (s : State) : (haltSweep s).placement.winchCommand =
    if nodes62.any (stopsWinch s) then some .stop else s.placement.winchCommand := by
  rw [haltSweep]
  exact foldl_sweepNode_recorded (command := (·.placement.winchCommand)) stopsWinch_sweepNode
    (fun s a => (recorded_sweepNode s a).1) nodes62 s

theorem pumpCommand_haltSweep (s : State) : (haltSweep s).placement.pumpCommand =
    if nodes62.any (stopsPump s) then some .stop else s.placement.pumpCommand := by
  rw [haltSweep]
  exact foldl_sweepNode_recorded (command := (·.placement.pumpCommand)) stopsPump_sweepNode
    (fun s a => (recorded_sweepNode s a).2) nodes62 s

/-- R177: WINCH_STOP is placed exactly when the placement unit owns the winch node of its configuration. -/
theorem any_stopsWinch_iff : nodes62.any (stopsWinch s) = true ↔
    ∃ cfg, s.placement.config = some cfg ∧ ownerOf s cfg.winchNode = some .pu := by
  simp only [List.any_eq_true, stopsWinch, Bool.and_eq_true, beq_iff_eq]
  constructor
  · rintro ⟨a, -, ho, hh⟩
    cases hc : s.placement.config with
    | none => simp only [haltOf, hc] at hh; cases hh
    | some cfg =>
      rw [haltOf_pu hc] at hh
      have ha : a = cfg.winchNode := by
        by_contra hn
        rw [if_neg hn] at hh; cases hh
      exact ⟨cfg, rfl, ha ▸ ho⟩
  · rintro ⟨cfg, hc, ho⟩
    exact ⟨cfg.winchNode, mem_nodes62_of_owned ho, ho, by rw [haltOf_pu hc, if_pos rfl]⟩

/-- R177: PUMP_STOP is placed for the configured pump node exactly when the placement unit owns it and it is not its winch
node. -/
theorem any_stopsPump_iff : nodes62.any (stopsPump s) = true ↔
    ∃ cfg, s.placement.config = some cfg ∧ ownerOf s cfg.pumpNode = some .pu ∧ cfg.pumpNode ≠ cfg.winchNode := by
  simp only [List.any_eq_true, stopsPump, Bool.and_eq_true, beq_iff_eq]
  constructor
  · rintro ⟨a, -, ⟨ho, hh⟩, rfl⟩
    cases hc : s.placement.config with
    | none => -- the default configuration names node 0, which has no owner
      rw [placementConfig, hc] at ho
      cases ho
    | some cfg =>
      rw [placementConfig_of_config hc] at ho hh
      rw [haltOf_pu hc] at hh
      refine ⟨cfg, rfl, ho, fun hn => ?_⟩
      rw [if_pos hn] at hh; cases hh
  · rintro ⟨cfg, hc, ho, hn⟩
    exact ⟨cfg.pumpNode, mem_nodes62_of_owned ho, ⟨ho, by rw [haltOf_pu hc, if_neg hn]⟩, by rw [placementConfig_of_config hc]⟩

end

/-- Settles O48: the queue by its two ways of taking, the list by its three ways of making room, and the sweep as halts in
order. -/
theorem commandsAreQueuedAndHaltsSwept : Obligations.CommandsAreQueuedAndHaltsSwept := by
  refine ⟨fun s node c o => ?_, fun s => ?_⟩
  · intro key q entry halt
    have hqueue : (placeHalt node c o s).sched.queue = q.filter fun e => e.node ≠ node := by
      rw [placeHalt_sched]
      exact List.filter_congr fun e _ => by rw [decide_not]; rfl
    have hpriority : (placeHalt node c o s).sched.priority = priorityWith s node c o s.sched.priority := by
      rw [placeHalt_sched]; rfl
    refine ⟨fun h => ?_, fun hu hk => ?_, fun hu hk hl => ?_, hqueue, fun h => ?_, fun h hl => ?_,
      fun front back e hp h hl hfront he => ?_⟩
    · have ht : queueTakes s node c = false := by
        rw [← Bool.not_eq_true, queueTakes_iff]
        rintro ⟨hu, ⟨e, he, hk⟩ | hl⟩
        · exact h.elim (absurd hu) fun hf => hf.1 e he hk
        · exact h.elim (absurd hu) fun hf => absurd hl (Nat.not_lt.2 hf.2)
      exact ⟨ht, present_of_refused ht⟩
    · have ht : queueTakes s node c = true := queueTakes_iff.2 ⟨hu, .inl hk⟩
      refine ⟨ht, _, present_of_taken s o ht, ?_, fun i e hi => ?_⟩
      · rw [queueWith_of_key hk, List.length_map]
      · rw [queueWith_of_key hk, List.getElem?_map, hi, Option.map_some]
        exact ⟨fun hke => congrArg some (if_pos (sameKey_iff_node_class.2 hke)),
          fun hke => congrArg some (if_neg (mt sameKey_iff_node_class.1 hke))⟩
    · have ht : queueTakes s node c = true := queueTakes_iff.2 ⟨hu, .inr hl⟩
      exact ⟨ht, (present_of_taken s o ht).trans
        (congrArg (fun q => s.onSched fun d => { d with queue := q }) (queueWith_of_fresh hk))⟩
    · rw [hpriority, priorityWith_of_listed h]
    · rw [hpriority, priorityWith_of_unlisted h, priorityRoom_of_room hl]
    · rw [hpriority, priorityWith_of_unlisted h, priorityRoom_of_full hp hl hfront he]
  · have owned (a : Nat) (o : Owner) (ho : ownerOf s a = some o) := haltSweep_owned ho
    have queue := queue_haltSweep s
    have winch := winchCommand_haltSweep s
    have pump := pumpCommand_haltSweep s
    have frame := haltSweep_frame s
    generalize haltSweep s = t at owned queue winch pump frame ⊢
    refine ⟨fun a o ho => ?_, queue, fun h => ?_, fun h => ?_, fun h => ?_, fun h => ?_, fun _ _ => rfl,
      fun cfg a hc => haltOf_pu hc a, frame⟩
    · obtain ⟨hm, hq⟩ := owned a o ho
      exact ⟨⟨_, hm, rfl, rfl, rfl⟩, hq⟩
    · exact winch.trans (if_pos (any_stopsWinch_iff.2 h))
    · exact winch.trans (if_neg (mt any_stopsWinch_iff.1 h))
    · exact pump.trans (if_pos (any_stopsPump_iff.2 h))
    · exact pump.trans (if_neg (mt any_stopsPump_iff.1 h))

end Sys2Proof.Machine
end

section
/-! SUPPORT. The freeze law (R146) and the counter values of a frozen part, through the trip counters, the readers of a
channel, the gauge converter and the rows that fall due. -/

namespace Sys2Proof.Machine

open Sys2Proof Sys2Proof.Config

/-! ### The law over the trip counters -/

section
variable {s t u : State}

theorem tripsHold_iff_counter (s : State) : tripsHold s = true ↔ ∃ q, q < 8 ∧ holdsFreeze (counterAt s q) = true := by
  simp only [tripsHold_iff, holdsFreeze, Bool.and_eq_true]

/-- R146: a change that freezes the part where it lets something new hold it keeps the law. -/
theorem freezeLaw_of_holds (frozen : s.trip.frozen = true → t.trip.frozen = true)
    (station : t.trip.stationFreeze = true → s.trip.stationFreeze = true ∨ t.trip.frozen = true)
    (counter : ∀ q, q < 8 → holdsFreeze (counterAt t q) = true →
      holdsFreeze (counterAt s q) = true ∨ t.trip.frozen = true)
    (law : freezeLaw s) : freezeLaw t := by
  rintro (h | h)
  · exact (station h).elim (fun h => frozen (law (.inl h))) id
  · obtain ⟨q, hq, h⟩ := (tripsHold_iff_counter t).1 h
    exact (counter q hq h).elim (fun h => frozen (law (.inr ((tripsHold_iff_counter s).2 ⟨q, hq, h⟩)))) id

/-- R146: nothing holds a part without a station freeze and without a counter that holds it. -/
theorem freezeLaw_of_free (station : s.trip.stationFreeze = false)
    (counter : ∀ q, q < 8 → holdsFreeze (counterAt s q) = false) : freezeLaw s := by
  rintro (h | h)
  · exact absurd (station.symm.trans h) nofun
  · obtain ⟨q, hq, h⟩ := (tripsHold_iff_counter s).1 h
    exact absurd ((counter q hq).symm.trans h) nofun

theorem freezeLaw_of_trip (h : t.trip = s.trip) (law : freezeLaw s) : freezeLaw t :=
  freezeLaw_of_holds (fun hf => h ▸ hf) (fun hs => .inl (h ▸ hs)) (fun q _ hq => .inl (counterAt_of_trip h q ▸ hq)) law

/-! ### What an act keeps -/

/-- The law stands after the change, and the counter values of a part that was frozen. -/
structure Spared (s t : State) : Prop where
  law : freezeLaw s → freezeLaw t
  value : s.trip.frozen = true → ∀ q, (counterAt t q).value = (counterAt s q).value

/-- A change that no request of the station makes: besides, a frozen part stays frozen, and the same requests are taken
(R157). -/
structure Counted (s t : State) : Prop extends Spared s t where
  frozen : s.trip.frozen = true → t.trip.frozen = true
  taking : takesRequest t = takesRequest s

theorem Spared.of_trip (h : t.trip = s.trip) : Spared s t where
  law := freezeLaw_of_trip h
  value _ q := by rw [counterAt_of_trip h]

theorem Spared.refl (s : State) : Spared s s := .of_trip rfl

/-- A change behind those that leave the part frozen. -/
theorem Spared.after (k : Spared t u) (h : Counted s t) : Spared s u where
  law hs := k.law (h.law hs)
  value hs q := (k.value (h.frozen hs) q).trans (h.value hs q)

/-- A change that leaves the trip counters as they are, behind one that spares them. -/
theorem Spared.trip (h : Spared s t) (k : u.trip = t.trip) : Spared s u where
  law hs := freezeLaw_of_trip k (h.law hs)
  value hs q := by rw [counterAt_of_trip k]; exact h.value hs q

/-- A change behind one that leaves the trip counters as they are. -/
theorem Spared.behind (k : Spared t u) (h : t.trip = s.trip) : Spared s u where
  law hs := k.law (freezeLaw_of_trip h hs)
  value hs q := (k.value (h ▸ hs) q).trans (congrArg Counter.value (counterAt_of_trip h q))

theorem Counted.of_trip (h : t.trip = s.trip) (taking : takesRequest t = takesRequest s := by rfl) : Counted s t where
  toSpared := .of_trip h
  frozen hf := h ▸ hf
  taking := taking

theorem Counted.refl (s : State) : Counted s s := .of_trip rfl

theorem Counted.trans (h : Counted s t) (k : Counted t u) : Counted s u where
  toSpared := k.toSpared.after h
  frozen hs := k.frozen (h.frozen hs)
  taking := k.taking.trans h.taking

/-- The later act, followed by the earlier one. -/
theorem Counted.after (k : Counted t u) (h : Counted s t) : Counted s u := h.trans k

theorem Counted.foldl {α : Type} (f : State → α → State) (hf : ∀ s a, Counted s (f s a)) :
    ∀ (l : List α) (s : State), Counted s (l.foldl f s)
  | [], s => .refl s
  | a :: l, s => (hf s a).trans (Counted.foldl f hf l (f s a))

/-- R157: what a request needs to be taken stands in the ring interface and the station-request block. -/
theorem ReaderFrame.taking (h : ReaderFrame s t) : takesRequest t = takesRequest s := by
  funext bs
  rw [takesRequest, canTake, h.ring, h.station, takesRequest, canTake]

theorem ReaderFrame.counted (h : ReaderFrame s t) (trip : t.trip = s.trip) : Counted s t := .of_trip trip h.taking

theorem TestFrame.counted (h : TestFrame s t) : Counted s t := h.reader.counted h.trip

end

/-! ### The trip counters -/

section
variable (s : State)

theorem look_map_value {f : Counter → Counter} (hf : ∀ c, (f c).value = c.value) (v : Vector Counter 8) (q : Nat) :
    (look (v.map f) q).value = (look v q).value := by
  by_cases hq : q < 8
  · rw [look_map v f q hq, hf]
  · rw [look_of_le _ q (Nat.le_of_not_lt hq), look_of_le _ q (Nat.le_of_not_lt hq)]

/-- R145, R146: a counter that holds the part after an observation held it before, or has overflowed with it. -/
theorem holdsFreeze_observeCounter {frozen : Bool} {o : Observation} {c : Counter}
    (h : holdsFreeze (observeCounter frozen o c) = true) : holdsFreeze c = true ∨ trips frozen o c = true := by
  by_cases hj : frozen = true ∨ (judgeCounter o c).1 = false
  · rw [observeCounter_still hj] at h
    exact .inl h
  · obtain ⟨hf, hc⟩ := not_or.1 hj
    rw [Bool.not_eq_true] at hf
    rw [Bool.not_eq_false] at hc
    rw [observeCounter_raised hf hc, raise] at h
    split at h
    case isTrue hv =>
      refine .inr ?_
      simp only [holdsFreeze, Bool.and_eq_true] at h
      simp only [trips, hf, hc, h.1]
      exact decide_eq_true hv
    case isFalse => exact .inl h

theorem counted_observe (o : Observation) : Counted s (observe o s) where
  law := by
    have station := (reader_observe s o).stationFreeze
    refine freezeLaw_of_holds (fun hf => observe_frozen.2 (.inl hf)) (fun h => .inl (station ▸ h)) fun q hq h => ?_
    rw [counterAt_observe hq] at h
    exact (holdsFreeze_observeCounter h).imp id fun ht => observe_frozen.2 (.inr ⟨q, hq, ht⟩)
  value hf q := by
    rw [counterAt, observe_counters, observed]
    exact look_map_value (fun c => by rw [observeCounter_still (.inl hf)]) _ q
  frozen hf := observe_frozen.2 (.inl hf)
  taking := (reader_observe s o).taking

/-- R144: previous-qualified is all that a change to STALE can touch of a counter. -/
theorem staleCounter_keeps (m : Nat) (c : Counter) :
    (staleCounter m c).value = c.value ∧ holdsFreeze (staleCounter m c) = holdsFreeze c := by
  unfold staleCounter; split
  · split <;> exact ⟨rfl, rfl⟩
  · exact ⟨rfl, rfl⟩

theorem counted_tripStale (m : Nat) : Counted s (tripStale m s) where
  law := freezeLaw_of_holds id .inl fun q hq h => .inl (by
    have hc : counterAt (tripStale m s) q = staleCounter m (counterAt s q) := look_map s.trip.counters _ q hq
    rwa [hc, (staleCounter_keeps m _).2] at h)
  value _ q := look_map_value (fun c => (staleCounter_keeps m c).1) s.trip.counters q
  frozen := id
  taking := rfl

/-! ### The placement unit -/

/-- R124, R128: what a classifier's event touches in the placement unit's answer to it. -/
theorem placementEvent_frame (x : Nat) (k : EventKind) : placementEvent x k s =
    { s with
      anchorTable := (placementEvent x k s).anchorTable, placement := (placementEvent x k s).placement
      log := (placementEvent x k s).log, sched := (placementEvent x k s).sched } := by
  unfold placementEvent; split
  · rfl
  · dsimp only; split
    · split
      · rw [haltPlacementRun_eq]
      · rw [writeOrDrop_eq]; split
        · rfl
        · rw [driveChoice, wantDrive_frame]; rfl
    · rfl

theorem run_judgedDrive (p : RunPhase) : RunFrame s (driveChoice p (judgeStarved p s)) :=
  (run_driveChoice _ p).after (run_judgeStarved s p)

theorem run_placementSample (m : Nat) : RunFrame s (placementSample m s) := by
  unfold placementSample; split
  · split
    · exact run_judgeRun s _
    · exact .refl s
  · split
    · exact run_judgeRun s _
    · exact .refl s
  all_goals exact .refl s

theorem run_tickPlacement : RunFrame s (tickPlacement s) := by
  have h : RunFrame s (s.onRun (tickRun (placementInterval s))) := ⟨rfl, rfl⟩
  unfold tickPlacement; dsimp only; split
  · split
    · exact h
    · exact (run_judgedDrive _ _).after h
  · split
    · exact h
    · exact (run_judgedDrive _ _).after h
  all_goals exact .refl s

theorem run_placementPoint : RunFrame s (placementPoint s) :=
  RunFrame.after (t := writeOrDrop (placementRecord s .point 0 (placementPointData s)) s) ⟨rfl, rfl⟩
    (run_writeOrDrop s _)

theorem counted_placementEvent (x : Nat) (k : EventKind) : Counted s (placementEvent x k s) :=
  (reader_placementEvent s x k).counted (by rw [placementEvent_frame])

theorem counted_placementSample (m : Nat) : Counted s (placementSample m s) :=
  (reader_placementSample s m).counted (run_placementSample s m).trip

theorem counted_placementStale (m : Nat) : Counted s (placementStale m s) :=
  (reader_placementStale s m).counted (by rw [placementStale_frame])

/-! ### The classifiers and the readers of a channel -/

theorem counted_deliverEvent (x : Nat) (k : EventKind) : Counted s (deliverEvent x k s) :=
  (counted_observe _ _).after (counted_placementEvent s x k)

theorem counted_classifierSample (m : Nat) (v : Int) (x : Nat) : Counted s (classifierSample m v s x) := by
  unfold classifierSample; split
  · split
    · unfold judgeSample; split
      · split
        · exact .of_trip rfl
        · exact .refl s
      · split
        · split
          · exact (counted_deliverEvent _ x _).after (.of_trip rfl)
          · exact .of_trip rfl
        · exact .refl s
    · exact .refl s
  · exact .refl s

theorem counted_classifierStale (m x : Nat) : Counted s (classifierStale m s x) := by
  unfold classifierStale; split
  · split
    · exact .of_trip rfl
    · exact .refl s
  · exact .refl s

theorem counted_presentSample (m : Nat) : Counted s (presentSample m s) := by
  unfold presentSample; dsimp only
  exact (counted_observe _ _).after <|
    (Counted.foldl (classifierSample m _) (fun s x => counted_classifierSample s m _ x) channels4 _).after <|
    (counted_placementSample _ m).after <|
    .foldl (fun s n => stressSample m n _ _ s) (fun s n => (frame_stressSample s n m _ _).counted) channels4 s

theorem counted_presentStale (m : Nat) : Counted s (presentStale m s) := by
  unfold presentStale; dsimp only
  exact (counted_tripStale _ m).after <|
    (Counted.foldl (classifierStale m) (fun s x => counted_classifierStale s m x) channels4 _).after <|
    (counted_placementStale _ m).after <|
    .foldl (fun s n => stressStale m n s) (fun s n => (frame_stressStale s n m).counted) channels4 s

theorem counted_deliver (m : Nat) (raw : Word32) : Counted s (deliver m raw s) := by
  unfold deliver; split
  · exact (counted_presentSample _ m).after (.of_trip rfl)
  · exact .refl s

theorem counted_deliverGauge (m g : Nat) (saturated : Bool) : Counted s (deliverGauge m g saturated s) := by
  unfold deliverGauge; split
  · exact (counted_presentSample _ m).after (.of_trip rfl)
  · exact .refl s

/-! ### The gauge converter -/

theorem counted_closeMeasurement : Counted s (closeMeasurement s) :=
  (frame_searchCells (idleConverter s)).counted.after (.of_trip rfl)

theorem counted_endAbnormal (c : Nat) (e : EndFigures) (o : CellOutcome) : Counted s (endAbnormal c e o s) := by
  unfold endAbnormal; dsimp only
  refine (counted_closeMeasurement _).after ((counted_observe _ _).after ?_)
  exact (frame_cellOutcomes _ o none _).counted.after (.of_trip rfl)

theorem counted_endReading (c m : Nat) : Counted s (endReading c m s) := by
  unfold endReading; dsimp only
  refine (counted_closeMeasurement _).after ((frame_cellOutcomes _ _ _ _).counted.after ?_)
  exact (counted_deliverGauge _ _ _ _).after (.of_trip rfl)

theorem counted_endSensing (c m : Nat) : Counted s (endSensing c m s) := by
  unfold endSensing; dsimp only; split
  · exact (counted_endAbnormal _ c _ _).after (.of_trip rfl)
  · exact (counted_endReading _ c m).after (.of_trip rfl)

theorem counted_endEmptyFor : ∀ (fuel : Nat) (s : State), Counted s (endEmptyFor fuel s)
  | 0, s => .refl s
  | fuel + 1, s => by
    unfold endEmptyFor; split
    · exact (counted_endSensing s _ 0).trans (counted_endEmptyFor fuel _)
    · exact .refl s

theorem counted_endEmpty : Counted s (endEmpty s) := counted_endEmptyFor _ s

/-! ### Rows that fall due -/

theorem counted_cureAll : Counted s (cureAll s) := by
  obtain ⟨slots, h⟩ := cureAll_frame (s := s)
  rw [h]; exact .of_trip rfl

theorem counted_haltPlacement (cause : HaltCause) : Counted s (haltPlacement cause s) :=
  (reader_haltPlacement s cause).counted (haltPlacement_trip cause s)

theorem counted_effect (d : Due) : Counted s (effect s d) := by
  cases d with
  | emptySensing => exact counted_endEmpty s
  | siteMinute => exact (counted_cureAll _).after (.of_trip rfl)
  | stale m => exact (counted_presentStale _ m).after (.of_trip rfl)
  | loadTimeout n => exact (frame_haltStress s n _).counted
  | lockRunOut n => exact (frame_haltStress s n _).counted
  | settleInterval n => exact (frame_countInterval s n).counted
  | settleMaximum n => exact (frame_completeUnsettled s n).counted
  | stressPoint n => exact (frame_stressPoint s n).counted
  | winchTimeout => exact counted_haltPlacement s _
  | placementPoint => exact (reader_placementPoint s).counted (run_placementPoint s).trip
  | sustained x => exact (counted_deliverEvent _ x _).after (.of_trip rfl)
  | overlong x => exact (counted_deliverEvent _ x _).after (.of_trip rfl)
  | survey c =>
    show Counted s (surveyRequest c s)
    unfold surveyRequest
    exact (frame_joinRequest _ c _).counted.after (.of_trip rfl)
  | heldRecord n =>
    unfold effect writeHeld; dsimp only; split
    · exact (frame_heldWritten s n _).counted
    · exact .refl s
  | measurement => exact (counted_endEmpty _).after (frame_searchCells s).counted

theorem counted_takeDue (d : Due) : Counted s (takeDue d s) := by
  unfold takeDue; split
  · exact (frame_runPass _).counted.after (counted_effect s d)
  · exact .refl s

theorem counted_settleLoop : ∀ (fuel : Nat) (s : State), Counted s (settleLoop fuel s)
  | 0, s => .refl s
  | fuel + 1, s => by
    unfold settleLoop; split
    · exact (counted_takeDue s _).trans (counted_settleLoop fuel _)
    · exact .refl s

theorem counted_settle : Counted s (settle s) :=
  Counted.after (t := settleLoop settleFuel s) (.of_trip rfl) (counted_settleLoop settleFuel s)

end

end Sys2Proof.Machine
end

section
/-! SUPPORT. The freeze law (R146) and the counter values of a frozen part, through the requests, the ring, the tick and the
pins. -/

namespace Sys2Proof.Machine

open Sys2Proof Sys2Proof.Config

/-! ### The requests of the trip counters (R142, R147 to R149, R198) -/

section
variable {s : State}

theorem trip_haltSweep (s : State) : (haltSweep s).trip = s.trip := by
  obtain ⟨w, p, h⟩ := haltSweep_eq s
  rw [h]

theorem spared_numbered {hi v : Nat} {act : State → State × Reply} (h : Spared s (act s).1) :
    Spared s (numbered hi v act s).1 := by
  unfold numbered; split
  · exact h
  · exact .refl s

/-- R142: a counter loaded into an overflowed, freeze-enabled place freezes the part at once. -/
theorem law_actLoadTrip (q : Nat) (cfg : TripConfig) (law : freezeLaw s) : freezeLaw (actLoadTrip q cfg s).1 := by
  unfold actLoadTrip numbered; split
  · split
    · dsimp only [done]
      generalize hu : s.onTrip _ = u
      have frozen : u.trip.frozen = s.trip.frozen := by rw [← hu]; rfl
      have station : u.trip.stationFreeze = s.trip.stationFreeze := by rw [← hu]; rfl
      have other (i : Nat) (h : i ≠ q) : counterAt u i = counterAt s i := by
        rw [← hu]; exact look_put_other _ _ _ _ h.symm
      split
      case isTrue => exact fun _ => by rw [becomeFrozen_counters]
      case isFalse hq =>
        refine freezeLaw_of_holds (fun h => frozen ▸ h) (fun h => .inl (station ▸ h)) (fun i _ h => ?_) law
        by_cases hi : i = q
        · subst hi
          rw [h, Bool.true_and, Bool.not_eq_true', Bool.not_eq_false] at hq
          exact .inr (frozen.trans hq)
        · exact .inl (other i hi ▸ h)
    · exact law
  · exact law

theorem spared_actFreeze : Spared s (actFreeze s).1 := by
  unfold actFreeze done; dsimp only; split
  case isTrue hf => exact ⟨fun _ _ => hf, fun _ _ => rfl⟩
  case isFalse =>
    refine ⟨fun _ _ => by rw [becomeFrozen_counters], fun _ q => ?_⟩
    rw [counterAt, becomeFrozen_counters]; rfl

/-- R148: the part is unfrozen only where no counter holds it. -/
theorem spared_actThaw : Spared s (actThaw s).1 := by
  unfold actThaw; split
  · exact .refl s
  case isFalse hh =>
    have free (q : Nat) (hq : q < 8) : holdsFreeze (counterAt s q) = false := by
      rw [← Bool.not_eq_true]
      exact fun h => hh ((tripsHold_iff_counter s).2 ⟨q, hq, h⟩)
    split
    · obtain ⟨ht, -⟩ := thawPart_frame s
      have counters (q : Nat) : counterAt (thawPart s) q = counterAt s q := by rw [counterAt, ht]; rfl
      refine ⟨fun _ => freezeLaw_of_free (congrArg Trip.stationFreeze ht) fun q hq => ?_,
        fun _ q => congrArg Counter.value (counters q)⟩
      exact (congrArg holdsFreeze (counters q)).trans (free q hq)
    · exact ⟨fun _ => freezeLaw_of_free rfl free, fun _ _ => rfl⟩

/-- R149: the counters after CLEAR_TRIP. -/
theorem counterAt_actClearTrip (mask : Nat) {q : Nat} (hq : q < 8) : counterAt (actClearTrip mask s).1 q =
    { counterAt s q with overflow := (counterAt s q).overflow && !mask.testBit q } := by
  show look (s.trip.counters.mapIdx _) q = _
  rw [look_of_lt _ _ hq, Vector.getElem_mapIdx, counterAt, look_of_lt _ _ hq]
  split
  case isTrue h => rw [h, Bool.not_true, Bool.and_false]
  case isFalse h => rw [Bool.eq_false_iff.2 h, Bool.not_false, Bool.and_true]

theorem spared_actClearTrip (mask : Nat) : Spared s (actClearTrip mask s).1 where
  law := freezeLaw_of_holds id .inl fun q hq h => .inl (by
    rw [counterAt_actClearTrip mask hq] at h
    simp only [holdsFreeze, Bool.and_eq_true] at h ⊢
    exact ⟨h.1, h.2.1⟩)
  value _ q := by
    by_cases hq : q < 8
    · rw [counterAt_actClearTrip mask hq]
    · rw [counterAt, counterAt, look_of_le _ q (Nat.le_of_not_lt hq), look_of_le _ q (Nat.le_of_not_lt hq)]

/-- R151, R198: a RESTART leaves no counter overflowed and no freeze. -/
theorem law_actRestart : freezeLaw (actRestart s).1 := by
  have ht : (actRestart s).1.trip =
      { counters := s.trip.counters.map restartedCounter, frozen := false, stationFreeze := false } := by
    show (writeReserve _ (haltSweep (restartBlocks s))).trip = _
    rw [(frame_writeReserve _ _).trip, trip_haltSweep, restartBlocks_eq]
  refine freezeLaw_of_free (by rw [ht]) fun q hq => ?_
  rw [counterAt, ht, look_map _ _ q hq]
  exact Bool.and_false _

/-! ### Every request -/

theorem spared_actConfigChannel (m : Nat) (cfg : ChanConfig) : Spared s (actConfigChannel m cfg s).1 := by
  refine spared_numbered ?_
  split
  · exact .refl s
  · split
    · dsimp only [done]; split
      · exact (counted_presentStale _ m).toSpared.after (.of_trip rfl)
      · exact .of_trip rfl
    · exact .refl s

theorem trip_reconfigureCell (c : Nat) (cfg : Option CellConfig) : (reconfigureCell c cfg s).trip = s.trip := by
  unfold reconfigureCell; split
  · rw [searchCells_frame, abortMeasurement_frame]; rfl
  · rfl

theorem trip_bindTo (n : Nat) (b : Binding) (auto : Bool) : (bindTo n b auto s).trip = s.trip := by
  obtain ⟨v, h⟩ := boundWith_frame s n b auto
  rw [bindTo_eq, h]; split <;> rfl

theorem trip_unbind (n : Nat) : (unbind n s).trip = s.trip := by
  obtain ⟨v, h⟩ := setOwner_frame s (bindingOf s n).jack none
  rw [unbind, h]; rfl

theorem trip_configurePlacement (c : PlacementConfig) : (configurePlacement c s).trip = s.trip := by
  obtain ⟨v, h⟩ := releaseNodes_frame s
  obtain ⟨w, hw⟩ := setOwner_frame (releaseNodes s) c.winchNode (some .pu)
  obtain ⟨p, hp⟩ := setOwner_frame ((releaseNodes s).setOwner c.winchNode (some .pu)) c.pumpNode (some .pu)
  rw [configurePlacement, hp, hw, h]; rfl

theorem trip_unconfigurePlacement : (unconfigurePlacement s).trip = s.trip := by
  obtain ⟨v, h⟩ := releaseNodes_frame s
  rw [unconfigurePlacement, h]; rfl

theorem spared_actStartStress (n slot : Nat) : Spared s (actStartStress n slot s).1 := by
  unfold actStartStress
  iterate 9 (split; · exact .refl s)
  exact .of_trip (frame_admit s n slot).trip

theorem spared_actHaltChannel (n : Nat) : Spared s (actHaltChannel n s).1 := by
  refine spared_numbered ?_
  split
  · exact .refl s
  · exact .refl s
  iterate 3 (· exact .of_trip (frame_haltStress s n _).trip)
  · exact .of_trip rfl

theorem spared_actConfigPlacement (cfg : Option PlacementConfig) : Spared s (actConfigPlacement cfg s).1 := by
  unfold actConfigPlacement; split
  · exact .refl s
  · split
    · exact .of_trip trip_unconfigurePlacement
    · iterate 2 (split; · exact .refl s)
      split
      · exact .of_trip (trip_configurePlacement _)
      · exact .refl s

theorem spared_actStartPlace (slot : Nat) : Spared s (actStartPlace slot s).1 := by
  refine spared_numbered ?_
  iterate 6 (split; · exact .refl s)
  split
  · exact .of_trip (run_beginRun s _ slot).trip
  · split
    · exact .of_trip (run_beginRun s _ slot).trip
    · exact .refl s

/-- Of the requests, LOAD_TRIP and RESTART alone can change a counter value of a frozen part. -/
theorem spared_handRequest (r : Request) (load : ∀ q cfg, r ≠ .loadTrip q cfg) (restart : r ≠ .restart) :
    Spared s (handRequest r s).1 := by
  cases r with
  | loadTrip q cfg => exact absurd rfl (load q cfg)
  | restart => exact absurd rfl restart
  | loadAnchor slot d =>
    refine spared_numbered ?_
    iterate 4 (split; · exact .refl s)
    exact .of_trip rfl
  | withdrawAnchor slot =>
    refine spared_numbered (.of_trip ?_)
    dsimp only
    split
    case h_5 => split <;> rfl
    case h_6 => split <;> rfl
    all_goals rfl
  | retryAnchor slot =>
    refine spared_numbered (.of_trip ?_)
    split
    · rfl
    · split <;> rfl
  | loadClass k c =>
    refine spared_numbered (.of_trip ?_)
    split
    · rfl
    · split <;> rfl
  | enqueueStress slot p =>
    refine spared_numbered (.of_trip ?_)
    split
    · rfl
    · split <;> rfl
  | dequeueStress slot => refine spared_numbered (.of_trip ?_); split <;> rfl
  | setExclusion d => refine spared_numbered (.of_trip ?_); split <;> rfl
  | configChannel m c => exact spared_actConfigChannel m c
  | loadTable k bps =>
    refine spared_numbered (.of_trip ?_)
    split
    · rfl
    · split <;> rfl
  | configCell c cfg =>
    refine spared_numbered (.of_trip ?_)
    split
    · rfl
    · split
      · exact trip_reconfigureCell c cfg
      · rfl
  | measureCell c r =>
    refine spared_numbered (.of_trip ?_)
    split
    · rfl
    · exact (frame_joinRequest s c _).trip
  | bindChannel n b auto =>
    refine spared_numbered ?_
    iterate 3 (split; · exact .refl s)
    split
    · exact .of_trip (trip_bindTo n b auto)
    · exact .refl s
  | unbindChannel n =>
    refine spared_numbered ?_
    iterate 2 (split; · exact .refl s)
    exact .of_trip (trip_unbind n)
  | setAutoTake n auto =>
    refine spared_numbered (.of_trip ?_)
    split
    · rfl
    · dsimp only [done]; split <;> rfl
  | startStress n slot => exact spared_actStartStress n slot
  | haltChannel n => exact spared_actHaltChannel n
  | configPlacement cfg => exact spared_actConfigPlacement cfg
  | startPlace slot => exact spared_actStartPlace slot
  | configClassifier x cfg =>
    refine spared_numbered (.of_trip ?_)
    split
    · rfl
    · split <;> rfl
  | clearTrip mask => exact spared_actClearTrip mask
  | freeze => exact spared_actFreeze
  | thaw => exact spared_actThaw
  | configRing timeout => refine .of_trip (?_ : (actConfigRing timeout s).1.trip = _); unfold actConfigRing; split <;> rfl
  | readPending node => refine .of_trip (?_ : (actReadPending node s).1.trip = _); unfold actReadPending; split <;> rfl
  | loadPoll e cfg => refine spared_numbered (.of_trip ?_); split <;> rfl
  | configSchedule p => refine .of_trip (?_ : (actConfigSchedule p s).1.trip = _); unfold actConfigSchedule; split <;> rfl
  | readLog start count =>
    refine .of_trip (?_ : (actReadLog start count s).1.trip = _)
    unfold actReadLog; split
    · rfl
    · split <;> rfl
  | trimLog seq => refine .of_trip (?_ : (actTrimLog seq s).1.trip = _); unfold actTrimLog; split <;> rfl
  | setWatermark w => refine .of_trip (?_ : (actSetWatermark w s).1.trip = _); unfold actSetWatermark; split <;> rfl
  | setTime minute => exact (counted_cureAll _).toSpared.after (.of_trip rfl)
  | readPart part =>
    refine .of_trip (?_ : (actReadPart part s).1.trip = _)
    unfold actReadPart; split
    · rfl
    · split <;> rfl
  | clearEstop =>
    refine .of_trip (?_ : (actClearEstop s).1.trip = _)
    unfold actClearEstop; split
    · rfl
    · split <;> rfl
  | clearOverrun => exact .of_trip rfl
  | readOrder => exact .refl s
  | readPlacement => exact .refl s
  | readTrip => exact .refl s
  | readRing => exact .refl s
  | readPolls => exact .refl s
  | readSchedule => exact .refl s
  | readLogState => exact .refl s
  | readStatus => exact .refl s
  | readAnchor slot => exact spared_numbered (.refl s)
  | readClass k => exact spared_numbered (.refl s)
  | readChannel m => exact spared_numbered (.refl s)
  | readTable k => exact spared_numbered (.refl s)
  | readCell c => exact spared_numbered (.refl s)
  | readStress n => exact spared_numbered (.refl s)
  | readClassifier x => exact spared_numbered (.refl s)

theorem law_handRequest (r : Request) (law : freezeLaw s) : freezeLaw (handRequest r s).1 := by
  by_cases load : ∃ q cfg, r = .loadTrip q cfg
  · obtain ⟨q, cfg, rfl⟩ := load
    exact law_actLoadTrip q cfg law
  · by_cases restart : r = .restart
    · subst restart; exact law_actRestart
    · exact (spared_handRequest r (fun q cfg h => load ⟨q, cfg, h⟩) restart).law law

/-! ### Requests taken -/

theorem trip_respond (tag code : Nat) (r : State × Reply) : (respond tag code r).trip = r.1.trip := by
  unfold respond
  rw [(frame_runPass _).trip, queueResponse_eq]; rfl

theorem law_handBody (code : Nat) (body : List Byte) (law : freezeLaw s) : freezeLaw (handBody code body s).1 := by
  unfold handBody; split
  · exact law_handRequest _ law
  · exact law

theorem law_actLoadPart (target part : Nat) (last : Bool) (bytes : List Byte) (law : freezeLaw s) :
    freezeLaw (actLoadPart target part last bytes s).2.1 := by
  have stored (a : Option Assembly) : freezeLaw (setAssembly a s) := freezeLaw_of_trip rfl law
  unfold actLoadPart; split
  · exact law
  · split
    · exact stored none
    · split
      · exact stored none
      · split
        · exact law_handBody _ _ (stored none)
        · exact stored _

theorem law_takeBody (tag code : Nat) (body : List Byte) (law : freezeLaw s) : freezeLaw (takeBody tag code body s) := by
  unfold takeBody; split
  · split
    · exact freezeLaw_of_trip (trip_respond _ _ _) (law_actLoadPart _ _ _ _ law)
    · exact freezeLaw_of_trip (trip_respond _ _ _) law
  · exact freezeLaw_of_trip (trip_respond _ _ _) (law_handBody _ _ law)

end

/-! ### The ring -/

section
variable (s : State)

theorem trip_breakRing : (breakRing s).trip = s.trip := by
  rw [breakRing_eq, State.onSched_trip, (runsHalted_brokenRuns s).trip, State.onRing_trip]

theorem trip_raiseRing : (raiseRing s).trip = s.trip := by
  rw [raiseRing, State.startPass_trip, trip_haltSweep, State.onRing_trip]

theorem trip_clearRecord (node : Nat) (c : Command) (o : Owner) : (clearRecord node c o s).trip = s.trip := by
  unfold clearRecord; split
  · split <;> rfl
  · split <;> rfl
  · split <;> rfl
  · rfl

theorem trip_reenter (node : Nat) (c : Command) (o : Owner) (priority : Bool) :
    (reenter node c o priority s).trip = s.trip := by
  unfold reenter; split
  · exact (frame_placeHalt s node c o).trip
  · split
    · rfl
    · exact trip_clearRecord s node c o

theorem trip_nodeAbsent (node : Nat) : (nodeAbsent node s).trip = s.trip := by
  unfold nodeAbsent; split
  · exact (frame_haltStress s _ _).trip
  · exact haltPlacement_trip _ s
  · rfl

theorem trip_reportFailed (node tag : Nat) (c : Command) (o : Owner) (priority : Bool) :
    (reportFailed node tag c o priority s).trip = s.trip := by
  unfold reportFailed; split
  · dsimp only; split
    · rfl
    · exact trip_reenter _ node c o priority
  · exact trip_nodeAbsent _ node

theorem trip_endPoll (e : Nat) (detached : Bool) : (endPoll e detached s).trip = s.trip := by
  unfold endPoll; split <;> rfl

theorem trip_handleLoss (f : InFlight) : (handleLoss f s).trip = s.trip := by
  unfold handleLoss; split
  · exact trip_endPoll s _ _
  · exact trip_reportFailed s _ _ _ _ _
  · split <;> rfl

theorem trip_loseEntry (f : InFlight) : (loseEntry f s).trip = s.trip := by
  unfold loseEntry; dsimp only; split
  · split
    · exact trip_handleLoss _ f
    · exact trip_breakRing _
  · exact trip_handleLoss _ f

theorem counted_returnPoll (bs : List Byte) (slots : List (Option Nat)) : Counted s (returnPoll bs slots s) := by
  unfold returnPoll; split
  · split
    · refine .foldl _ (fun s p => ?_) _ s
      split
      · exact (frame_runPass _).counted.after ((counted_endEmpty _).after (counted_deliver s _ _))
      · exact .refl s
    · exact counted_observe s _
  · exact .refl s

theorem spared_returnOwn (f : InFlight) (bs : List Byte) : Spared s (returnOwn f bs s) := by
  unfold returnOwn; dsimp only; split
  · exact (counted_returnPoll _ bs _).toSpared.behind (trip_endPoll _ _ _)
  · split
    · exact .of_trip rfl
    · exact .of_trip (trip_reportFailed _ _ _ _ _ _)
  · split
    · exact .of_trip (trip_raiseRing _)
    · exact .of_trip rfl

/-! ### Foreign frames (R154, R157) -/

theorem trip_forward (bs : List Byte) (u : State) : (forward bs u).trip = u.trip := rfl

theorem law_foreignFrame (bs : List Byte) (law : freezeLaw s) : freezeLaw (foreignFrame bs s) := by
  unfold foreignFrame; split
  · split
    · exact freezeLaw_of_trip (trip_forward _ _) (law_takeBody _ _ _ law)
    · exact freezeLaw_of_trip (trip_forward _ _) law
  · split <;> exact freezeLaw_of_trip (trip_forward _ _) law

variable {s}

/-- A foreign frame that is not taken as a request of the station is forwarded alone. -/
theorem spared_foreignFrame {bs : List Byte}
    (h : ¬(byteAt bs 0 = 0 ∧ byteAt bs 2 = 3 ∧ takesRequest s bs = true)) : Spared s (foreignFrame bs s) := by
  unfold foreignFrame; split
  case isTrue hk =>
    rw [if_neg fun ht => h ⟨hk.2, hk.1, ht⟩]
    exact .of_trip (trip_forward _ _)
  case isFalse => split <;> exact .of_trip (trip_forward _ _)

/-- A frame at port A that passed the check and has not passed the master is foreign; every other one spares the
counters (R153, R154, R159). -/
theorem arrive_cases (bs : List Byte) (s : State) : Spared s (arrive bs s)
    ∨ (arrive bs s = foreignFrame bs s ∧ malformed bs = false ∧ crcGood bs = true ∧ (bs[3]?.getD 0) &&& 4 = 0) := by
  have error : Spared s (observe .ringError s) := (counted_observe s .ringError).toSpared
  unfold arrive; split
  case isTrue =>
    refine .inl ?_
    unfold badFrame; dsimp only; split
    · exact error.trip (trip_loseEntry _ _)
    · exact error
  case isFalse hc =>
    rw [Bool.or_eq_true, not_or, Bool.not_eq_true, Bool.not_eq_true', Bool.not_eq_false] at hc
    unfold disposeFrame; split
    · split
      · exact .inl (spared_returnOwn s _ bs)
      · exact .inl error
    · split
      · exact .inl error
      · split
        · exact .inl error
        case isFalse hp =>
          rw [marked, Bool.not_eq_true', Bool.not_eq_false, beq_iff_eq] at hp
          exact .inr ⟨rfl, hc.1, hc.2, hp⟩

theorem law_arrive (bs : List Byte) (law : freezeLaw s) : freezeLaw (arrive bs s) := by
  obtain h | ⟨h, -⟩ := arrive_cases bs s
  · exact h.law law
  · rw [h]; exact law_foreignFrame s bs law

/-- R157: only a frame that is taken as a request of the station can set a counter of a frozen part. -/
theorem spared_arrive {bs : List Byte} (h : ¬(malformed bs = false ∧ crcGood bs = true ∧ byteAt bs 0 = 0
    ∧ byteAt bs 2 = 3 ∧ (bs[3]?.getD 0) &&& 4 = 0 ∧ takesRequest s bs = true)) : Spared s (arrive bs s) := by
  obtain hs | ⟨hf, hm, hc, hp⟩ := arrive_cases bs s
  · exact hs
  · rw [hf]
    exact spared_foreignFrame fun ⟨hd, hk, ht⟩ => h ⟨hm, hc, hd, hk, hp, ht⟩

/-! ### Port B, pins and time -/

theorem trip_passOver (u : State) : (passOver u).trip = u.trip := by
  unfold passOver; split <;> rfl

theorem trip_judgeMode (u : State) : (judgeMode u).trip = u.trip := by
  unfold judgeMode; split <;> split <;> rfl

theorem trip_carryOut (u : State) (c : Choice) : (carryOut u c).trip = u.trip := by
  cases c with
  | halt e => exact trip_passOver _
  | command e => exact trip_passOver _
  | poll e c => exact trip_passOver _
  | response r => rfl
  | nothing => rfl

theorem trip_sendProbe (u : State) : (sendProbe u).trip = u.trip := by
  unfold sendProbe; split <;> rfl

theorem trip_insert (u : State) : (insert u).trip = u.trip := by
  unfold insert; split
  · split
    · split
      · exact (trip_carryOut _ _).trans (trip_judgeMode u)
      · rfl
    · exact trip_sendProbe u
    · exact trip_sendProbe u
  · rfl

theorem trip_forwardOldest (u : State) : (forwardOldest u).trip = u.trip := by
  unfold forwardOldest; split <;> rfl

theorem trip_endTransmission (u : State) : (endTransmission u).trip = u.trip := by
  unfold endTransmission; split <;> rfl

theorem trip_expire (tag : Nat) (u : State) : (expire tag u).trip = u.trip := by
  unfold expire; split
  · exact trip_loseEntry _ _
  · rfl

theorem trip_loseSignal (u : State) : (loseSignal u).trip = u.trip := by
  unfold loseSignal; split
  · exact trip_breakRing u
  · rfl

theorem trip_latchEstop (u : State) : (latchEstop u).trip = u.trip := by
  unfold latchEstop; dsimp only
  rw [(frame_writeReserve _ _).trip, trip_haltSweep, haltPlacement_trip, (frame_haltAllStress _ _).trip,
    State.onStation_trip]

theorem trip_assertLine (u : State) : (assertLine u).trip = u.trip := by
  unfold assertLine; dsimp only; split
  · rfl
  · exact trip_latchEstop _

theorem trip_advanceTick (u : State) : (advanceTick u).trip = u.trip :=
  (run_tickPlacement _).trip.trans (frame_foldl tickStress frame_tickStress channels4 (countTick u)).trip

theorem law_powerOn (straps : Nat) (line : Bool) (u : State) : freezeLaw (powerOn straps line u) := by
  have start : freezeLaw { State.power (straps % 64) line with pending := u.pending } :=
    freezeLaw_of_free rfl fun q hq => congrArg holdsFreeze (look_replicate Counter.reset q hq)
  unfold powerOn; dsimp only; split
  · exact freezeLaw_of_trip (trip_latchEstop _) start
  · exact start

/-! ### The ends of the converter's phases -/

variable (s)

theorem spared_referenceEnds (k : Nat) : Spared s (referenceEnds k s) := by
  unfold referenceEnds; split
  · split
    · exact (counted_endEmpty _).toSpared.behind rfl
    · exact .refl s
  · exact .refl s

theorem spared_referenceLost (mc : Nat) : Spared s (referenceLost mc s) := by
  unfold referenceLost; split
  · split
    · exact (counted_endEmpty _).toSpared.after ((counted_endAbnormal _ _ _ _).after (.of_trip rfl))
    · exact .refl s
  · exact .refl s

theorem spared_sensingEnds (m : Nat) : Spared s (sensingEnds m s) := by
  unfold sensingEnds; split
  · split
    · exact (counted_endEmpty _).toSpared.after (counted_endSensing s _ m)
    · exact .refl s
  · exact .refl s

theorem spared_sensingHigh (tc : Nat) : Spared s (sensingHigh tc s) := by
  unfold sensingHigh; split
  · split
    · exact (counted_endEmpty _).toSpared.after ((counted_endAbnormal _ _ _ _).after (.of_trip rfl))
    · exact .refl s
  · exact .refl s

end

end Sys2Proof.Machine
end

section
/-! SUPPORT. Every command keeps the freeze law (R146), and the counter values of a frozen part but for the commands that the
rules except; the statement of both. -/

namespace Sys2Proof.Machine

open Sys2Proof Sys2Proof.Config

/-- R146: the command is none of those that can set a counter value of a frozen part: the power-on reset, LOAD_TRIP,
RESTART, a part of a long body, and a frame that is taken as a request of the station. -/
def SparesCounters (s : State) (c : Instr) : Prop :=
  (∀ straps line, c ≠ .powerOnReset straps line) ∧ (∀ tag q cfg, c ≠ .loadTrip tag q cfg)
    ∧ (∀ tag, c ≠ .restart tag) ∧ (∀ tag target part last bytes, c ≠ .loadPart tag target part last bytes)
    ∧ (∀ clock bs, c = .frameArrival clock bs →
        ¬(malformed bs = false ∧ crcGood bs = true ∧ byteAt bs 0 = 0 ∧ byteAt bs 2 = 3
          ∧ (bs[3]?.getD 0) &&& 4 = 0 ∧ takesRequest s bs = true))

/-- R146: what a command keeps: the law, and the counter values of a frozen part where it spares them. -/
structure Commanded (c : Instr) (s t : State) : Prop where
  law : freezeLaw s → freezeLaw t
  spared : SparesCounters s c → Spared s t

section
variable {s t : State} {c : Instr}

theorem Spared.commanded (h : Spared s t) : Commanded c s t := ⟨h.law, fun _ => h⟩

theorem commanded_takeDue (d : Due) (he : Host.Outcome.next (takeDue d s) = (.next t : Result)) : Commanded c s t := by
  cases he
  exact (counted_takeDue s d).toSpared.commanded

theorem commanded_event {act : State → State} (he : event act s = .next t) (h : ∀ u, Spared u (act u)) :
    Commanded c s t := by
  cases he
  exact (((h _).trip (frame_runPass _).trip).after (counted_settle s)).commanded

/-- R157: what the request's act keeps behind what is due, its response keeps. -/
theorem law_request {tag code : Nat} {act : State → State × Reply} (he : request tag code act s = .next t)
    (h : ∀ u, freezeLaw u → freezeLaw (act u).1) (law : freezeLaw s) : freezeLaw t := by
  have settled := (counted_settle s).law law
  unfold request at he
  cases he
  split
  · exact freezeLaw_of_trip (trip_respond _ _ _) (h _ settled)
  · exact settled

theorem spared_request {tag code : Nat} {act : State → State × Reply} (he : request tag code act s = .next t)
    (h : ∀ u, Spared u (act u).1) : Spared s t := by
  unfold request at he
  cases he
  split
  · exact ((h _).trip (trip_respond _ _ _)).after (counted_settle s)
  · exact (counted_settle s).toSpared

/-- Every request row is the request as the station's frame carries it (log 1). -/
theorem exec_rowOf (tag : Nat) (r : Request) (s : State) :
    exec (rowOf tag r) s = request tag (requestCode r) (handRequest r) s := by cases r <;> rfl

theorem commanded_row (tag : Nat) (r : Request) (he : exec (rowOf tag r) s = .next t) : Commanded (rowOf tag r) s t := by
  rw [exec_rowOf] at he
  refine ⟨law_request he fun _ => law_handRequest r, fun ⟨_, load, restart, _⟩ => spared_request he fun _ => ?_⟩
  refine spared_handRequest r (fun q cfg h => ?_) fun h => ?_
  · subst h; exact load tag q cfg rfl
  · subst h; exact restart tag rfl

theorem commanded_loadPart (tag target part : Nat) (last : Bool) (bytes : List Byte)
    (he : execLoadPart tag target part last bytes s = .next t) : Commanded (.loadPart tag target part last bytes) s t where
  law law := by
    have settled := (counted_settle s).law law
    unfold execLoadPart at he
    cases he
    split
    · exact freezeLaw_of_trip (trip_respond _ _ _) (law_actLoadPart _ _ _ _ settled)
    · exact settled
  spared := fun ⟨_, _, _, loadPart, _⟩ => absurd rfl (loadPart tag target part last bytes)

theorem commanded_unowned (tag code : Nat) (body : List Byte) (he : execUnownedRequestCode tag code body s = .next t) :
    Commanded c s t := by
  unfold execUnownedRequestCode at he
  split at he
  · cases he; exact (counted_settle s).toSpared.commanded
  · exact (spared_request he fun u => .refl u).commanded

/-- R153, R157: a frame is judged by the part as it stands when what is due has been carried out, and takes the same
requests. -/
theorem commanded_frameArrival (clock : Word32) (bs : List Byte) (he : execFrameArrival clock bs s = .next t) :
    Commanded (.frameArrival clock bs) s t := by
  have taking : takesRequest (setClock clock (settle s)) = takesRequest s := (counted_settle s).taking
  unfold execFrameArrival event at he
  cases he
  refine ⟨fun law => freezeLaw_of_trip (frame_runPass _).trip ?_, fun ⟨_, _, _, _, frame⟩ => ?_⟩
  · exact law_arrive bs (freezeLaw_of_trip (s := settle s) rfl ((counted_settle s).law law))
  · have h := frame clock bs rfl
    rw [← taking] at h
    have arrived : Spared (settle s) (arrive bs (setClock clock (settle s))) := (spared_arrive h).behind rfl
    exact (arrived.trip (frame_runPass _).trip).after (counted_settle s)

/-- R146: every command keeps the freeze law, and the counter values of a frozen part where it spares them. -/
theorem commanded_exec (c : Instr) (he : exec c s = .next t) : Commanded c s t := by
  cases c with
  | powerOnReset straps line =>
    cases he
    exact ⟨fun _ => law_powerOn straps line s, fun ⟨power, _⟩ => absurd rfl (power straps line)⟩
  | estopAsserted => exact commanded_event he fun u => .of_trip (trip_assertLine u)
  | estopLineDeasserted =>
    exact commanded_event (act := fun s => s.onStation fun t => { t with line := false }) he fun u => .of_trip rfl
  | lossOfSignal => exact commanded_event he fun u => .of_trip (trip_loseSignal u)
  | frameArrival clock frame => exact commanded_frameArrival clock frame he
  | forwardTransmit => exact commanded_event he fun u => .of_trip (trip_forwardOldest u)
  | insertionOpportunity => exact commanded_event he fun u => .of_trip (trip_insert u)
  | frameTransmitted clock =>
    refine commanded_event
      (act := fun s => if s.ring.transmitter.isSome then endTransmission (setClock clock s) else s) he fun u => ?_
    split
    · exact .of_trip (trip_endTransmission _)
    · exact .refl u
  | entryExpiry tag => exact commanded_event he fun u => .of_trip (trip_expire tag u)
  | tickAdvance => exact commanded_event he fun u => .of_trip (trip_advanceTick u)
  | referenceEnd k => exact commanded_event he fun u => spared_referenceEnds u k
  | refLost mc => exact commanded_event he fun u => spared_referenceLost u mc
  | sensingEnd m => exact commanded_event he fun u => spared_sensingEnds u m
  | senseHigh tc => exact commanded_event he fun u => spared_sensingHigh u tc
  | siteMinuteAdvance => exact commanded_takeDue _ he
  | channelStale m => exact commanded_takeDue _ he
  | surveyRequest c => exact commanded_takeDue _ he
  | measurementStart => exact commanded_takeDue _ he
  | loadTimeout n => exact commanded_takeDue _ he
  | settleInterval n => exact commanded_takeDue _ he
  | settleMaximum n => exact commanded_takeDue _ he
  | lockWindowRunOut n => exact commanded_takeDue _ he
  | stressPointDue n => exact commanded_takeDue _ he
  | placementPointDue => exact commanded_takeDue _ he
  | winchTimeout => exact commanded_takeDue _ he
  | sustained x => exact commanded_takeDue _ he
  | overlong x => exact commanded_takeDue _ he
  | heldRecordWrite n => exact commanded_takeDue _ he
  | unownedRequestCode tag code body => exact commanded_unowned tag code body he
  | loadPart tag target part last bytes => exact commanded_loadPart tag target part last bytes he
  | loadAnchor tag slot d => exact commanded_row tag (.loadAnchor slot d) he
  | readAnchor tag slot => exact commanded_row tag (.readAnchor slot) he
  | withdrawAnchor tag slot => exact commanded_row tag (.withdrawAnchor slot) he
  | retryAnchor tag slot => exact commanded_row tag (.retryAnchor slot) he
  | loadClass tag k c => exact commanded_row tag (.loadClass k c) he
  | readClass tag k => exact commanded_row tag (.readClass k) he
  | enqueueStress tag slot p => exact commanded_row tag (.enqueueStress slot p) he
  | dequeueStress tag slot => exact commanded_row tag (.dequeueStress slot) he
  | readOrder tag => exact commanded_row tag .readOrder he
  | setExclusion tag d => exact commanded_row tag (.setExclusion d) he
  | configChannel tag m c => exact commanded_row tag (.configChannel m c) he
  | readChannel tag m => exact commanded_row tag (.readChannel m) he
  | loadTable tag k bps => exact commanded_row tag (.loadTable k bps) he
  | readTable tag k => exact commanded_row tag (.readTable k) he
  | configCell tag c cfg => exact commanded_row tag (.configCell c cfg) he
  | measureCell tag c r => exact commanded_row tag (.measureCell c r) he
  | readCell tag c => exact commanded_row tag (.readCell c) he
  | bindChannel tag n b auto => exact commanded_row tag (.bindChannel n b auto) he
  | unbindChannel tag n => exact commanded_row tag (.unbindChannel n) he
  | setAutoTake tag n auto => exact commanded_row tag (.setAutoTake n auto) he
  | readStress tag n => exact commanded_row tag (.readStress n) he
  | startStress tag n slot => exact commanded_row tag (.startStress n slot) he
  | haltChannel tag n => exact commanded_row tag (.haltChannel n) he
  | configPlacement tag cfg => exact commanded_row tag (.configPlacement cfg) he
  | readPlacement tag => exact commanded_row tag .readPlacement he
  | startPlace tag slot => exact commanded_row tag (.startPlace slot) he
  | configClassifier tag x cfg => exact commanded_row tag (.configClassifier x cfg) he
  | readClassifier tag x => exact commanded_row tag (.readClassifier x) he
  | loadTrip tag q cfg => exact commanded_row tag (.loadTrip q cfg) he
  | clearTrip tag mask => exact commanded_row tag (.clearTrip mask) he
  | readTrip tag => exact commanded_row tag .readTrip he
  | freeze tag => exact commanded_row tag .freeze he
  | thaw tag => exact commanded_row tag .thaw he
  | configRing tag timeout => exact commanded_row tag (.configRing timeout) he
  | readRing tag => exact commanded_row tag .readRing he
  | readPending tag node => exact commanded_row tag (.readPending node) he
  | loadPoll tag e cfg => exact commanded_row tag (.loadPoll e cfg) he
  | readPolls tag => exact commanded_row tag .readPolls he
  | configSchedule tag p => exact commanded_row tag (.configSchedule p) he
  | readSchedule tag => exact commanded_row tag .readSchedule he
  | readLog tag start count => exact commanded_row tag (.readLog start count) he
  | trimLog tag seq => exact commanded_row tag (.trimLog seq) he
  | setWatermark tag w => exact commanded_row tag (.setWatermark w) he
  | clearOverrun tag => exact commanded_row tag .clearOverrun he
  | readLogState tag => exact commanded_row tag .readLogState he
  | readStatus tag => exact commanded_row tag .readStatus he
  | setTime tag minute => exact commanded_row tag (.setTime minute) he
  | restart tag => exact commanded_row tag .restart he
  | readPart tag part => exact commanded_row tag (.readPart part) he
  | clearEstop tag => exact commanded_row tag .clearEstop he

theorem step_cases (he : step s = .next t) : (s.pending = [] ∧ t = settle s)
    ∨ ∃ c rest, s.pending = c :: rest ∧ exec c { s with pending := rest } = .next t := by
  unfold step at he
  split at he
  case h_1 h => cases he; exact .inl ⟨h, rfl⟩
  case h_2 c rest h => exact .inr ⟨c, rest, h, he⟩

end

/-- Settles O7, from what every command keeps. -/
theorem freezeLawIsKept : Obligations.FreezeLawIsKept := by
  refine ⟨fun s t law he => ?_, fun s t hf he spares => ?_⟩
  · obtain ⟨-, rfl⟩ | ⟨c, rest, -, hc⟩ := step_cases he
    · exact (counted_settle s).law law
    · exact (commanded_exec c hc).law (freezeLaw_of_trip rfl law)
  · obtain ⟨-, rfl⟩ | ⟨c, rest, hp, hc⟩ := step_cases he
    · exact (counted_settle s).value hf
    · exact ((commanded_exec c hc).spared (spares c (by rw [hp]; rfl))).value hf

end Sys2Proof.Machine
end

section
/-! SUPPORT. The classifiers by their configuration, their samples and their events (R135 to R138, R140), and CLEAR_TRIP
(R149). -/

namespace Sys2Proof.Machine

open Sys2Proof Sys2Proof.Config

/-! ### CONFIG_CLASSIFIER (R135) -/

theorem classifierItemsInRange_iff (cfg : Option ClassifierConfig) : classifierItemsInRange cfg = true ↔
    ¬∃ c ∈ cfg.toList, ¬(c.watched ≤ 23 ∧ -8388608 ≤ c.level ∧ c.level ≤ 16777215 ∧ c.hysteresis ≤ 8388607
      ∧ c.tSpike < c.tHold ∧ c.tHold < c.tLong ∧ c.tLong ≤ 65535) := by
  cases cfg with
  | none => simp [classifierItemsInRange]
  | some c => simp [classifierItemsInRange, classifierConfigInRange, within, withinInt, and_assoc]

theorem exec_configClassifier {s : State} (h : takesNow s) (tag x : Nat) (cfg : Option ClassifierConfig) :
    exec (.configClassifier tag x cfg) s = .next (
      if 3 < x then refused tag 0x40 .badValue s
      else if classifierInUse s x = true then refused tag 0x40 .inUse s
      else if classifierItemsInRange cfg = true then
        answered tag 0x40 none [] (s.onClassifier x fun _ => { config := cfg, mode := .quiet, start := none })
      else refused tag 0x40 .badValue s) := by
  have hp := passDue_of_takesNow h
  show request tag 0x40 (actConfigClassifier x cfg) s = _
  rw [request_of_takesNow h, actConfigClassifier, respond_numbered _ _ _ hp]
  exact congrArg Host.Outcome.next
    (if_congr .rfl rfl (respond_check hp .rfl (respond_check_last hp .rfl (respond_done _ hp))))

/-! ### A sample of the watched channel (R136, R138) -/

section
variable {s : State} {x m : Nat} {v : Int} {c : ClassifierConfig}

theorem beyondLevel_iff : beyondLevel c v = true ↔ match c.side with
    | .above => c.level ≤ v
    | .below => v ≤ c.level := by
  unfold beyondLevel
  cases c.side <;> exact decide_eq_true_iff

theorem cameBack_iff : cameBack c v = true ↔ match c.side with
    | .above => v < c.level - c.hysteresis
    | .below => c.level + c.hysteresis < v := by
  unfold cameBack
  cases c.side <;> exact decide_eq_true_iff

theorem classifierSample_of_watched (hc : (classifierAt s x).config = some c) (hw : c.watched = m) :
    classifierSample m v s x = judgeSample x c v s := by
  rw [classifierSample, hc]; exact if_pos hw

theorem judgeSample_of_quiet (h : (classifierAt s x).mode = .quiet) : judgeSample x c v s =
    if beyondLevel c v = true then s.onClassifier x fun k => { k with mode := .excursion, start := some (now s) } else s :=
  if_pos h

theorem judgeSample_of_stays (h : (classifierAt s x).mode ≠ .quiet) (hb : ¬cameBack c v = true) :
    judgeSample x c v s = s :=
  (if_neg h).trans (if_neg hb)

/-- R138: the end of an excursion that has an event. -/
theorem judgeSample_of_event (h : (classifierAt s x).mode ≠ .quiet) (hb : cameBack c v = true) {k : EventKind}
    (he : endEvent c (classifierAt s x).mode (duration s x) = some k) :
    judgeSample x c v s = deliverEvent x k (quietClassifier x s) := by
  rw [judgeSample, if_neg h, if_pos hb, he]

/-- R138: the end of an excursion that has none. -/
theorem judgeSample_of_silent (h : (classifierAt s x).mode ≠ .quiet) (hb : cameBack c v = true)
    (he : endEvent c (classifierAt s x).mode (duration s x) = none) : judgeSample x c v s = quietClassifier x s := by
  rw [judgeSample, if_neg h, if_pos hb, he]

theorem endEvent_short {d : Nat} (h : d < c.tSpike) :
    endEvent c .excursion d = if c.spikeReject = true then none else some .spike := if_pos h

theorem endEvent_long {d : Nat} (h : c.tSpike ≤ d) : endEvent c .excursion d = some .surge := if_neg (Nat.not_lt.2 h)

/-! ### The tick (R137, R140) -/

theorem observe_classifiers (o : Observation) (s : State) : (observe o s).classifiers = s.classifiers := by
  rw [observe_eq]; split
  · rw [becomeFrozen_eq]; rfl
  · rfl

/-- R140: the delivery of an event leaves the classifiers, and the pass behind it. -/
theorem classifierAt_delivered (y : Nat) (k : EventKind) (u : State) :
    classifierAt (runPass (deliverEvent y k u)) x = classifierAt u x := by
  rw [classifierAt, (frame_runPass _).classifiers, deliverEvent, observe_classifiers, placementEvent_frame, classifierAt]

theorem classifierAt_onClassifier_same (h : x < 4) (f : Classifier → Classifier) :
    classifierAt (s.onClassifier x f) x = f (classifierAt s x) := by
  rw [classifierAt_onClassifier, if_pos ⟨rfl, h⟩]

theorem sustainedDue_of (hc : (classifierAt s x).config = some c) (hm : (classifierAt s x).mode = .excursion)
    (hd : c.tHold ≤ duration s x) : sustainedDue s x = true := by
  rw [sustainedDue, hc, hm]; exact decide_eq_true hd

theorem overlongDue_of (hc : (classifierAt s x).config = some c) (hm : (classifierAt s x).mode = .declared)
    (hd : c.tLong ≤ duration s x) : overlongDue s x = true := by
  rw [overlongDue, hc, hm]; exact decide_eq_true hd

theorem exec_sustained (hx : x < 4) (ht : s.tickOpen = true) (hd : sustainedDue s x = true) :
    exec (.sustained x) s = .next (runPass (declare x s)) := by
  have h : isDue s (.sustained x) = true := by rw [isDue, ht, decide_eq_true hx, hd]; rfl
  exact congrArg Host.Outcome.next (if_pos h)

theorem exec_overlong (hx : x < 4) (ht : s.tickOpen = true) (hd : overlongDue s x = true) :
    exec (.overlong x) s = .next (runPass (overlongEvent x s)) := by
  have h : isDue s (.overlong x) = true := by rw [isDue, ht, decide_eq_true hx, hd]; rfl
  exact congrArg Host.Outcome.next (if_pos h)

end

/-- Settles O44: the checks of CONFIG_CLASSIFIER, a sample by the classifier's state, and the two events of a tick. -/
theorem classifiersFollowTheirChannel : Obligations.ClassifiersFollowTheirChannel := by
  refine ⟨fun s tag x cfg h => ?_, fun s x m v c hc hw => ?_, fun s x c hx ht hc => ?_⟩
  · rw [exec_configClassifier h]
    exact congrArg Host.Outcome.next (if_congr .rfl rfl (if_congr .rfl rfl
      ((if_congr (classifierItemsInRange_iff cfg) rfl rfl).trans (ite_not _ _ _))))
  · intro beyond back lasted quieted deliver
    rw [classifierSample_of_watched hc hw]
    have hl : duration s x = lasted := rfl
    have started (h : (classifierAt s x).mode = .excursion) : (classifierAt s x).mode ≠ .quiet := by rw [h]; nofun
    refine ⟨fun h hb => ?_, fun h hb => ?_, fun h hb => judgeSample_of_stays h (mt cameBack_iff.1 hb),
      fun h hb hd hs => ?_, fun h hb hd hs => ?_, fun h hb hd => ?_, fun h hb => ?_⟩
    · rw [judgeSample_of_quiet h, if_pos (beyondLevel_iff.2 hb)]
    · rw [judgeSample_of_quiet h, if_neg (mt beyondLevel_iff.1 hb)]
    · exact judgeSample_of_event (started h) (cameBack_iff.2 hb) (by rw [h, hl, endEvent_short hd, hs]; rfl)
    · exact judgeSample_of_silent (started h) (cameBack_iff.2 hb) (by rw [h, hl, endEvent_short hd, hs]; rfl)
    · exact judgeSample_of_event (started h) (cameBack_iff.2 hb) (by rw [h, hl, endEvent_long hd])
    · rcases h with h | h
      · exact judgeSample_of_silent (by rw [h]; nofun) (cameBack_iff.2 hb) (by rw [h]; rfl)
      · exact judgeSample_of_silent (by rw [h]; nofun) (cameBack_iff.2 hb) (by rw [h]; rfl)
  · intro lasted
    refine ⟨fun hm hd => ⟨_, exec_sustained hx ht (sustainedDue_of hc hm hd), rfl, ?_⟩,
      fun hm hd => ⟨_, exec_overlong hx ht (overlongDue_of hc hm hd), rfl, ?_⟩⟩
    · rw [declare, classifierAt_delivered, classifierAt_onClassifier_same hx]
    · rw [overlongEvent, classifierAt_delivered, classifierAt_onClassifier_same hx]

/-- Settles O47, counter by counter. -/
theorem clearTripClearsTheMarks : Obligations.ClearTripClearsTheMarks := by
  refine fun s tag mask h => ⟨(actClearTrip mask s).1.trip, ?_, rfl, rfl, fun q hq => counterAt_actClearTrip mask hq⟩
  show request tag 0x43 (actClearTrip mask) s = _
  rw [request_of_takesNow h]
  exact congrArg Host.Outcome.next (respond_done _ (passDue_of_takesNow h))

end Sys2Proof.Machine
end

section
/-! SUPPORT. The tables of the ring interface that R157, R158 and R163 bound, and the commands that wait: nearly
every act of the part leaves the ring interface and the waiting commands aside. -/

namespace Sys2Proof.Machine

open Sys2Proof Sys2Proof.Config

/-! ### What an act keeps -/

/-- The ring interface and the commands that wait are as they were. -/
structure Aside (s t : State) : Prop where
  ring : t.ring = s.ring
  pending : t.pending = s.pending

/-- The bounds of the ring's tables stand after the change, and the commands that wait are as they were. -/
structure Bounded (s t : State) : Prop where
  pending : t.pending = s.pending
  bounds : ringInBounds s.ring → ringInBounds t.ring

/-- A change that queues no response: a response that found room before it finds room after it (R157). -/
structure Roomy (s t : State) : Prop extends Bounded s t where
  waiting : t.ring.responses.length ≤ s.ring.responses.length

section
variable {s t u : State}

theorem Aside.refl (s : State) : Aside s s := ⟨rfl, rfl⟩

theorem Aside.after (k : Aside t u) (h : Aside s t) : Aside s u := ⟨k.ring.trans h.ring, k.pending.trans h.pending⟩

theorem Aside.foldl {α : Type} (f : State → α → State) (hf : ∀ s a, Aside s (f s a)) :
    ∀ (l : List α) (s : State), Aside s (l.foldl f s)
  | [], s => .refl s
  | a :: l, s => (Aside.foldl f hf l (f s a)).after (hf s a)

theorem ReaderFrame.aside (h : ReaderFrame s t) : Aside s t := ⟨h.ring, h.pending⟩

theorem TestFrame.aside (h : TestFrame s t) : Aside s t := h.reader.aside

/-- What the bounds read of the ring interface: its state, the responses, the tags of the own frames, and the probe. -/
theorem ringInBounds_congr {r r' : Ring} (state : r'.state = r.state) (responses : r'.responses = r.responses)
    (own : ownTags r' = ownTags r) (probe : r'.probeDue = r.probeDue) (h : ringInBounds r) : ringInBounds r' := by
  unfold ringInBounds at *; rwa [state, responses, own, probe]

theorem Roomy.of_tables (state : t.ring.state = s.ring.state) (responses : t.ring.responses = s.ring.responses)
    (own : ownTags t.ring = ownTags s.ring) (probe : t.ring.probeDue = s.ring.probeDue)
    (pending : t.pending = s.pending) : Roomy s t where
  pending := pending
  bounds := ringInBounds_congr state responses own probe
  waiting := by rw [responses]

theorem Aside.roomy (h : Aside s t) : Roomy s t :=
  .of_tables (by rw [h.ring]) (by rw [h.ring]) (by rw [h.ring]) (by rw [h.ring]) h.pending

theorem Roomy.refl (s : State) : Roomy s s := (Aside.refl s).roomy

theorem Bounded.after (k : Bounded t u) (h : Bounded s t) : Bounded s u :=
  ⟨k.pending.trans h.pending, fun hs => k.bounds (h.bounds hs)⟩

theorem Roomy.after (k : Roomy t u) (h : Roomy s t) : Roomy s u where
  toBounded := k.toBounded.after h.toBounded
  waiting := k.waiting.trans h.waiting

/-- R165: the owners of the nodes are no table that the bounds read. -/
theorem Roomy.of_owners {v : Vector (Option Owner) 62} (h : t = { s with ring := { s.ring with owners := v } }) :
    Roomy s t := by
  subst h; exact .of_tables rfl rfl rfl rfl rfl

end

/-! ### Readers, the converter and the rows that fall due -/

section
variable (s : State)

theorem aside_presentSample (m : Nat) : Aside s (presentSample m s) := (reader_presentSample s m).aside

theorem aside_deliver (m : Nat) (raw : Word32) : Aside s (deliver m raw s) := by
  unfold deliver; split
  · exact (aside_presentSample _ m).after ⟨rfl, rfl⟩
  · exact .refl s

theorem aside_deliverGauge (m g : Nat) (saturated : Bool) : Aside s (deliverGauge m g saturated s) := by
  unfold deliverGauge; split
  · exact (aside_presentSample _ m).after ⟨rfl, rfl⟩
  · exact .refl s

theorem aside_closeMeasurement : Aside s (closeMeasurement s) :=
  (frame_searchCells (idleConverter s)).aside.after ⟨rfl, rfl⟩

theorem aside_endAbnormal (c : Nat) (e : EndFigures) (o : CellOutcome) : Aside s (endAbnormal c e o s) := by
  unfold endAbnormal; dsimp only
  refine (aside_closeMeasurement _).after ((reader_observe _ _).aside.after ?_)
  exact (frame_cellOutcomes _ o none _).aside.after ⟨rfl, rfl⟩

theorem aside_endReading (c m : Nat) : Aside s (endReading c m s) := by
  unfold endReading; dsimp only
  refine (aside_closeMeasurement _).after ((frame_cellOutcomes _ _ _ _).aside.after ?_)
  exact (aside_deliverGauge _ _ _ _).after ⟨rfl, rfl⟩

theorem aside_endSensing (c m : Nat) : Aside s (endSensing c m s) := by
  unfold endSensing; dsimp only; split
  · exact (aside_endAbnormal _ c _ _).after ⟨rfl, rfl⟩
  · exact (aside_endReading _ c m).after ⟨rfl, rfl⟩

theorem aside_endEmptyFor : ∀ (fuel : Nat) (s : State), Aside s (endEmptyFor fuel s)
  | 0, s => .refl s
  | fuel + 1, s => by
    unfold endEmptyFor; split
    · exact (aside_endEmptyFor fuel _).after (aside_endSensing s _ 0)
    · exact .refl s

theorem aside_endEmpty : Aside s (endEmpty s) := aside_endEmptyFor _ s

theorem aside_cureAll : Aside s (cureAll s) := by
  obtain ⟨slots, h⟩ := cureAll_frame (s := s)
  rw [h]; exact ⟨rfl, rfl⟩

theorem aside_presentStale (m : Nat) : Aside s (presentStale m s) := (reader_presentStale s m).aside

theorem aside_effect (d : Due) : Aside s (effect s d) := by
  cases d with
  | emptySensing => exact aside_endEmpty s
  | siteMinute => exact (aside_cureAll _).after ⟨rfl, rfl⟩
  | stale m => exact (aside_presentStale _ m).after ⟨rfl, rfl⟩
  | loadTimeout n => exact (frame_haltStress s n _).aside
  | lockRunOut n => exact (frame_haltStress s n _).aside
  | settleInterval n => exact (frame_countInterval s n).aside
  | settleMaximum n => exact (frame_completeUnsettled s n).aside
  | stressPoint n => exact (frame_stressPoint s n).aside
  | winchTimeout => exact (reader_haltPlacement s _).aside
  | placementPoint => exact (reader_placementPoint s).aside
  | sustained x => exact (reader_declare s x).aside
  | overlong x => exact (reader_overlongEvent s x).aside
  | survey c =>
    show Aside s (surveyRequest c s)
    unfold surveyRequest
    exact (frame_joinRequest _ c _).aside.after ⟨rfl, rfl⟩
  | heldRecord n =>
    unfold effect writeHeld; dsimp only; split
    · exact (frame_heldWritten s n _).aside
    · exact .refl s
  | measurement => exact (aside_endEmpty _).after (frame_searchCells s).aside

theorem aside_takeDue (d : Due) : Aside s (takeDue d s) := by
  unfold takeDue; split
  · exact (frame_runPass _).aside.after (aside_effect s d)
  · exact .refl s

theorem aside_settleLoop : ∀ (fuel : Nat) (s : State), Aside s (settleLoop fuel s)
  | 0, s => .refl s
  | fuel + 1, s => by
    unfold settleLoop; split
    · exact (aside_settleLoop fuel _).after (aside_takeDue s _)
    · exact .refl s

theorem aside_settle : Aside s (settle s) :=
  Aside.after (t := settleLoop settleFuel s) ⟨rfl, rfl⟩ (aside_settleLoop settleFuel s)

theorem aside_haltSweep : Aside s (haltSweep s) := by rw [haltSweep_frame]; exact ⟨rfl, rfl⟩

theorem aside_latchEstop : Aside s (latchEstop s) := by
  unfold latchEstop; dsimp only
  refine (frame_writeReserve _ _).aside.after ((aside_haltSweep _).after ((reader_haltPlacement _ _).aside.after ?_))
  exact (frame_haltAllStress _ _).aside.after ⟨rfl, rfl⟩

theorem aside_assertLine : Aside s (assertLine s) := by
  unfold assertLine; dsimp only; split
  · exact ⟨rfl, rfl⟩
  · exact (aside_latchEstop _).after ⟨rfl, rfl⟩

theorem aside_referenceEnds (k : Nat) : Aside s (referenceEnds k s) := by
  unfold referenceEnds; split
  · split
    · exact (aside_endEmpty _).after ⟨rfl, rfl⟩
    · exact .refl s
  · exact .refl s

theorem aside_referenceLost (mc : Nat) : Aside s (referenceLost mc s) := by
  unfold referenceLost; split
  · split
    · exact (aside_endEmpty _).after ((aside_endAbnormal _ _ _ _).after ⟨rfl, rfl⟩)
    · exact .refl s
  · exact .refl s

theorem aside_sensingEnds (m : Nat) : Aside s (sensingEnds m s) := by
  unfold sensingEnds; split
  · split
    · exact (aside_endEmpty _).after (aside_endSensing s _ m)
    · exact .refl s
  · exact .refl s

theorem aside_sensingHigh (tc : Nat) : Aside s (sensingHigh tc s) := by
  unfold sensingHigh; split
  · split
    · exact (aside_endEmpty _).after ((aside_endAbnormal _ _ _ _).after ⟨rfl, rfl⟩)
    · exact .refl s
  · exact .refl s

/-- R194, R158: the tick advance sets the ring clock. -/
theorem roomy_advanceTick : Roomy s (advanceTick s) := by
  have ticked : Aside (countTick s) (advanceTick s) :=
    Aside.after (t := tickPlacement (channels4.foldl tickStress (countTick s))) ⟨rfl, rfl⟩ <|
      (reader_tickPlacement _).aside.after (frame_foldl tickStress frame_tickStress channels4 (countTick s)).aside
  exact ticked.roomy.after (.of_tables rfl rfl rfl rfl rfl)

end

end Sys2Proof.Machine
end

section
/-! SUPPORT. A request is refused with nothing changed, or done; done, it queues no response and keeps the bounds of the
ring's tables (08, 11). -/

namespace Sys2Proof.Machine

open Sys2Proof Sys2Proof.Config

/-! ### Refused or done (R190) -/

/-- R190: the request is refused, with nothing changed and an empty body, or it is done with a state that meets `P`. -/
def Answers (P : State → Prop) (s : State) (r : State × Reply) : Prop :=
  (∃ reason, r = refuse reason s) ∨ ∃ body t, r = done body t ∧ P t

namespace Answers

variable {P : State → Prop} {s t : State} {r : State × Reply}

theorem refuse (reason : Reason) : Answers P s (refuse reason s) := .inl ⟨reason, rfl⟩

theorem done {body : List Byte} (h : P t) : Answers P s (done body t) := .inr ⟨body, t, rfl, h⟩

theorem answer {body : State → List Byte} (h : P s) : Answers P s (answer body s) := done h

/-- One check of a request: refused where it fails, and otherwise as what follows it. -/
theorem check {c : Prop} [Decidable c] {reason : Reason} (h : Answers P s r) :
    Answers P s (if c then Machine.refuse reason s else r) := by
  split
  · exact refuse reason
  · exact h

/-- The last check of a request, passed where it holds. -/
theorem pass {c : Prop} [Decidable c] {reason : Reason} (h : Answers P s r) :
    Answers P s (if c then r else Machine.refuse reason s) := by
  split
  · exact h
  · exact refuse reason

theorem either {c : Prop} [Decidable c] {r' : State × Reply} (h : Answers P s r) (h' : Answers P s r') :
    Answers P s (if c then r else r') := by
  split
  · exact h
  · exact h'

theorem numbered {hi v : Nat} {act : State → State × Reply} (h : Answers P s (act s)) :
    Answers P s (numbered hi v act s) := pass h

theorem state (h : Answers P s r) (hs : P s) : P r.1 := by
  obtain ⟨reason, rfl⟩ | ⟨body, t, rfl, ht⟩ := h
  · exact hs
  · exact ht

/-- R190: a refusal changes nothing, and its body is empty. -/
theorem of_reason (h : Answers P s r) {reason : Reason} (hr : r.2.reason = some reason) : r.1 = s ∧ r.2.body = [] := by
  obtain ⟨reason', rfl⟩ | ⟨body, t, rfl, -⟩ := h
  · exact ⟨rfl, rfl⟩
  · cases hr

end Answers

/-! ### Updates of the ring's tables -/

section
variable (s : State)

/-- An act of one block, with the ring interface and the waiting commands as they are. -/
theorem roomy_beside {s t : State} (ring : t.ring = s.ring := by rfl) (pending : t.pending = s.pending := by rfl) :
    Roomy s t :=
  Aside.roomy ⟨ring, pending⟩

/-- An act of one block behind it. -/
theorem Roomy.beside {s t u : State} (h : Roomy s t) (ring : u.ring = t.ring := by rfl)
    (pending : u.pending = t.pending := by rfl) : Roomy s u :=
  Roomy.after (roomy_beside ring pending) h

theorem roomy_setOwner (node : Nat) (o : Option Owner) : Roomy s (s.setOwner node o) := by
  obtain ⟨v, h⟩ := setOwner_frame s node o
  exact .of_owners h

theorem roomy_bindTo (n : Nat) (b : Binding) (auto : Bool) : Roomy s (bindTo n b auto s) := by
  obtain ⟨v, h⟩ := boundWith_frame s n b auto
  have bound : Roomy s (boundWith s n b auto) := by rw [h]; exact .of_tables rfl rfl rfl rfl rfl
  rw [bindTo_eq]; split
  · exact bound.beside
  · exact bound

theorem roomy_unbind (n : Nat) : Roomy s (unbind n s) :=
  (roomy_setOwner s (bindingOf s n).jack none).beside

theorem roomy_releaseNodes : Roomy s (releaseNodes s) := by
  obtain ⟨v, h⟩ := releaseNodes_frame s
  exact .of_owners h

theorem roomy_configurePlacement (c : PlacementConfig) : Roomy s (configurePlacement c s) :=
  ((roomy_setOwner _ c.pumpNode (some .pu)).after <|
    (roomy_setOwner _ c.winchNode (some .pu)).after (roomy_releaseNodes s)).beside

theorem roomy_unconfigurePlacement : Roomy s (unconfigurePlacement s) :=
  (roomy_releaseNodes s).beside

/-- R168: the tags of the own frames stand when the polls of an entry are detached from it. -/
theorem ownTags_detachPolls (e : Nat) : ownTags (detachPolls e s).ring = ownTags s.ring := by
  have h (t : Option Transmission) : (match t.map fun t => { t with about := detach e t.about } with
      | some t => if t.discarded then [] else [t.tag]
      | none => []) = match t with
      | some t => if t.discarded then [] else [t.tag]
      | none => [] := by cases t <;> rfl
  exact congrArg₂ (· ++ ·) List.map_map (h s.ring.transmitter)

theorem roomy_detachPolls (e : Nat) : Roomy s (detachPolls e s) := .of_tables rfl rfl (ownTags_detachPolls s e) rfl rfl

theorem sending_discarded (r : Ring) :
    sending { r with transmitter := r.transmitter.map fun t => { t with discarded := true } } = [] := by
  unfold sending; cases r.transmitter <;> rfl

/-- R158, R163: without own frames on the ring the bounds are those of the responses. -/
theorem ringInBounds_of_no_own {r : Ring} (responses : r.responses.length ≤ 4) (own : ownTags r = []) :
    ringInBounds r := by
  refine ⟨responses, ?_, ?_, fun _ => ?_⟩ <;> rw [own]
  · exact Nat.zero_le 4
  · exact List.nodup_nil
  · rw [List.length_nil, Nat.zero_add]; split <;> decide

/-- R157, R158, R198: a RESTART empties both tables. -/
theorem roomy_restartBlocks : Roomy s (restartBlocks s) := by
  rw [restartBlocks_eq]
  exact ⟨⟨rfl, fun _ => ringInBounds_of_no_own (Nat.zero_le 4) (sending_discarded s.ring)⟩, Nat.zero_le _⟩

theorem aside_reconfigureCell (c : Nat) (cfg : Option CellConfig) : Aside s (reconfigureCell c cfg s) := by
  unfold reconfigureCell; split
  · refine (frame_searchCells _).aside.after ?_
    rw [abortMeasurement_frame]; exact ⟨rfl, rfl⟩
  · exact ⟨rfl, rfl⟩

theorem aside_thawPart : Aside s (thawPart s) := by
  rw [thawPart_eq]
  exact (frame_writeReserve _ _).aside.after <| (thawed_pass_frame s).aside.after <|
    (reader_thawed s).aside.after ⟨rfl, rfl⟩

end

/-! ### Every request -/

section
variable (s : State)

theorem answers_withdrawAnchor (slot : Nat) : Answers (Roomy s) s (actWithdrawAnchor slot s) := by
  have freed : Answers (Roomy s) s (done [] (s.onAnchor slot fun _ => Anchor.free)) := .done roomy_beside
  refine .numbered ?_
  split
  case h_5 => exact .check freed
  case h_6 => exact .check freed
  case h_7 => exact .refuse _
  case h_8 => exact .refuse _
  case h_9 => exact .refuse _
  case h_10 => exact .refuse _
  case h_11 => exact .refuse _
  all_goals exact freed

theorem answers_retryAnchor (slot : Nat) : Answers (Roomy s) s (actRetryAnchor slot s) := by
  refine .numbered (.check ?_)
  split
  case h_1 => exact .done roomy_beside
  case h_2 => exact .done roomy_beside
  case h_3 => exact .refuse _
  case h_4 => exact .refuse _

theorem answers_configChannel (m : Nat) (cfg : ChanConfig) : Answers (Roomy s) s (actConfigChannel m cfg s) := by
  refine .numbered (.check (.pass (.done ?_)))
  have configured : Aside s (s.onChannel m fun _ => configured s cfg) := ⟨rfl, rfl⟩
  split
  · exact ((aside_presentStale _ m).after configured).roomy
  · exact configured.roomy

theorem answers_haltChannel (n : Nat) : Answers (Roomy s) s (actHaltChannel n s) := by
  have halted : Answers (Roomy s) s (done [] (haltStress n .station s)) := .done (frame_haltStress s n _).aside.roomy
  refine .numbered ?_
  split
  case h_1 => exact .refuse _
  case h_2 => exact .refuse _
  case h_6 => exact .done roomy_beside
  all_goals exact halted

theorem answers_setAutoTake (n : Nat) (auto : Bool) : Answers (Roomy s) s (actSetAutoTake n auto s) := by
  refine .numbered (.check (.done (roomy_beside ?_ ?_))) <;> split <;> rfl

theorem answers_configPlacement (cfg : Option PlacementConfig) : Answers (Roomy s) s (actConfigPlacement cfg s) := by
  unfold actConfigPlacement
  refine .check ?_
  cases cfg with
  | none => exact .done (roomy_unconfigurePlacement s)
  | some c => exact .check (.check (.pass (.done (roomy_configurePlacement s c))))

theorem answers_startPlace (slot : Nat) : Answers (Roomy s) s (actStartPlace slot s) :=
  .numbered <| .check <| .check <| .check <| .check <| .check <| .check <|
    .either (.done (reader_beginRun s _ slot).aside.roomy) (.pass (.done (reader_beginRun s _ slot).aside.roomy))

theorem roomy_freezing (f : Trip → Trip) (detail : Nat) : Roomy s (becomeFrozen detail (s.onTrip f)) :=
  Aside.roomy <| (reader_becomeFrozen (s.onTrip f) detail).aside.after ⟨rfl, rfl⟩

theorem answers_loadTrip (q : Nat) (cfg : TripConfig) : Answers (Roomy s) s (actLoadTrip q cfg s) := by
  refine .numbered (.pass (.done ?_))
  split
  · exact roomy_freezing s _ _
  · exact roomy_beside

theorem answers_freeze : Answers (Roomy s) s (actFreeze s) := by
  unfold actFreeze
  refine .done ?_
  split
  · exact roomy_beside
  · exact roomy_freezing s _ _

theorem answers_loadPoll (e : Nat) (cfg : Option PollConfig) : Answers (Roomy s) s (actLoadPoll e cfg s) :=
  .numbered <| .pass <| .done <| (roomy_detachPolls s e).beside

theorem answers_restart : Answers (Roomy s) s (actRestart s) :=
  .done <| (frame_writeReserve _ _).aside.roomy.after <| (aside_haltSweep _).roomy.after (roomy_restartBlocks s)

/-- R190: every request is refused, or done with the bounds of the ring's tables kept and no response queued. -/
theorem answers_handRequest (r : Request) : Answers (Roomy s) s (handRequest r s) := by
  have same : Roomy s s := .refl s
  cases r with dsimp only [handRequest]
  | loadAnchor slot d => refine .numbered ?_; exact .check (.check (.check (.check (.done roomy_beside))))
  | withdrawAnchor slot => exact answers_withdrawAnchor s slot
  | retryAnchor slot => exact answers_retryAnchor s slot
  | loadClass k c => refine .numbered ?_; exact .check (.pass (.done roomy_beside))
  | enqueueStress slot p => refine .numbered ?_; exact .check (.check (.done roomy_beside))
  | dequeueStress slot => refine .numbered ?_; exact .pass (.done roomy_beside)
  | setExclusion d => refine .numbered ?_; exact .check (.done roomy_beside)
  | configChannel m c => exact answers_configChannel s m c
  | loadTable t bps => refine .numbered ?_; exact .check (.pass (.done roomy_beside))
  | configCell c cfg => refine .numbered ?_; exact .check (.pass (.done (aside_reconfigureCell s c cfg).roomy))
  | measureCell c r => refine .numbered ?_; exact .check (.done (frame_joinRequest s c _).aside.roomy)
  | bindChannel n b auto =>
    refine .numbered ?_; exact .check (.check (.check (.pass (.done (roomy_bindTo s n b auto)))))
  | unbindChannel n => refine .numbered ?_; exact .check (.check (.done (roomy_unbind s n)))
  | setAutoTake n auto => exact answers_setAutoTake s n auto
  | startStress n slot =>
    exact .check <| .check <| .check <| .check <| .check <| .check <| .check <| .check <| .check <|
      .done (frame_admit s n slot).aside.roomy
  | haltChannel n => exact answers_haltChannel s n
  | configPlacement cfg => exact answers_configPlacement s cfg
  | startPlace slot => exact answers_startPlace s slot
  | configClassifier x cfg => refine .numbered ?_; exact .check (.pass (.done roomy_beside))
  | loadTrip q cfg => exact answers_loadTrip s q cfg
  | clearTrip mask => exact .done roomy_beside
  | freeze => exact answers_freeze s
  | thaw => exact .check (.either (.done (aside_thawPart s).roomy) (.done roomy_beside))
  | configRing timeout => exact .pass (.done (.of_tables rfl rfl rfl rfl rfl))
  | readPending node => exact .pass (.answer same)
  | loadPoll e cfg => exact answers_loadPoll s e cfg
  | configSchedule p => exact .pass (.done roomy_beside)
  | readLog start count => exact .check (.pass (.answer same))
  | trimLog seq => exact .pass (.done roomy_beside)
  | setWatermark w => exact .pass (.done roomy_beside)
  | clearOverrun => exact .done roomy_beside
  | setTime minute => exact .done ((aside_cureAll _).roomy.after roomy_beside)
  | restart => exact answers_restart s
  | readPart part => exact .check (.check (.done same))
  | clearEstop => exact .check (.either (.done roomy_beside) (.done same))
  | readOrder => exact .answer same
  | readPlacement => exact .answer same
  | readTrip => exact .answer same
  | readRing => exact .answer same
  | readPolls => exact .answer same
  | readSchedule => exact .answer same
  | readLogState => exact .answer same
  | readStatus => exact .answer same
  | readAnchor slot => refine .numbered ?_; exact .answer same
  | readClass k => refine .numbered ?_; exact .answer same
  | readChannel m => refine .numbered ?_; exact .answer same
  | readTable t => refine .numbered ?_; exact .answer same
  | readCell c => refine .numbered ?_; exact .answer same
  | readStress n => refine .numbered ?_; exact .answer same
  | readClassifier x => refine .numbered ?_; exact .answer same

end

/-- Settles O13: the row is the request of its frame, and every refusal is made before anything changes. -/
theorem requestsAnswerOnceAndRefusalsChangeNothing : Obligations.RequestsAnswerOnceAndRefusalsChangeNothing := by
  refine ⟨fun tag r s hq ht => ?_, fun tag r s h => ?_, fun r s reason hr => (answers_handRequest s r).of_reason hr⟩
  · rw [exec_rowOf, request, settle_of_quiet hq, ht]; rfl
  · rw [exec_rowOf, request_of_takesNow h, respond, queueResponse_eq]

end Sys2Proof.Machine
end

section
/-! SUPPORT. The bounds of the ring's tables through the responses, the ring and port B (R152 to R164), and every
command; the statement of the bounds, and that no command stops the part. -/

namespace Sys2Proof.Machine

open Sys2Proof Sys2Proof.Config

/-! ### Responses (R157) -/

section
variable {s t : State}

/-- R157: a response joins a queue that had room for it. -/
theorem bounded_answered (tag code : Nat) (reason : Option Reason) (body : List Byte) (h : Roomy s t)
    (room : s.ring.responses.length < 4) : Bounded s (answered tag code reason body t) where
  pending := h.pending
  bounds hs := by
    obtain ⟨-, own, distinct, down⟩ := h.bounds hs
    refine ⟨?_, own, distinct, down⟩
    show (t.ring.responses ++ [_]).length ≤ 4
    rw [List.length_append]
    exact Nat.succ_le_of_lt (Nat.lt_of_le_of_lt h.waiting room)

theorem responses_of_canTake (h : canTake s = true) : s.ring.responses.length < 4 := by
  rw [canTake, Bool.and_eq_true] at h
  exact of_decide_eq_true h.2

theorem bounded_respond (tag code : Nat) {r : State × Reply} (h : Roomy s r.1) (take : canTake s = true) :
    Bounded s (respond tag code r) := by
  rw [respond, queueResponse_eq]
  exact (frame_runPass _).aside.roomy.toBounded.after (bounded_answered _ _ _ _ h (responses_of_canTake take))

theorem roomy_handRequest (r : Request) (s : State) : Roomy s (handRequest r s).1 :=
  (answers_handRequest s r).state (.refl s)

theorem roomy_handBody (code : Nat) (body : List Byte) (s : State) : Roomy s (handBody code body s).1 := by
  unfold handBody; split
  · exact roomy_handRequest _ s
  · exact .refl s

theorem roomy_actLoadPart (target part : Nat) (last : Bool) (bytes : List Byte) (s : State) :
    Roomy s (actLoadPart target part last bytes s).2.1 := by
  have stored (a : Option Assembly) : Roomy s (setAssembly a s) := roomy_beside
  unfold actLoadPart; split
  · exact .refl s
  · split
    · exact stored none
    · split
      · exact stored none
      · split
        · exact (roomy_handBody _ _ _).after (stored none)
        · exact stored _

theorem bounded_takeBody (tag code : Nat) (body : List Byte) (take : canTake s = true) :
    Bounded s (takeBody tag code body s) := by
  unfold takeBody; split
  · split
    · exact bounded_respond _ _ (roomy_actLoadPart _ _ _ _ s) take
    · exact bounded_respond _ _ (r := refuse .badValue s) (.refl s) take
  · exact bounded_respond _ _ (roomy_handBody _ _ s) take

end

/-! ### Losses and returns (R159 to R164) -/

section
variable (s : State)

theorem reader_clearRecord (node : Nat) (c : Command) (o : Owner) : ReaderFrame s (clearRecord node c o s) := by
  unfold clearRecord; split
  · split
    · exact (frame_onWork s _ _).reader
    · exact .refl s
  · split
    · exact reader_onPlacement s _
    · exact .refl s
  · split
    · exact reader_onPlacement s _
    · exact .refl s
  · exact .refl s

theorem aside_reenter (node : Nat) (c : Command) (o : Owner) (priority : Bool) :
    Aside s (reenter node c o priority s) := by
  unfold reenter; split
  · exact (frame_placeHalt s node c o).aside
  · split
    · exact ⟨rfl, rfl⟩
    · exact (reader_clearRecord s node c o).aside

theorem aside_nodeAbsent (node : Nat) : Aside s (nodeAbsent node s) := by
  unfold nodeAbsent; split
  · exact (frame_haltStress s _ _).aside
  · exact (reader_haltPlacement s _).aside
  · exact .refl s

theorem aside_reportFailed (node tag : Nat) (c : Command) (o : Owner) (priority : Bool) :
    Aside s (reportFailed node tag c o priority s) := by
  have counted (k : Nat) : Aside s (setFailures node k s) := ⟨rfl, rfl⟩
  unfold reportFailed; split
  · dsimp only; split
    · exact counted _
    · exact (aside_reenter _ _ _ _ _).after (counted _)
  · exact (aside_nodeAbsent _ node).after (counted _)

theorem aside_endPoll (e : Nat) (detached : Bool) : Aside s (endPoll e detached s) := by
  unfold endPoll; split <;> exact ⟨rfl, rfl⟩

theorem roomy_onSched (f : Sched → Sched) : Roomy s (s.onSched f) := roomy_beside

theorem roomy_startPass : Roomy s s.startPass := roomy_beside

theorem roomy_setClock (clock : Word32) : Roomy s (setClock clock s) := .of_tables rfl rfl rfl rfl rfl

/-- R162: a break discards every own frame. -/
theorem roomy_breakRing : Roomy s (breakRing s) := by
  have broken : Roomy s (s.onRing brokenRing) :=
    ⟨⟨rfl, fun h => ringInBounds_of_no_own h.1 (sending_discarded s.ring)⟩, Nat.le_refl _⟩
  rw [breakRing_eq]
  exact (roomy_onSched _ _).after ((runsHalted_brokenRuns s).reader.aside.roomy.after broken)

variable {s}

/-- R158: an own frame that leaves the table leaves fewer tags behind it. -/
theorem ownTags_dropTag_sublist (r : Ring) (tag : Nat) :
    (ownTags { r with inFlight := dropTag tag r.inFlight }).Sublist (ownTags r) :=
  (List.filter_sublist.map _).append (List.Sublist.refl _)

theorem ownTags_dropTag_lt {r : Ring} {f : InFlight} (h : f ∈ r.inFlight) :
    (ownTags { r with inFlight := dropTag f.tag r.inFlight }).length < (ownTags r).length := by
  have hlt : (dropTag f.tag r.inFlight).length < r.inFlight.length :=
    List.length_filter_lt_length_iff_exists.2 ⟨f, h, by simp⟩
  show (List.map _ (dropTag f.tag r.inFlight) ++ sending r).length < (List.map _ r.inFlight ++ sending r).length
  rw [List.length_append, List.length_append, List.length_map, List.length_map]
  exact Nat.add_lt_add_right hlt _

/-- An own frame less, with the ring's state and probe as they are or the ring UP. -/
theorem ringInBounds_of_fewer {r r' : Ring} (responses : r'.responses = r.responses)
    (own : (ownTags r').Sublist (ownTags r))
    (down : r'.state ≠ .up → r.state ≠ .up ∧ (ownTags r').length + (if r'.probeDue then 1 else 0)
      ≤ (ownTags r).length + (if r.probeDue then 1 else 0)) (h : ringInBounds r) : ringInBounds r' := by
  obtain ⟨h1, h2, h3, h4⟩ := h
  refine ⟨responses ▸ h1, own.length_le.trans h2, own.nodup h3, fun hd => ?_⟩
  obtain ⟨hr, hle⟩ := down hd
  exact hle.trans (h4 hr)

/-- R158: an entry leaves the table, whatever becomes of the loss count. -/
theorem roomy_dropTag (tag lossCount : Nat) : Roomy s (s.onRing fun r =>
    { r with inFlight := dropTag tag r.inFlight, lossCount := lossCount }) where
  pending := rfl
  bounds := ringInBounds_of_fewer rfl (ownTags_dropTag_sublist s.ring tag) fun hd =>
    ⟨hd, Nat.add_le_add_right (ownTags_dropTag_sublist s.ring tag).length_le _⟩
  waiting := Nat.le_refl _

/-- R160, R163: a lost entry leaves the table, and a probe in its place is due. -/
theorem roomy_lostProbe {f : InFlight} (h : f ∈ s.ring.inFlight) (lossCount : Nat) : Roomy s (s.onRing fun r =>
    { r with inFlight := dropTag f.tag r.inFlight, lossCount := lossCount, probeDue := true }) where
  pending := rfl
  bounds := ringInBounds_of_fewer rfl (ownTags_dropTag_sublist s.ring f.tag) fun hd =>
    ⟨hd, (Nat.succ_le_of_lt (ownTags_dropTag_lt h)).trans (Nat.le_add_right _ _)⟩
  waiting := Nat.le_refl _

/-- R160: what the loss of an own frame does beside a due probe. -/
theorem handleLoss_cases (f : InFlight) (s : State) :
    Aside s (handleLoss f s) ∨ handleLoss f s = s.onRing fun r => { r with probeDue := true } := by
  unfold handleLoss; split
  · exact .inl (aside_endPoll s _ _)
  · exact .inl (aside_reportFailed s _ _ _ _ _)
  · split
    · exact .inr rfl
    · exact .inl (.refl s)

theorem roomy_handleLoss {f : InFlight} (h : f ∈ s.ring.inFlight) (lossCount : Nat) :
    Roomy s (handleLoss f (s.onRing fun r => { r with
      inFlight := dropTag f.tag r.inFlight, lossCount := lossCount })) := by
  obtain hl | hl := handleLoss_cases f (s.onRing fun r =>
    { r with inFlight := dropTag f.tag r.inFlight, lossCount := lossCount })
  · exact hl.roomy.after (roomy_dropTag f.tag lossCount)
  · rw [hl]
    exact roomy_lostProbe h lossCount

theorem roomy_loseEntry {f : InFlight} (h : f ∈ s.ring.inFlight) : Roomy s (loseEntry f s) := by
  have dropped := roomy_dropTag (s := s) f.tag s.ring.lossCount
  unfold loseEntry; dsimp only; split
  · split
    · exact roomy_handleLoss h (s.ring.lossCount + 1)
    · exact (roomy_breakRing _).after dropped
  · exact roomy_handleLoss h s.ring.lossCount

variable (s)

theorem aside_deliverSlots (pay : List Byte) (slots : List (Option Nat)) : Aside s (deliverSlots pay slots s) := by
  refine .foldl _ (fun u p => ?_) _ s
  split
  · exact (frame_runPass _).aside.after ((aside_endEmpty _).after (aside_deliver u _ _))
  · exact .refl u

theorem aside_returnPoll (bs : List Byte) (slots : List (Option Nat)) : Aside s (returnPoll bs slots s) := by
  unfold returnPoll; split
  · split
    · exact aside_deliverSlots s _ slots
    · exact (reader_observe s _).aside
  · exact .refl s

/-- R164: a ring that is raised leaves the bounds out of UP behind. -/
theorem roomy_raiseRing : Roomy s (raiseRing s) := by
  have raised : Roomy s (s.onRing fun r => { r with state := .up, lossCount := 0, probeDue := false }) :=
    ⟨⟨rfl, ringInBounds_of_fewer rfl (List.Sublist.refl _) fun h => absurd rfl h⟩, Nat.le_refl _⟩
  exact (roomy_startPass _).after ((aside_haltSweep _).roomy.after raised)

theorem roomy_returnOwn (f : InFlight) (bs : List Byte) : Roomy s (returnOwn f bs s) := by
  have dropped := roomy_dropTag (s := s) f.tag 0
  unfold returnOwn; dsimp only; split
  · exact (aside_returnPoll _ bs _).roomy.after ((aside_endPoll _ _ _).roomy.after dropped)
  · split
    · exact dropped.beside
    · exact (aside_reportFailed _ _ _ _ _ _).roomy.after dropped
  · split
    · exact (roomy_raiseRing _).after dropped
    · exact dropped

/-! ### Frames at port A (R153 to R157) -/

theorem roomy_forward (bs : List Byte) : Roomy s (forward bs s) := .of_tables rfl rfl rfl rfl rfl

theorem bounded_foreignFrame (bs : List Byte) : Bounded s (foreignFrame bs s) := by
  unfold foreignFrame; split
  · split
    case isTrue ht =>
      rw [takesRequest, Bool.and_eq_true, Bool.and_eq_true] at ht
      exact (roomy_forward _ _).toBounded.after (bounded_takeBody _ _ _ ht.1.1)
    case isFalse => exact (roomy_forward s _).toBounded
  · split <;> exact (roomy_forward s _).toBounded

theorem roomy_badFrame (bs : List Byte) : Roomy s (badFrame bs s) := by
  have observed := (reader_observe s .ringError).aside.roomy
  unfold badFrame; dsimp only; split
  case h_1 f hf =>
    refine (roomy_loseEntry ?_).after observed
    unfold namedEntry at hf
    split at hf
    · cases hf
    · split at hf
      · exact List.mem_of_find?_eq_some hf
      · cases hf
  case h_2 => exact observed

theorem bounded_arrive (bs : List Byte) : Bounded s (arrive bs s) := by
  have observed := (reader_observe s .ringError).aside.roomy.toBounded
  unfold arrive; split
  · exact (roomy_badFrame s bs).toBounded
  · unfold disposeFrame; split
    · split
      · exact (roomy_returnOwn s _ bs).toBounded
      · exact observed
    · iterate 2 (split; · exact observed)
      exact bounded_foreignFrame s bs

/-! ### Port B (R152, R158, R163) -/

variable {s}

/-- R158: five tags in a row are different. -/
theorem nodup_tagsFrom (t : Nat) : ([0, 1, 2, 3, 4].map fun i => (t + i) % 256).Nodup := by
  refine List.Nodup.map_on (fun i hi j hj h => ?_) (by decide)
  simp only [List.mem_cons, List.not_mem_nil, or_false] at hi hj
  omega

/-- R158: with at most 4 own frames in flight one of five tags is free. -/
theorem nextTag_free {fs : List InFlight} (h : fs.length ≤ 4) (t : Nat) : nextTag fs t ∉ fs.map (·.tag) := by
  have found : ∃ v ∈ [0, 1, 2, 3, 4].map fun i => (t + i) % 256, v ∉ fs.map (·.tag) := by
    by_contra hn
    have all : ([0, 1, 2, 3, 4].map fun i => (t + i) % 256) ⊆ fs.map (·.tag) := fun v hv => by
      by_contra hf; exact hn ⟨v, hv, hf⟩
    have := ((nodup_tagsFrom t).subperm all).length_le
    rw [List.length_map, List.length_map] at this
    exact absurd (this.trans h) (by decide)
  obtain ⟨v, hv, hf⟩ := found
  have taken (v : Nat) : (!(fs.any (·.tag == v))) = true ↔ v ∉ fs.map (·.tag) := by
    simp [List.mem_map]
  have some : (([0, 1, 2, 3, 4].map fun i => (t + i) % 256).find? fun v => !(fs.any (·.tag == v))).isSome :=
    List.find?_isSome.2 ⟨v, hv, (taken v).2 hf⟩
  obtain ⟨w, hw⟩ := Option.isSome_iff_exists.1 some
  have free := List.find?_some hw
  rw [nextTag, hw]
  exact (taken w).1 free

/-- R158, R163: an own frame takes an idle transmitter, where the table has room and no probe out of UP is left due. -/
theorem bounded_transmit (kind : FrameKind) (dest : Nat) (pay : List Byte) (about : Particulars)
    (idle : s.ring.transmitter = none) (room : s.ring.inFlight.length < 4)
    (down : s.ring.state ≠ .up → s.ring.inFlight = [] ∧ s.ring.probeDue = false) :
    Bounded s (transmit kind dest pay about s) where
  pending := rfl
  bounds h := by
    obtain ⟨h1, h2, h3, h4⟩ := h
    have own : ownTags (transmit kind dest pay about s).ring =
        s.ring.inFlight.map (·.tag) ++ [nextTag s.ring.inFlight s.ring.tagCounter] := rfl
    have before : ownTags s.ring = s.ring.inFlight.map (·.tag) := by
      rw [ownTags, sending, idle]; exact List.append_nil _
    refine ⟨h1, ?_, ?_, fun hd => ?_⟩ <;> rw [own]
    · rw [List.length_append, List.length_map]
      exact Nat.succ_le_of_lt room
    · rw [before] at h3
      refine List.nodup_append.2 ⟨h3, List.nodup_singleton _, fun a ha b hb hab => ?_⟩
      rw [List.mem_singleton.1 hb] at hab
      exact nextTag_free (Nat.le_of_lt room) _ (hab ▸ ha)
    · obtain ⟨he, hp⟩ := down hd
      rw [he]
      show 0 + 1 + (if s.ring.probeDue then 1 else 0) ≤ 1
      rw [hp]; exact Nat.le_refl 1

theorem aside_passOver (s : State) : Aside s (passOver s) := by
  unfold passOver; split <;> exact ⟨rfl, rfl⟩

theorem aside_judgeMode (s : State) : Aside s (judgeMode s) := by
  unfold judgeMode; split <;> split <;> exact ⟨rfl, rfl⟩

theorem bounded_carryOut (c : Choice) (idle : s.ring.transmitter = none) (room : s.ring.inFlight.length < 4)
    (up : s.ring.state = .up) : Bounded s (carryOut s c) := by
  have sent (kind : FrameKind) (dest : Nat) (pay : List Byte) (about : Particulars) {u : State} (h : Aside s u) :
      Bounded s (transmit kind dest pay about u) :=
    (bounded_transmit kind dest pay about (h.ring ▸ idle) (h.ring ▸ room)
      fun hd => absurd (h.ring ▸ up) hd).after h.roomy.toBounded
  have passed {u : State} (h : Bounded s u) : Bounded s (passOver u) := (aside_passOver u).roomy.toBounded.after h
  cases c with
  | halt e => exact passed (sent _ _ _ _ ⟨rfl, rfl⟩)
  | command e => exact passed (sent _ _ _ _ ⟨rfl, rfl⟩)
  | poll e c => exact passed (sent _ _ _ _ ⟨rfl, rfl⟩)
  | response r =>
    have taken : Roomy s ((s.onRing fun g => { g with responses := g.responses.drop 1 }).onSched fun d =>
        { d with passedOver := 0 }) := by
      refine ⟨⟨rfl, fun ⟨h1, h2⟩ => ⟨le_trans ?_ h1, h2⟩⟩, ?_⟩ <;>
      exact (List.drop_sublist 1 s.ring.responses).length_le
    exact Bounded.after (bounded_transmit .mgmtResp _ _ _ idle room fun hd => absurd up hd) taken.toBounded
  | nothing => exact (Roomy.refl s).toBounded

/-- R163: out of UP a due probe goes onto a ring without own frames. -/
theorem bounded_sendProbe (idle : s.ring.transmitter = none) (down : s.ring.state ≠ .up) : Bounded s (sendProbe s) := by
  refine ⟨by unfold sendProbe; split <;> rfl, fun h => ?_⟩
  unfold sendProbe; split
  case isTrue hp =>
    have empty : s.ring.inFlight = [] := by
      have hle := h.2.2.2 down
      rw [hp, if_pos rfl, ownTags, List.length_append, List.length_map] at hle
      exact List.eq_nil_of_length_eq_zero (by omega)
    have due : ringInBounds { s.ring with probeDue := false } :=
      ringInBounds_of_fewer (r := s.ring) rfl (List.Sublist.refl _)
        (fun hd => ⟨hd, Nat.add_le_add_left (Nat.zero_le _) _⟩) h
    have room : s.ring.inFlight.length < 4 := by rw [empty]; decide
    exact (bounded_transmit (s := s.onRing fun r => { r with probeDue := false }) .probe 0 [] .none idle room
      fun _ => ⟨empty, rfl⟩).bounds due
  case isFalse => exact h

theorem transmitter_of_portFree (h : portFree s = true) : s.ring.transmitter = none := by
  rw [portFree, Bool.and_eq_true] at h
  exact Option.isNone_iff_eq_none.1 h.1

theorem bounded_insert (s : State) : Bounded s (insert s) := by
  unfold insert; split
  case isTrue hf =>
    have idle := transmitter_of_portFree hf
    split
    case h_1 up =>
      split
      case isTrue room =>
        have judged := aside_judgeMode s
        refine Bounded.after ?_ judged.roomy.toBounded
        exact bounded_carryOut _ (judged.ring ▸ idle) (judged.ring ▸ room) (judged.ring ▸ up)
      case isFalse => exact (Roomy.refl s).toBounded
    case h_2 hd => exact bounded_sendProbe idle (by rw [hd]; nofun)
    case h_3 hd => exact bounded_sendProbe idle (by rw [hd]; nofun)
  case isFalse => exact (Roomy.refl s).toBounded

theorem roomy_forwardOldest (s : State) : Roomy s (forwardOldest s) := by
  unfold forwardOldest; split
  · exact .of_tables rfl rfl rfl rfl rfl
  · exact .refl s

/-- R158: the frame sent is one of the own frames before and after its transmission ends. -/
theorem roomy_endTransmission (s : State) : Roomy s (endTransmission s) := by
  unfold endTransmission; split
  case h_1 x hx =>
    refine .of_tables rfl rfl ?_ rfl rfl
    show List.map _ (if x.discarded then s.ring.inFlight else s.ring.inFlight ++ [_]) ++ [] = _ ++ sending s.ring
    rw [List.append_nil, sending, hx]
    dsimp only; split
    · exact (List.append_nil _).symm
    · exact List.map_append
  case h_2 => exact .refl s

theorem roomy_frameTransmitted (clock : Word32) (s : State) :
    Roomy s (if s.ring.transmitter.isSome then endTransmission (setClock clock s) else s) := by
  split
  · exact (roomy_endTransmission _).after (roomy_setClock s clock)
  · exact .refl s

theorem roomy_expire (tag : Nat) (s : State) : Roomy s (expire tag s) := by
  unfold expire; split
  case h_1 f hf =>
    have found := List.mem_of_find?_eq_some hf
    have clocked : Roomy s (s.onRing fun r => { r with clock := f.expiry }) := .of_tables rfl rfl rfl rfl rfl
    exact (roomy_loseEntry (s := s.onRing fun r => { r with clock := f.expiry }) found).after clocked
  case h_2 => exact .refl s

theorem roomy_loseSignal (s : State) : Roomy s (loseSignal s) := by
  unfold loseSignal; split
  · exact roomy_breakRing s
  · exact .refl s

theorem bounded_powerOn (straps : Nat) (line : Bool) (s : State) : Bounded s (powerOn straps line s) := by
  have start : Bounded s { State.power (straps % 64) line with pending := s.pending } :=
    ⟨rfl, fun _ => ringInBounds_of_no_own (Nat.zero_le 4) rfl⟩
  unfold powerOn; dsimp only; split
  · exact (aside_latchEstop _).roomy.toBounded.after start
  · exact start

end

/-! ### Every command -/

section
variable {s : State}

/-- The command answers a next state with the bounds kept and the waiting commands as they were. -/
def Answered (c : Instr) (s : State) : Prop := ∃ t, exec c s = .next t ∧ Bounded s t

theorem answered_takeDue {c : Instr} (d : Due) (he : exec c s = .next (takeDue d s)) : Answered c s :=
  ⟨_, he, (aside_takeDue s d).roomy.toBounded⟩

theorem answered_event {c : Instr} {act : State → State} (he : exec c s = event act s) (h : ∀ u, Bounded u (act u)) :
    Answered c s :=
  ⟨_, he, (frame_runPass _).aside.roomy.toBounded.after ((h _).after (aside_settle s).roomy.toBounded)⟩

/-- An event that leaves the ring's tables and the waiting commands aside. -/
theorem answered_aside {c : Instr} {act : State → State} (he : exec c s = event act s) (h : ∀ u, Aside u (act u)) :
    Answered c s :=
  answered_event he fun u => (h u).roomy.toBounded

theorem answered_request {c : Instr} {tag code : Nat} {act : State → State × Reply}
    (he : exec c s = request tag code act s) (h : ∀ u, Roomy u (act u).1) : Answered c s := by
  refine ⟨_, he, Bounded.after ?_ (aside_settle s).roomy.toBounded⟩
  split
  case isTrue ht => exact bounded_respond _ _ (h _) ht
  case isFalse => exact (Roomy.refl _).toBounded

theorem answered_row (tag : Nat) (r : Request) : Answered (rowOf tag r) s :=
  answered_request (exec_rowOf tag r s) (roomy_handRequest r)

theorem answered_loadPart (tag target part : Nat) (last : Bool) (bytes : List Byte) :
    Answered (.loadPart tag target part last bytes) s := by
  refine ⟨_, rfl, Bounded.after ?_ (aside_settle s).roomy.toBounded⟩
  split
  case isTrue ht => exact bounded_respond _ _ (roomy_actLoadPart _ _ _ _ _) ht
  case isFalse => exact (Roomy.refl _).toBounded

theorem answered_unowned (tag code : Nat) (body : List Byte) : Answered (.unownedRequestCode tag code body) s := by
  by_cases h : spellsRequest code body = true
  · exact ⟨_, if_pos h, (aside_settle s).roomy.toBounded⟩
  · exact answered_request (act := refuse .badValue) (if_neg h) .refl

theorem answered_exec (c : Instr) : Answered c s := by
  cases c with
  | powerOnReset straps line => exact ⟨_, rfl, bounded_powerOn straps line s⟩
  | estopAsserted => exact answered_aside rfl aside_assertLine
  | estopLineDeasserted =>
    exact answered_aside (act := fun s => s.onStation fun t => { t with line := false }) rfl fun _ => ⟨rfl, rfl⟩
  | lossOfSignal => exact answered_event rfl fun u => (roomy_loseSignal u).toBounded
  | frameArrival clock frame =>
    exact answered_event (act := fun s => arrive frame (setClock clock s)) rfl fun u =>
      (bounded_arrive (setClock clock u) frame).after (roomy_setClock u clock).toBounded
  | forwardTransmit => exact answered_event rfl fun u => (roomy_forwardOldest u).toBounded
  | insertionOpportunity => exact answered_event rfl bounded_insert
  | frameTransmitted clock =>
    exact answered_event
      (act := fun s => if s.ring.transmitter.isSome then endTransmission (setClock clock s) else s) rfl
      fun u => (roomy_frameTransmitted clock u).toBounded
  | entryExpiry tag => exact answered_event rfl fun u => (roomy_expire tag u).toBounded
  | tickAdvance => exact answered_event rfl fun u => (roomy_advanceTick u).toBounded
  | referenceEnd k => exact answered_aside rfl fun u => aside_referenceEnds u k
  | refLost mc => exact answered_aside rfl fun u => aside_referenceLost u mc
  | sensingEnd m => exact answered_aside rfl fun u => aside_sensingEnds u m
  | senseHigh tc => exact answered_aside rfl fun u => aside_sensingHigh u tc
  | siteMinuteAdvance => exact answered_takeDue _ rfl
  | channelStale m => exact answered_takeDue _ rfl
  | surveyRequest c => exact answered_takeDue _ rfl
  | measurementStart => exact answered_takeDue _ rfl
  | loadTimeout n => exact answered_takeDue _ rfl
  | settleInterval n => exact answered_takeDue _ rfl
  | settleMaximum n => exact answered_takeDue _ rfl
  | lockWindowRunOut n => exact answered_takeDue _ rfl
  | stressPointDue n => exact answered_takeDue _ rfl
  | placementPointDue => exact answered_takeDue _ rfl
  | winchTimeout => exact answered_takeDue _ rfl
  | sustained x => exact answered_takeDue _ rfl
  | overlong x => exact answered_takeDue _ rfl
  | heldRecordWrite n => exact answered_takeDue _ rfl
  | unownedRequestCode tag code body => exact answered_unowned tag code body
  | loadPart tag target part last bytes => exact answered_loadPart tag target part last bytes
  | loadAnchor tag slot d => exact answered_row tag (.loadAnchor slot d)
  | readAnchor tag slot => exact answered_row tag (.readAnchor slot)
  | withdrawAnchor tag slot => exact answered_row tag (.withdrawAnchor slot)
  | retryAnchor tag slot => exact answered_row tag (.retryAnchor slot)
  | loadClass tag k c => exact answered_row tag (.loadClass k c)
  | readClass tag k => exact answered_row tag (.readClass k)
  | enqueueStress tag slot p => exact answered_row tag (.enqueueStress slot p)
  | dequeueStress tag slot => exact answered_row tag (.dequeueStress slot)
  | readOrder tag => exact answered_row tag .readOrder
  | setExclusion tag d => exact answered_row tag (.setExclusion d)
  | configChannel tag m c => exact answered_row tag (.configChannel m c)
  | readChannel tag m => exact answered_row tag (.readChannel m)
  | loadTable tag k bps => exact answered_row tag (.loadTable k bps)
  | readTable tag k => exact answered_row tag (.readTable k)
  | configCell tag c cfg => exact answered_row tag (.configCell c cfg)
  | measureCell tag c r => exact answered_row tag (.measureCell c r)
  | readCell tag c => exact answered_row tag (.readCell c)
  | bindChannel tag n b auto => exact answered_row tag (.bindChannel n b auto)
  | unbindChannel tag n => exact answered_row tag (.unbindChannel n)
  | setAutoTake tag n auto => exact answered_row tag (.setAutoTake n auto)
  | readStress tag n => exact answered_row tag (.readStress n)
  | startStress tag n slot => exact answered_row tag (.startStress n slot)
  | haltChannel tag n => exact answered_row tag (.haltChannel n)
  | configPlacement tag cfg => exact answered_row tag (.configPlacement cfg)
  | readPlacement tag => exact answered_row tag .readPlacement
  | startPlace tag slot => exact answered_row tag (.startPlace slot)
  | configClassifier tag x cfg => exact answered_row tag (.configClassifier x cfg)
  | readClassifier tag x => exact answered_row tag (.readClassifier x)
  | loadTrip tag q cfg => exact answered_row tag (.loadTrip q cfg)
  | clearTrip tag mask => exact answered_row tag (.clearTrip mask)
  | readTrip tag => exact answered_row tag .readTrip
  | freeze tag => exact answered_row tag .freeze
  | thaw tag => exact answered_row tag .thaw
  | configRing tag timeout => exact answered_row tag (.configRing timeout)
  | readRing tag => exact answered_row tag .readRing
  | readPending tag node => exact answered_row tag (.readPending node)
  | loadPoll tag e cfg => exact answered_row tag (.loadPoll e cfg)
  | readPolls tag => exact answered_row tag .readPolls
  | configSchedule tag p => exact answered_row tag (.configSchedule p)
  | readSchedule tag => exact answered_row tag .readSchedule
  | readLog tag start count => exact answered_row tag (.readLog start count)
  | trimLog tag seq => exact answered_row tag (.trimLog seq)
  | setWatermark tag w => exact answered_row tag (.setWatermark w)
  | clearOverrun tag => exact answered_row tag .clearOverrun
  | readLogState tag => exact answered_row tag .readLogState
  | readStatus tag => exact answered_row tag .readStatus
  | setTime tag minute => exact answered_row tag (.setTime minute)
  | restart tag => exact answered_row tag .restart
  | readPart tag part => exact answered_row tag (.readPart part)
  | clearEstop tag => exact answered_row tag .clearEstop

end

/-- Settles O2, from what every command answers. -/
theorem everyCommandAnswersAndKeepsTheQueue : Obligations.EveryCommandAnswersAndKeepsTheQueue := fun c s =>
  have ⟨t, he, h⟩ := answered_exec (s := s) c
  ⟨t, he, h.pending⟩

/-- Settles O9, from what every command and the rows that fall due keep. -/
theorem ringTablesStayInBounds : Obligations.RingTablesStayInBounds := by
  intro s t h he
  obtain ⟨-, rfl⟩ | ⟨c, rest, -, hc⟩ := step_cases he
  · exact (aside_settle s).roomy.bounds h
  · obtain ⟨u, hu, hb⟩ := answered_exec (s := { s with pending := rest }) c
    cases hc.symm.trans hu
    exact hb.bounds h

end Sys2Proof.Machine
end

section
/-! SUPPORT. CONFIG_RING, CONFIG_SCHEDULE and LOAD_POLL (R166, R168, R173), and what port B sends (R152, R158). -/

namespace Sys2Proof.Machine

open Sys2Proof Sys2Proof.Config

/-- An event on a quiet state whose act starts no pass. -/
theorem event_of_still {s t : State} {act : State → State} (h : quiet s = true) (acted : act s = t)
    (hp : t.passDue = false) : event act s = .next t := by
  rw [event_of_quiet h, acted, runPass_of_none hp]

/-! ### The requests -/

section
variable {s : State} (h : takesNow s) (tag : Nat)
include h

theorem exec_configRing (timeout : Nat) : exec (.configRing tag timeout) s = .next (
    if 1 ≤ timeout ∧ timeout ≤ 50 then answered tag 0x48 none [] (s.onRing fun r => { r with timeout := timeout })
    else refused tag 0x48 .badValue s) := by
  have hp := passDue_of_takesNow h
  show request tag 0x48 (actConfigRing timeout) s = _
  rw [request_of_takesNow h]
  exact congrArg Host.Outcome.next (respond_check_last hp within_iff (respond_done _ hp))

omit h in
theorem scheduleInRange_iff (p : ScheduleParams) : scheduleInRange p = true ↔
    1 ≤ p.high ∧ p.high ≤ 16 ∧ p.low < p.high ∧ 1 ≤ p.commandStarve ∧ p.commandStarve ≤ 50
      ∧ 1 ≤ p.pollStarve ∧ p.pollStarve ≤ 50 := by
  simp only [scheduleInRange, Bool.and_eq_true, within_iff, decide_eq_true_eq, and_assoc]

theorem exec_configSchedule (p : ScheduleParams) : exec (.configSchedule tag p) s = .next (
    if 1 ≤ p.high ∧ p.high ≤ 16 ∧ p.low < p.high ∧ 1 ≤ p.commandStarve ∧ p.commandStarve ≤ 50
        ∧ 1 ≤ p.pollStarve ∧ p.pollStarve ≤ 50 then
      answered tag 0x53 none [] (s.onSched fun d => { d with params := p })
    else refused tag 0x53 .badValue s) := by
  have hp := passDue_of_takesNow h
  show request tag 0x53 (actConfigSchedule p) s = _
  rw [request_of_takesNow h]
  exact congrArg Host.Outcome.next (respond_check_last hp (scheduleInRange_iff p) (respond_done _ hp))

theorem exec_loadPoll (e : Nat) (cfg : Option PollConfig) : exec (.loadPoll tag e cfg) s = .next (
    if 31 < e then refused tag 0x51 .badValue s
    else if pollItemsInRange cfg = true then answered tag 0x51 none [] ((detachPolls e s).onSched fun d =>
      { d with polls := put d.polls e (cfg.map (loadedPoll (now s))) })
    else refused tag 0x51 .badValue s) := by
  have hp := passDue_of_takesNow h
  show request tag 0x51 (actLoadPoll e cfg) s = _
  rw [request_of_takesNow h, actLoadPoll, respond_numbered 31 e _ hp]
  exact congrArg Host.Outcome.next (if_congr .rfl rfl (respond_check_last hp .rfl (respond_done _ hp)))

end

/-! ### Detached polls (R168) -/

/-- R168: a poll of the entry is detached from it, and nothing else changes. -/
theorem detach_eq (e : Nat) (p : Particulars) : detach e p = (match p with
    | .poll e' slots d => if e' = e then .poll e' slots true else .poll e' slots d
    | p => p) := by
  cases p with
  | poll e' slots d =>
    by_cases he : e' = e
    · simp [detach, he]
    · simp [detach, he]
  | command o c p => rfl
  | none => rfl

/-! ### Port B -/

section
variable {s : State}

theorem forwardOldest_of_idle {bs : List Byte} {rest : List (List Byte)} (ht : s.ring.transmitter = none)
    (hs : s.ring.store = bs :: rest) : forwardOldest s = s.onRing fun r => { r with store := rest, portB := bs } := by
  rw [forwardOldest, ht, hs]

theorem forwardOldest_of_nothing (h : s.ring.transmitter ≠ none ∨ s.ring.store = []) : forwardOldest s = s := by
  unfold forwardOldest; split
  case h_1 ht hs =>
    obtain h | h := h
    · exact absurd ht h
    · cases hs.symm.trans h
  case h_2 => rfl

theorem endTransmission_of_some {x : Transmission} (h : s.ring.transmitter = some x) : endTransmission s =
    s.onRing fun r =>
      { r with
        transmitter := none, portB := x.frame
        inFlight := if x.discarded then r.inFlight else r.inFlight ++ [flightOf r.clock r.timeout x] } := by
  rw [endTransmission, h]

theorem exec_frameTransmitted (h : quiet s = true) (clock : Word32) {x : Transmission}
    (ht : s.ring.transmitter = some x) : exec (.frameTransmitted clock) s = .next ((setClock clock s).onRing fun r =>
      { r with
        transmitter := none, portB := x.frame
        inFlight := if x.discarded then r.inFlight else r.inFlight ++ [flightOf r.clock r.timeout x] }) := by
  have ended := endTransmission_of_some (s := setClock clock s) ht
  exact event_of_still (act := fun s => if s.ring.transmitter.isSome then endTransmission (setClock clock s) else s) h
    ((if_pos (by rw [ht]; rfl)).trans ended) (quiet_passDue h)

end

/-- Settles O49: each request by its range, and each move of port B by what stands there. -/
theorem ringConfigurationAndPortBMoves : Obligations.RingConfigurationAndPortBMoves := by
  refine ⟨fun s tag h => ⟨exec_configRing h tag, exec_configSchedule h tag, fun e cfg he => ?_, fun e c he hc => ?_,
    fun e c he hc => ?_, fun e he => ?_⟩, fun s h => ⟨fun bs rest ht hs => ?_, fun hn => ?_, fun clock x ht hd => ?_,
      fun clock x ht hd => ?_, fun clock ht => ?_⟩, fun s e => ?_⟩
  · rw [exec_loadPoll h, if_pos he]
  · rw [exec_loadPoll h, if_neg (Nat.not_lt.2 he),
      if_neg (show ¬pollItemsInRange (some c) = true from Bool.eq_false_iff.1 hc)]
  · rw [exec_loadPoll h, if_neg (Nat.not_lt.2 he), if_pos (show pollItemsInRange (some c) = true from hc)]; rfl
  · rw [exec_loadPoll h, if_neg (Nat.not_lt.2 he), if_pos (show pollItemsInRange none = true from rfl)]; rfl
  · exact event_of_still h (forwardOldest_of_idle ht hs) (quiet_passDue h)
  · exact event_of_still h (forwardOldest_of_nothing hn) (quiet_passDue h)
  · rw [exec_frameTransmitted h clock ht, hd]; rfl
  · rw [exec_frameTransmitted h clock ht, hd]; rfl
  · exact event_of_still (act := fun s => if s.ring.transmitter.isSome then endTransmission (setClock clock s) else s) h
      (if_neg (by rw [ht]; nofun)) (quiet_passDue h)
  · simp only [detachPolls, detach_eq] <;> rfl

end Sys2Proof.Machine
end

section
/-! SUPPORT. What an insertion opportunity sends (R152, R163, R170, R171): the order of each mode, and the first of it
that waits. -/

namespace Sys2Proof.Machine

open Sys2Proof Sys2Proof.Config

/-! ### The mode judgment (R172) -/

section
variable (s : State)

/-- R172: the judgment touches the mode and the two counts of its changes. -/
theorem judgeMode_frame : judgeMode s = { s with
    sched := { s.sched with
      mode := (judgeMode s).sched.mode, toIssuing := (judgeMode s).sched.toIssuing
      toSampling := (judgeMode s).sched.toSampling } } := by
  unfold judgeMode; split <;> split <;> rfl

theorem judgeMode_priority : (judgeMode s).sched.priority = s.sched.priority := by rw [judgeMode_frame]

theorem judgeMode_queue : (judgeMode s).sched.queue = s.sched.queue := by rw [judgeMode_frame]

theorem judgeMode_passedOver : (judgeMode s).sched.passedOver = s.sched.passedOver := by rw [judgeMode_frame]

theorem judgeMode_ring : (judgeMode s).ring = s.ring := by rw [judgeMode_frame]

theorem judgeMode_station : (judgeMode s).station = s.station := by rw [judgeMode_frame]

theorem judgeMode_passDue : (judgeMode s).passDue = s.passDue := by rw [judgeMode_frame]

theorem pollAt_judgeMode (e : Nat) : pollAt (judgeMode s) e = pollAt s e := by rw [judgeMode_frame]; rfl

end

/-! ### Due polls (R169, R170) -/

section
variable {s : State}

/-- R169: no poll entry is due. -/
def NoPollDue (s : State) : Prop :=
  ∀ e p, pollAt s e = some p → p.inFlight = true ∨ 2 ^ 31 ≤ (now s - p.nextDue).toNat

theorem NoPollDue.judged (h : NoPollDue s) : NoPollDue (judgeMode s) := fun e p hp => by
  rw [now, judgeMode_station]
  exact h e p (pollAt_judgeMode s e ▸ hp)

theorem lateness_none {tick : Word32} {p : Poll} (h : p.inFlight = true ∨ 2 ^ 31 ≤ (tick - p.nextDue).toNat) :
    lateness tick p = none := by
  refine if_neg fun hd => ?_
  rw [Bool.and_eq_true, Bool.not_eq_true', decide_eq_true_eq] at hd
  obtain h | h := h
  · exact absurd (h.symm.trans hd.1) nofun
  · exact absurd hd.2 (Nat.not_lt.2 h)

theorem foldl_laterEntry_none (late : Nat → Option Nat) (h : ∀ e, late e = none) : ∀ l : List Nat,
    l.foldl (fun best e => laterEntry best e (late e)) none = none
  | [] => rfl
  | e :: l => by rw [List.foldl_cons, h e]; exact foldl_laterEntry_none late h l

theorem latestPoll_none (h : NoPollDue s) : latestPoll s = none := by
  refine foldl_laterEntry_none (fun e => (pollAt s e).bind (lateness (now s))) (fun e => ?_) entries32
  match hp : pollAt s e with
  | none => rfl
  | some p => exact lateness_none (h e p hp)

theorem pollChoice_none (h : NoPollDue s) : pollChoice s = none := by rw [pollChoice, latestPoll_none h]

/-! ### The choice (R170, R171) -/

theorem urgentResponse_none (h : s.sched.passedOver ≠ 2 ∨ s.ring.responses = []) : urgentResponse s = none := by
  unfold urgentResponse; split
  case isTrue hp => rw [h.resolve_left fun hn => hn hp]; rfl
  case isFalse => rfl

theorem urgentResponse_some (h : s.sched.passedOver = 2) {r : Response} {rest : List Response}
    (hr : s.ring.responses = r :: rest) : urgentResponse s = some (.response r) := by
  rw [urgentResponse, if_pos h, hr]; rfl

theorem choices_sampling (h : s.sched.mode = .sampling) : choices s =
    [s.sched.priority.head?.map .halt, urgentResponse s, pollChoice s, s.sched.queue.head?.map .command,
      s.ring.responses.head?.map .response] := by rw [choices, h]

theorem choices_issuing (h : s.sched.mode = .issuing) : choices s =
    [s.sched.priority.head?.map .halt, s.sched.queue.head?.map .command, urgentResponse s, pollChoice s,
      s.ring.responses.head?.map .response] := by rw [choices, h]

/-- R170: a halt goes before all else. -/
theorem chosen_of_halt {e : PriorityEntry} {rest : List PriorityEntry} (h : s.sched.priority = e :: rest) :
    chosen s = .halt e := by
  match hm : s.sched.mode with
  | .sampling => rw [chosen, choices_sampling hm, h]; rfl
  | .issuing => rw [chosen, choices_issuing hm, h]; rfl

variable (halt : s.sched.priority = [])
include halt

/-- R170: in ISSUING a command goes before all but a halt. -/
theorem chosen_of_command_issuing {e : QueueEntry} {rest : List QueueEntry} (mode : s.sched.mode = .issuing)
    (h : s.sched.queue = e :: rest) : chosen s = .command e := by
  rw [chosen, choices_issuing mode, halt, h]; rfl

/-- R170, R171: in SAMPLING a command goes behind the due polls and a response that has been passed over twice. -/
theorem chosen_of_command_sampling {e : QueueEntry} {rest : List QueueEntry} (mode : s.sched.mode = .sampling)
    (h : s.sched.queue = e :: rest) (urgent : s.sched.passedOver ≠ 2 ∨ s.ring.responses = []) (polls : NoPollDue s) :
    chosen s = .command e := by
  rw [chosen, choices_sampling mode, halt, urgentResponse_none urgent, pollChoice_none polls, h]; rfl

/-- R171: in SAMPLING a response that has been passed over twice goes behind a halt alone. -/
theorem chosen_of_urgent_response {r : Response} {rest : List Response} (mode : s.sched.mode = .sampling)
    (h : s.ring.responses = r :: rest) (urgent : s.sched.passedOver = 2) : chosen s = .response r := by
  rw [chosen, choices_sampling mode, halt, urgentResponse_some urgent h]; rfl

/-- R170, R171: a response goes when no command waits, and no poll is due or it has been passed over twice. -/
theorem chosen_of_response {r : Response} {rest : List Response} (queue : s.sched.queue = [])
    (h : s.ring.responses = r :: rest) (polls : s.sched.passedOver = 2 ∨ NoPollDue s) : chosen s = .response r := by
  have order : choices s = [none, urgentResponse s, pollChoice s, none, some (.response r)]
      ∨ choices s = [none, none, urgentResponse s, pollChoice s, some (.response r)] := by
    match mode : s.sched.mode with
    | .sampling => exact .inl (by rw [choices_sampling mode, halt, queue, h]; rfl)
    | .issuing => exact .inr (by rw [choices_issuing mode, halt, queue, h]; rfl)
  by_cases hu : s.sched.passedOver = 2
  · have urgent := urgentResponse_some hu h
    obtain ho | ho := order <;> (rw [chosen, ho, urgent]; rfl)
  · have urgent := urgentResponse_none (.inl hu)
    have poll := pollChoice_none (polls.resolve_left hu)
    obtain ho | ho := order <;> (rw [chosen, ho, urgent, poll]; rfl)

theorem chosen_of_nothing (queue : s.sched.queue = []) (h : s.ring.responses = []) (polls : NoPollDue s) :
    chosen s = .nothing := by
  match mode : s.sched.mode with
  | .sampling =>
    rw [chosen, choices_sampling mode, halt, queue, h, urgentResponse_none (.inr h), pollChoice_none polls]; rfl
  | .issuing =>
    rw [chosen, choices_issuing mode, halt, queue, h, urgentResponse_none (.inr h), pollChoice_none polls]; rfl

end

/-! ### The insertion opportunity (R152, R163) -/

section
variable {s : State}

theorem portFree_iff : portFree s = true ↔ s.ring.transmitter = none ∧ s.ring.store = [] := by
  rw [portFree, Bool.and_eq_true, Option.isNone_iff_eq_none, List.isEmpty_iff]

theorem insert_of_taken (h : s.ring.transmitter ≠ none ∨ s.ring.store ≠ []) : insert s = s := by
  refine if_neg fun hf => ?_
  obtain ⟨ht, hs⟩ := portFree_iff.1 hf
  exact h.elim (absurd ht) (absurd hs)

variable (ht : s.ring.transmitter = none) (hs : s.ring.store = [])
include ht hs

theorem insert_of_down (h : s.ring.state ≠ .up) : insert s = sendProbe s := by
  rw [insert, if_pos (portFree_iff.2 ⟨ht, hs⟩)]
  match hr : s.ring.state with
  | .up => exact absurd hr h
  | .down => rfl
  | .broken => rfl

theorem insert_of_up (h : s.ring.state = .up) : insert s =
    if s.ring.inFlight.length < 4 then carryOut (judgeMode s) (chosen (judgeMode s)) else s := by
  rw [insert, if_pos (portFree_iff.2 ⟨ht, hs⟩), h]

end

/-! ### What is sent -/

/-- R152, R158: an own frame with a tag given, on the transmitter. -/
def onAir (tag : Nat) (kind : FrameKind) (code dest : Nat) (pay : List Byte) (about : Particulars) (u : State) :
    State :=
  u.onRing fun r =>
    { r with
      tagCounter := (tag + 1) % 256
      transmitter := some
        { frame := ownFrame dest code tag pay, tag := tag, kind := kind, dest := dest, about := about
          discarded := false } }

theorem transmit_eq {u : State} {tag : Nat} (h : nextTag u.ring.inFlight u.ring.tagCounter = tag) (kind : FrameKind)
    (dest : Nat) (pay : List Byte) (about : Particulars) : transmit kind dest pay about u =
      onAir tag kind (frameKindCode kind) dest pay about u := by
  rw [transmit, h]; rfl

theorem passOver_passDue (s : State) : (passOver s).passDue = s.passDue := by unfold passOver; split <;> rfl

/-- R170: a command sent, with its last-sent record under the tag of its frame. -/
theorem sendCommand_eq {u : State} {tag : Nat} (h : nextTag u.ring.inFlight u.ring.tagCounter = tag) (node : Nat)
    (c : Command) (o : Owner) (priority : Bool) : sendCommand node c o priority u =
      passOver (onAir tag .command 2 node (commandBytes c) (.command o c priority) (recordSent node c o tag u)) := by
  rw [sendCommand, h]
  exact congrArg passOver (transmit_eq (u := recordSent node c o tag u) h _ _ _ _)

/-- R172: the mode judgment leaves the next tag. -/
theorem nextTag_judgeMode (s : State) : nextTag (judgeMode s).ring.inFlight (judgeMode s).ring.tagCounter =
    nextTag s.ring.inFlight s.ring.tagCounter := by rw [judgeMode_ring]

section
variable {s : State} (h : quiet s = true) (ht : s.ring.transmitter = none) (hs : s.ring.store = [])
include h ht hs

theorem exec_insertion_down (hd : s.ring.state ≠ .up) : exec .insertionOpportunity s = .next (sendProbe s) := by
  refine event_of_still h (insert_of_down ht hs hd) ?_
  unfold sendProbe; split <;> exact quiet_passDue h

variable (hu : s.ring.state = .up)
include hu

theorem exec_insertion_full (hf : 4 ≤ s.ring.inFlight.length) : exec .insertionOpportunity s = .next s :=
  event_of_still h ((insert_of_up ht hs hu).trans (if_neg (Nat.not_lt.2 hf))) (quiet_passDue h)

variable (hr : s.ring.inFlight.length < 4)
include hr

/-- R170: in UP the choice after the mode judgment is carried out. -/
theorem exec_insertion_up {c : Choice} (choice : chosen (judgeMode s) = c) {t : State}
    (carried : carryOut (judgeMode s) c = t) (hp : t.passDue = false) : exec .insertionOpportunity s = .next t :=
  event_of_still h ((insert_of_up ht hs hu).trans ((if_pos hr).trans (choice ▸ carried))) hp

theorem exec_insertion_halt {e : PriorityEntry} {rest : List PriorityEntry} (hq : s.sched.priority = e :: rest) :
    exec .insertionOpportunity s = .next (passOver (onAir (nextTag s.ring.inFlight s.ring.tagCounter) .command 2 e.node
      (commandBytes e.command) (.command e.origin e.command true)
      (recordSent e.node e.command e.origin (nextTag s.ring.inFlight s.ring.tagCounter)
        ((judgeMode s).onSched fun d => { d with priority := rest })))) := by
  have waiting := (judgeMode_priority s).trans hq
  refine exec_insertion_up h ht hs hu hr (chosen_of_halt waiting) ?_
    ((passOver_passDue _).trans ((judgeMode_passDue s).trans (quiet_passDue h)))
  have taken : ((judgeMode s).onSched fun d => { d with priority := d.priority.drop 1 }) =
      (judgeMode s).onSched fun d => { d with priority := rest } := by rw [State.onSched, waiting]; rfl
  rw [carryOut, taken]
  refine sendCommand_eq ?_ _ _ _ _
  exact nextTag_judgeMode s

theorem exec_insertion_command {e : QueueEntry} {rest : List QueueEntry} (hq : s.sched.queue = e :: rest)
    (choice : chosen (judgeMode s) = .command e) :
    exec .insertionOpportunity s = .next (passOver (onAir (nextTag s.ring.inFlight s.ring.tagCounter) .command 2 e.node
      (commandBytes e.command) (.command e.origin e.command false)
      (recordSent e.node e.command e.origin (nextTag s.ring.inFlight s.ring.tagCounter)
        ((judgeMode s).onSched fun d => { d with queue := rest })))) := by
  have waiting := (judgeMode_queue s).trans hq
  refine exec_insertion_up h ht hs hu hr choice ?_
    ((passOver_passDue _).trans ((judgeMode_passDue s).trans (quiet_passDue h)))
  have taken : ((judgeMode s).onSched fun d => { d with queue := d.queue.drop 1 }) =
      (judgeMode s).onSched fun d => { d with queue := rest } := by rw [State.onSched, waiting]; rfl
  rw [carryOut, taken]
  refine sendCommand_eq ?_ _ _ _ _
  exact nextTag_judgeMode s

theorem exec_insertion_response {r : Response} {rest : List Response} (hq : s.ring.responses = r :: rest)
    (choice : chosen (judgeMode s) = .response r) :
    exec .insertionOpportunity s = .next (onAir (nextTag s.ring.inFlight s.ring.tagCounter) .mgmtResp 4
      s.station.address (responsePayload r) .none
      (((judgeMode s).onRing fun g => { g with responses := rest }).onSched fun d => { d with passedOver := 0 })) := by
  have waiting := (congrArg Ring.responses (judgeMode_ring s)).trans hq
  refine exec_insertion_up h ht hs hu hr choice ?_ ((judgeMode_passDue s).trans (quiet_passDue h))
  have taken : ((judgeMode s).onRing fun g => { g with responses := g.responses.drop 1 }) =
      (judgeMode s).onRing fun g => { g with responses := rest } := by rw [State.onRing, waiting]; rfl
  rw [carryOut, sendResponse, judgeMode_station, taken]
  refine transmit_eq ?_ _ _ _ _
  exact nextTag_judgeMode s

end

/-! ### Last-sent records (R167, R170) -/

theorem classIndex_lt (k : CommandClass) : classIndex k < 4 := by cases k <;> decide

theorem classIndex_inj {k l : CommandClass} (h : classIndex k = classIndex l) : k = l := by
  cases k <;> cases l <;> first | rfl | cases h

theorem lastSentAt_recordSent {node : Nat} (h1 : 1 ≤ node) (h62 : node ≤ 62) (c : Command) (o : Owner) (tag : Nat)
    (s : State) {a : Nat} (ha : 1 ≤ a) (k : CommandClass) : lastSentAt (recordSent node c o tag s) a k =
      if node = a ∧ commandClass c = k then some { command := c, origin := o, tag := tag, tick := now s }
      else lastSentAt s a k := by
  show look (look (put s.sched.lastSent (node - 1) _) (a - 1)) (classIndex k) = _
  rw [look_put]
  by_cases hn : node = a
  · subst hn
    rw [if_pos ⟨rfl, by omega⟩, look_put]
    by_cases hk : commandClass c = k
    · rw [if_pos ⟨congrArg classIndex hk, classIndex_lt _⟩, if_pos ⟨rfl, hk⟩]
    · rw [if_neg fun h => hk (classIndex_inj h.1), if_neg fun h => hk h.2]; rfl
  · rw [if_neg (by omega), if_neg fun h => hn h.1]; rfl

/-- Settles O51: the port, the ring's state, the order of the mode, and the record of what is sent. -/
theorem insertionSendsTheFirstOfTheOrder : Obligations.InsertionSendsTheFirstOfTheOrder := by
  refine ⟨fun s h => ⟨fun taken => event_of_still h (insert_of_taken taken) (quiet_passDue h), fun ht hs hd => ⟨?_, ?_⟩,
    fun ht hs hu => ⟨exec_insertion_full h ht hs hu, fun hr => ⟨?_, ?_, ?_, ?_, ?_⟩⟩⟩, fun s node tag c o h1 h62 => ?_⟩
  · intro hp
    rw [exec_insertion_down h ht hs hd, sendProbe, hp]; rfl
  · intro hp
    rw [exec_insertion_down h ht hs hd, sendProbe, hp]; rfl
  · exact fun e rest hq => exec_insertion_halt h ht hs hu hr hq
  · intro e rest halt mode hq
    exact exec_insertion_command h ht hs hu hr hq
      (chosen_of_command_issuing ((judgeMode_priority s).trans halt) mode ((judgeMode_queue s).trans hq))
  · intro e rest halt mode hq urgent polls
    refine exec_insertion_command h ht hs hu hr hq
      (chosen_of_command_sampling ((judgeMode_priority s).trans halt) mode ((judgeMode_queue s).trans hq) ?_
        (NoPollDue.judged polls))
    rwa [judgeMode_passedOver, judgeMode_ring]
  · intro r rest halt hq urgent
    have waiting := (congrArg Ring.responses (judgeMode_ring s)).trans hq
    refine exec_insertion_response h ht hs hu hr hq ?_
    obtain ⟨passed, mode⟩ | ⟨queue, polls⟩ := urgent
    · exact chosen_of_urgent_response ((judgeMode_priority s).trans halt) mode waiting
        ((judgeMode_passedOver s).trans passed)
    · exact chosen_of_response ((judgeMode_priority s).trans halt) ((judgeMode_queue s).trans queue) waiting
        (polls.imp (judgeMode_passedOver s).trans NoPollDue.judged)
  · intro halt queue hq polls
    exact exec_insertion_up h ht hs hu hr (chosen_of_nothing ((judgeMode_priority s).trans halt)
      ((judgeMode_queue s).trans queue) ((congrArg Ring.responses (judgeMode_ring s)).trans hq)
      (NoPollDue.judged polls)) rfl
      ((judgeMode_passDue s).trans (quiet_passDue h))
  · have at' := fun {a : Nat} (ha : 1 ≤ a) k => lastSentAt_recordSent h1 h62 c o tag s ha k
    refine ⟨(at' h1 _).trans (if_pos ⟨rfl, rfl⟩), fun a k ha hn => (at' ha k).trans (if_neg fun hk => ?_), rfl⟩
    exact hn.elim (fun hn => hn hk.1.symm) fun hn => hn hk.2.symm

end Sys2Proof.Machine
end

section
/-! SUPPORT. The loss of an own frame by its kind (R160, R161, R163), and the reports of commands (R178, R179). -/

namespace Sys2Proof.Machine

open Sys2Proof Sys2Proof.Config

/-! ### Losses -/

/-- R158: the state with the entries of a tag removed from the in-flight table. -/
def dropped (tag : Nat) (s : State) : State :=
  s.onRing fun r => { r with inFlight := r.inFlight.filter fun g => g.tag ≠ tag }

/-- R161: the state with one more loss in a row. -/
def lossCounted (s : State) : State := s.onRing fun r => { r with lossCount := r.lossCount + 1 }

section
variable {s : State} {f : InFlight}

theorem dropTag_eq (tag : Nat) (fs : List InFlight) : dropTag tag fs = fs.filter fun g => g.tag ≠ tag :=
  List.filter_congr fun g _ => by rw [decide_not]; rfl

theorem dropped_eq (tag : Nat) (s : State) : (s.onRing fun r => { r with inFlight := dropTag tag r.inFlight }) =
    dropped tag s := by rw [State.onRing, dropTag_eq]; rfl

/-- R161: the third loss in a row breaks the ring in place of being handled. -/
theorem loseEntry_third (up : s.ring.state = .up) (kind : f.kind ≠ .probe) (third : 2 ≤ s.ring.lossCount) :
    loseEntry f s = breakRing (dropped f.tag s) := by
  rw [loseEntry, dropped_eq, if_pos ⟨(ringUp_iff s).2 up, kind⟩, if_neg (Nat.not_lt.2 (Nat.succ_le_succ third))]

/-- R160, R161: a loss in UP below the third is counted and handled. -/
theorem loseEntry_counted (up : s.ring.state = .up) (kind : f.kind ≠ .probe) (below : s.ring.lossCount < 2) :
    loseEntry f s = handleLoss f (lossCounted (dropped f.tag s)) := by
  rw [loseEntry, dropped_eq, if_pos ⟨(ringUp_iff s).2 up, kind⟩, if_pos (Nat.succ_lt_succ below)]; rfl

/-- R160: a loss out of UP is handled alone. -/
theorem loseEntry_down (down : s.ring.state ≠ .up) : loseEntry f s = handleLoss f (dropped f.tag s) := by
  rw [loseEntry, dropped_eq, if_neg fun h => down ((ringUp_iff s).1 h.1)]

theorem handleLoss_none (about : f.about = .none) (kind : f.kind ≠ .probe) : handleLoss f s = s := by
  rw [handleLoss, about]; exact if_neg kind

/-- R163: a lost probe makes the next one due. -/
theorem handleLoss_probe (about : f.about = .none) (kind : f.kind = .probe) :
    handleLoss f s = s.onRing fun r => { r with probeDue := true } := by
  rw [handleLoss, about]; exact if_pos kind

theorem handleLoss_poll {e : Nat} {slots : List (Option Nat)} (about : f.about = .poll e slots false) :
    handleLoss f s = s.onPoll e fun p => { p with inFlight := false } := by rw [handleLoss, about]; rfl

/-- R168: the loss of a poll that LOAD_POLL has detached does not touch the entry. -/
theorem handleLoss_detached {e : Nat} {slots : List (Option Nat)} (about : f.about = .poll e slots true) :
    handleLoss f s = s := by rw [handleLoss, about]; rfl

theorem handleLoss_command {o : Owner} {c : Command} {pri : Bool} (about : f.about = .command o c pri) :
    handleLoss f s = reportFailed f.dest f.tag c o pri s := by rw [handleLoss, about]

end

/-! ### Reports (R178, R179) -/

section
variable {s : State} {node tag : Nat} {c : Command} {o : Owner} {pri : Bool}

/-- R179: the failed command is superseded by a later command of its node. -/
def Superseded (s : State) (node tag : Nat) (c : Command) : Prop :=
  (∃ e ∈ s.sched.queue, e.node = node ∧ commandClass e.command = commandClass c)
    ∨ (∃ e ∈ s.sched.priority, e.node = node)
    ∨ ¬ ∃ r, lastSentAt s node (commandClass c) = some r ∧ r.tag = tag

theorem superseded_iff : superseded s node c tag = true ↔ Superseded s node tag c := by
  simp only [superseded, Superseded, Bool.or_eq_true, any_sameKey_iff, List.any_eq_true (l := s.sched.priority),
    beq_iff_eq, Bool.not_eq_true', beq_eq_false_iff_ne, ne_eq, Option.map_eq_some_iff, or_assoc]

/-- R178: the state with the failure count of a node one up. -/
def failureCounted (s : State) (node : Nat) : State :=
  s.onSched fun d => { d with failures := put d.failures (node - 1) (failuresOf s node + 1) }

/-- R178: the state with the failure count of a node at 0. -/
def failuresCleared (s : State) (node : Nat) : State :=
  s.onSched fun d => { d with failures := put d.failures (node - 1) 0 }

theorem failuresOf_cleared (h1 : 1 ≤ node) (h62 : node ≤ 62) : failuresOf (failuresCleared s node) node = 0 :=
  look_put_same s.sched.failures _ _ (by omega)

theorem reportFailed_superseded (below : failuresOf s node < 2) (h : Superseded s node tag c) :
    reportFailed node tag c o pri s = failureCounted s node :=
  (if_pos below).trans (if_pos (superseded_iff.2 h))

theorem reportFailed_reenters (below : failuresOf s node < 2) (h : ¬Superseded s node tag c) :
    reportFailed node tag c o pri s = reenter node c o pri (failureCounted s node) :=
  (if_pos below).trans (if_neg (mt superseded_iff.1 h))

/-- R178: the third failure in a row. -/
theorem reportFailed_third (third : 2 ≤ failuresOf s node) :
    reportFailed node tag c o pri s = nodeAbsent node (failuresCleared s node) :=
  if_neg (Nat.not_lt.2 third)

theorem reenter_queued (room : s.sched.queue.length < 16) : reenter node c o false s = s.onSched fun d =>
    { d with queue := d.queue ++ [{ node := node, command := c, origin := o, enqueued := now s }] } :=
  (if_neg nofun).trans (if_pos room)

/-- R179: a command that finds the queue full is dropped. -/
theorem reenter_dropped (full : 16 ≤ s.sched.queue.length) : reenter node c o false s = clearRecord node c o s :=
  (if_neg nofun).trans (if_neg (Nat.not_lt.2 full))

theorem clearRecord_motion {n : Nat} (h : commandClass c = .motion) (hj : (bindingOf s n).jack = node) :
    clearRecord node c (.sc n) s = s.onWork n fun w => { w with commanded := none } := by
  unfold clearRecord; rw [h]; exact if_pos hj

theorem clearRecord_winch {k : PlacementConfig} (h : commandClass c = .winch) (hk : s.placement.config = some k)
    (hn : k.winchNode = node) : clearRecord node c .pu s = s.onPlacement fun p => { p with winchCommand := none } := by
  unfold clearRecord; rw [h]; exact if_pos (by rw [placementConfig, hk]; exact hn)

theorem clearRecord_pump {k : PlacementConfig} (h : commandClass c = .pump) (hk : s.placement.config = some k)
    (hn : k.pumpNode = node) : clearRecord node c .pu s = s.onPlacement fun p => { p with pumpCommand := none } := by
  unfold clearRecord; rw [h]; exact if_pos (by rw [placementConfig, hk]; exact hn)

theorem clearRecord_seat (h : commandClass c = .seat) : clearRecord node c o s = s := by
  cases o <;> (unfold clearRecord; rw [h])

theorem nodeAbsent_channel {n : Nat} (h : ownerOf s node = some (.sc n)) :
    nodeAbsent node s = haltStress n .nodeAbsent s := by rw [nodeAbsent, h]

theorem nodeAbsent_unit (h : ownerOf s node = some .pu) : nodeAbsent node s = haltPlacement .nodeAbsent s := by
  rw [nodeAbsent, h]

theorem nodeAbsent_unowned (h : ownerOf s node = none) : nodeAbsent node s = s := by rw [nodeAbsent, h]

end

/-! ### The expiry of an entry (R158, R160) -/

section
variable {s : State} {tag : Nat} {f : InFlight}

/-- R160, log 6: an expiry is the loss of its entry, at the ring clock of the expiry. -/
theorem exec_entryExpiry (h : quiet s = true) (hf : s.ring.inFlight.find? (·.tag == tag) = some f) :
    exec (.entryExpiry tag) s = .next (runPass (loseEntry f (setClock f.expiry s))) := by
  refine (event_of_quiet h).trans ?_
  rw [expire, hf]; rfl

theorem exec_entryExpiry_of_none (h : quiet s = true) (hf : s.ring.inFlight.find? (·.tag == tag) = none) :
    exec (.entryExpiry tag) s = .next s :=
  event_of_still h (by rw [expire, hf]) (quiet_passDue h)

end

/-- Settles O53: each loss by its kind and count, each failed command by its count and what supersedes it. -/
theorem lossesAreHandledByKind : Obligations.LossesAreHandledByKind := by
  refine ⟨fun s tag h => ⟨exec_entryExpiry_of_none h, fun f hf => ?_⟩, fun s node tag c o pri h1 h62 => ?_⟩
  · intro gone counted
    have expired := exec_entryExpiry h hf
    have still {t : State} (ht : loseEntry f (setClock f.expiry s) = t) (hp : t.passDue = false) :
        exec (.entryExpiry tag) s = .next t := by rw [expired, ht, runPass_of_none hp]
    have counting (up : s.ring.state = .up) (kind : f.kind ≠ .probe) (below : s.ring.lossCount < 2) :
        loseEntry f (setClock f.expiry s) = handleLoss f counted :=
      loseEntry_counted (s := setClock f.expiry s) up kind below
    have hp : s.passDue = false := quiet_passDue h
    refine ⟨fun up kind third => ?_, fun up kind about below => ?_, fun e slots up kind about below => ?_,
      fun e slots up kind about below => ?_, fun o c pri up kind about below => ?_, fun down kind about => ?_⟩
    · rw [expired, loseEntry_third (s := setClock f.expiry s) up kind third]; rfl
    · have kind : f.kind ≠ .probe := by rw [kind]; nofun
      exact still ((counting up kind below).trans (handleLoss_none about kind)) hp
    · exact still ((counting up (by rw [kind]; nofun) below).trans (handleLoss_poll about)) hp
    · exact still ((counting up (by rw [kind]; nofun) below).trans (handleLoss_detached about)) hp
    · rw [expired, counting up (by rw [kind]; nofun) below, handleLoss_command about]
    · exact still ((loseEntry_down (s := setClock f.expiry s) down).trans (handleLoss_probe about kind)) hp
  · intro raised zeroed superseded
    refine ⟨reportFailed_superseded, fun below hs hp => ?_, fun below hs hp room => ?_, fun below hs hp full => ?_,
      fun n third ho => ?_, fun third ho => ?_, fun third ho => ?_, rfl, failuresOf_cleared h1 h62⟩
    · subst hp; exact reportFailed_reenters below hs
    · subst hp; exact (reportFailed_reenters below hs).trans (reenter_queued (s := failureCounted s node) room)
    · subst hp
      have cleared := (reportFailed_reenters (o := o) (pri := false) below hs).trans
        (reenter_dropped (s := failureCounted s node) full)
      refine ⟨fun n ho hc hj => ?_, fun k ho hc hk hn => ?_, fun k ho hc hk hn => ?_, fun hc => ?_⟩
      · subst ho; exact cleared.trans (clearRecord_motion hc hj)
      · subst ho; exact cleared.trans (clearRecord_winch hc hk hn)
      · subst ho; exact cleared.trans (clearRecord_pump hc hk hn)
      · exact cleared.trans (clearRecord_seat hc)
    · exact (reportFailed_third third).trans (nodeAbsent_channel ho)
    · exact (reportFailed_third third).trans (nodeAbsent_unit ho)
    · exact (reportFailed_third third).trans (nodeAbsent_unowned ho)

end Sys2Proof.Machine
end

section
/-! SUPPORT. The disposition of a frame at port A (R153, R154, R156, R157): what each row of the table asks of it, and
the requests of the station. -/

namespace Sys2Proof.Machine

open Sys2Proof Sys2Proof.Config

/-! ### The arrival (log 6) -/

section
variable {s t : State} {clock : Word32} {bs : List Byte}

/-- The ring clock is no item that a row is due by. -/
theorem isDue_setClock (clock : Word32) (s : State) (d : Due) : isDue (setClock clock s) d = isDue s d := by
  cases d <;> rfl

theorem quiet_setClock (clock : Word32) (h : quiet s = true) : quiet (setClock clock s) = true := by
  have due : isDue (setClock clock s) = isDue s := funext (isDue_setClock clock s)
  have next : nextDue (setClock clock s) = nextDue s := by rw [nextDue, due, nextDue]
  rw [quiet, next]; exact h

theorem exec_frameArrival (h : quiet s = true) (arrived : arrive bs (setClock clock s) = t) :
    exec (.frameArrival clock bs) s = .next (runPass t) :=
  (event_of_quiet (act := fun s => arrive bs (setClock clock s)) h).trans (by rw [arrived])

/-- The arrival of a frame that starts no pass. -/
theorem exec_frameArrival_still (h : quiet s = true) (arrived : arrive bs (setClock clock s) = t)
    (hp : t.passDue = false) :
    exec (.frameArrival clock bs) s = .next t := by
  rw [exec_frameArrival h arrived, runPass_of_none hp]

end

/-! ### The check (R153) -/

/-- R153: the frame passes the check. -/
def Sound (bs : List Byte) : Prop := malformed bs = false ∧ crcGood bs = true

section
variable {s : State} {bs : List Byte}

theorem arrive_of_sound (h : Sound bs) : arrive bs s = disposeFrame bs s := by
  rw [arrive, h.1, h.2]; rfl

theorem arrive_of_unsound (h : ¬Sound bs) : arrive bs s = badFrame bs s := by
  refine if_pos (by_contra fun hn => h ?_)
  rw [Bool.or_eq_true, not_or, Bool.not_eq_true, Bool.not_eq_true', Bool.not_eq_false] at hn
  exact hn

theorem ring_observe (o : Observation) (s : State) : (observe o s).ring = s.ring := (reader_observe s o).ring

/-- R153: a bad frame that names no own entry. -/
theorem badFrame_of_unnamed (h : bs.length < 5 ∨ byteAt bs 1 ≠ 0 ∨ ∀ f ∈ s.ring.inFlight, f.tag ≠ byteAt bs 4) :
    badFrame bs s = observe .ringError s := by
  have unnamed : namedEntry (observe .ringError s) bs = none := by
    unfold namedEntry; split
    · rfl
    case isFalse hl =>
      split
      case isTrue h0 =>
        rw [ring_observe]
        refine List.find?_eq_none.2 fun f hf => ?_
        rw [beq_iff_eq]
        exact ((h.resolve_left hl).resolve_left (not_not.2 h0)) f hf
      case isFalse => rfl
  rw [badFrame, unnamed]

/-- R153: a bad frame that still names an own entry is the loss of that entry as well (log 3). -/
theorem badFrame_of_named {f : InFlight} (hl : 5 ≤ bs.length) (h0 : byteAt bs 1 = 0)
    (hf : s.ring.inFlight.find? (·.tag == byteAt bs 4) = some f) :
    badFrame bs s = loseEntry f (observe .ringError s) := by
  have named : namedEntry (observe .ringError s) bs = some f := by
    rw [namedEntry, if_neg (Nat.not_lt.2 hl), if_pos h0, ring_observe]; exact hf
  rw [badFrame, named]

/-! ### Own frames and orphans (R154) -/

theorem disposeFrame_of_late (h0 : byteAt bs 1 = 0) (h : ∀ f ∈ s.ring.inFlight,
    f.tag ≠ byteAt bs 4 ∨ frameKindCode f.kind ≠ byteAt bs 2 ∨ f.dest ≠ byteAt bs 0) :
    disposeFrame bs s = observe .ringError s := by
  have late : matchingEntry s bs = none := by
    refine List.find?_eq_none.2 fun f hf => ?_
    simp only [Bool.and_eq_true, beq_iff_eq, not_and_or, or_assoc]
    exact h f hf
  rw [disposeFrame, if_pos h0, late]

theorem disposeFrame_of_own {f : InFlight} (h0 : byteAt bs 1 = 0) (hf : matchingEntry s bs = some f) :
    disposeFrame bs s = returnOwn f bs s := by
  rw [disposeFrame, if_pos h0, hf]

theorem marked_iff {m : Byte} : marked bs m = true ↔ (bs[3]?.getD 0) &&& m ≠ 0 := by
  rw [marked, Bool.not_eq_true', beq_eq_false_iff_ne]

theorem unmarked_iff {m : Byte} : ¬marked bs m = true ↔ (bs[3]?.getD 0) &&& m = 0 := by
  rw [marked_iff, not_not]

/-- R154: a frame of address 63, or of a node and past the master, is an orphan. -/
theorem disposeFrame_of_orphan (h : byteAt bs 1 = 63 ∨ byteAt bs 1 ≠ 0 ∧ (bs[3]?.getD 0) &&& 4 ≠ 0) :
    disposeFrame bs s = observe .ringError s := by
  obtain h63 | ⟨h0, hm⟩ := h
  · rw [disposeFrame, if_neg (by rw [h63]; decide), if_pos h63]
  · rw [disposeFrame, if_neg h0, if_pos (marked_iff.2 hm), ite_self]

/-- R154: a frame of a node that has not passed the master is foreign. -/
def Foreign (bs : List Byte) : Prop := byteAt bs 1 ≠ 0 ∧ byteAt bs 1 ≠ 63 ∧ (bs[3]?.getD 0) &&& 4 = 0

theorem disposeFrame_of_foreign (h : Foreign bs) : disposeFrame bs s = foreignFrame bs s := by
  obtain ⟨h0, h63, hm⟩ := h
  rw [disposeFrame, if_neg h0, if_neg h63, if_neg (unmarked_iff.2 hm)]

/-! ### Foreign frames (R156, R157) -/

theorem ownedCount_pos_iff (s : State) : 0 < ownedCount s ↔ ∃ a, a ≤ 62 ∧ ownerOf s a ≠ none := by
  rw [ownedCount, List.countP_pos_iff]
  constructor
  · rintro ⟨a, ha, ho⟩
    obtain ⟨i, hi, rfl⟩ := List.mem_map.1 ha
    exact ⟨i + 1, List.mem_range.1 hi, Option.isSome_iff_ne_none.1 ho⟩
  · rintro ⟨a, -, ho⟩
    obtain ⟨o, hs⟩ := Option.ne_none_iff_exists'.1 ho
    exact ⟨a, mem_nodes62_of_owned hs, Option.isSome_iff_ne_none.2 ho⟩

theorem guarded_iff (s : State) (bs : List Byte) : guarded s bs = true ↔ haltPayload (payload bs) = false
    ∧ (ownerOf s (byteAt bs 0) ≠ none ∨ (byteAt bs 0 = 63 ∧ ∃ a, a ≤ 62 ∧ ownerOf s a ≠ none)) := by
  rw [guarded, Bool.and_eq_true, Bool.or_eq_true, Bool.and_eq_true, Bool.not_eq_true', Option.isSome_iff_ne_none,
    beq_iff_eq, decide_eq_true_eq, ownedCount_pos_iff]

/-- R156: a guarded COMMAND is forwarded with GUARDED and MASTER_PASSED set. -/
theorem foreignFrame_of_guarded (kind : byteAt bs 2 = 2) (h : guarded s bs = true) :
    foreignFrame bs s = forward (remark 6 bs) s := by
  rw [foreignFrame, if_neg fun hr => absurd (kind.symm.trans hr.1) (by decide), if_pos ⟨kind, h⟩]; rfl

/-- R154: any other frame that is no request is forwarded with MASTER_PASSED set. -/
theorem foreignFrame_of_other (request : ¬(byteAt bs 2 = 3 ∧ byteAt bs 0 = 0))
    (guards : ¬(byteAt bs 2 = 2 ∧ guarded s bs = true)) : foreignFrame bs s = forward (remark 4 bs) s := by
  rw [foreignFrame, if_neg request, if_neg guards]

theorem foreignFrame_of_untaken (request : byteAt bs 2 = 3 ∧ byteAt bs 0 = 0) (h : ¬takesRequest s bs = true) :
    foreignFrame bs s = forward (remark 4 bs) s := by
  rw [foreignFrame, if_pos request, if_neg h]

theorem foreignFrame_of_taken (request : byteAt bs 2 = 3 ∧ byteAt bs 0 = 0) (h : takesRequest s bs = true) :
    foreignFrame bs s = forward (remark 5 bs)
      (takeBody (byteAt bs 4) (byteAt (payload bs) 0) ((payload bs).drop 1) s) := by
  rw [foreignFrame, if_pos request, if_pos h]; rfl

/-- R157: a request of a sound frame is taken from the station address, not yet TAKEN, while fewer than 4 responses
wait. -/
theorem takesRequest_iff (sound : Sound bs) (foreign : Foreign bs) : takesRequest s bs = true ↔
    byteAt bs 1 = s.station.address ∧ (bs[3]?.getD 0) &&& 1 = 0 ∧ s.ring.responses.length < 4 := by
  have h63 : byteAt bs 1 ≤ 63 := by
    have hm := sound.1
    simp only [malformed, Bool.or_eq_false_iff, decide_eq_false_iff_not] at hm
    exact Nat.le_of_not_lt hm.2
  have named (h : byteAt bs 1 = s.station.address) : 1 ≤ s.station.address ∧ s.station.address ≤ 62 := by
    have := foreign.1
    have := foreign.2.1
    omega
  rw [takesRequest, canTake, Bool.and_eq_true, Bool.and_eq_true, Bool.and_eq_true, within_iff, decide_eq_true_eq,
    beq_iff_eq, Bool.not_eq_true', ← Bool.not_eq_true, unmarked_iff]
  exact ⟨fun ⟨⟨⟨_, hr⟩, ha⟩, ht⟩ => ⟨ha, ht, hr⟩, fun ⟨ha, ht, hr⟩ => ⟨⟨⟨named ha, hr⟩, ha⟩, ht⟩⟩

theorem canTake_of_takesRequest (h : takesRequest s bs = true) : canTake s = true := by
  rw [takesRequest, Bool.and_eq_true, Bool.and_eq_true] at h
  exact h.1.1

end

/-! ### Requests taken (R157, R190, R192) -/

section
variable {s : State} {tag code : Nat} {body : List Byte}

theorem runPass_passDue (s : State) : (runPass s).passDue = false := by
  by_cases h : s.passDue = true
  · rw [runPass_of_due h]; rfl
  · rw [runPass_of_none (Bool.eq_false_iff.2 h)]; exact Bool.eq_false_iff.2 h

theorem requestCode_ne_loadPart (r : Request) : requestCode r ≠ loadPartCode := by
  cases r <;> exact Nat.ne_of_beq_eq_false rfl

theorem takeBody_of_request {r : Request} (h : decodeRequest (requestCode r) body = some r) :
    takeBody tag (requestCode r) body s = respond tag (requestCode r) (handRequest r s) := by
  rw [takeBody, if_neg (requestCode_ne_loadPart r), handBody, h]

theorem takeBody_of_part {target part : Nat} {last : Bool} {bytes : List Byte}
    (h : takePart body = some (target, part, last, bytes)) : takeBody tag 0x63 body s =
      respond tag (actLoadPart target part last bytes s).1 (actLoadPart target part last bytes s).2 := by
  rw [takeBody, if_pos rfl, h]

/-- R190: a code and a body that spell no request. -/
theorem takeBody_of_unspelled (h : if code = 0x63 then takePart body = none else decodeRequest code body = none) :
    takeBody tag code body s = respond tag code (refuse .badValue s) := by
  unfold takeBody
  by_cases hc : code = 0x63
  · rw [if_pos hc] at h
    rw [if_pos hc, h]
  · rw [if_neg hc] at h
    rw [if_neg hc, handBody, h]

theorem takeBody_passDue : (takeBody tag code body s).passDue = false := by
  unfold takeBody; split
  · split <;> exact runPass_passDue _
  · exact runPass_passDue _

theorem exec_loadPart (h : takesNow s) (target part : Nat) (last : Bool) (bytes : List Byte) :
    exec (.loadPart tag target part last bytes) s = .next
      (respond tag (actLoadPart target part last bytes s).1 (actLoadPart target part last bytes s).2) := by
  show execLoadPart tag target part last bytes s = _
  rw [execLoadPart, settle_of_quiet h.1, if_pos h.2]

end

/-- Settles O54: each row of the disposition by what it asks of the frame, and each request by what its code and body
spell. -/
theorem framesAreDisposedOf : Obligations.FramesAreDisposedOf := by
  refine ⟨fun s clock bs h => ?_, fun s clock bs h hm hc h0 hk hs h63 hp => ?_⟩
  · intro at' good source foreign request guards
    have hpass : s.passDue = false := quiet_passDue h
    have guarding : guarded at' bs = true ↔ _ := guarded_iff at' bs
    refine ⟨fun bad unnamed => ?_, fun f bad hl h0 hf => ?_, fun hg h0 late => ?_, fun hg orphan => ?_,
      fun hf hg => ?_, fun hf hr hg => ?_⟩
    · exact exec_frameArrival h ((arrive_of_unsound bad).trans (badFrame_of_unnamed (s := at') unnamed))
    · intro seen gone counted
      have ring : seen.ring = at'.ring := ring_observe .ringError at'
      have lost {t : State} (ht : loseEntry f seen = t) : exec (.frameArrival clock bs) s = .next (runPass t) :=
        exec_frameArrival h ((arrive_of_unsound bad).trans ((badFrame_of_named (s := at') hl h0 hf).trans ht))
      refine ⟨fun up kind third => lost (loseEntry_third (ring ▸ up) kind (ring ▸ third)), fun up kind below => ?_,
        fun down kind about => lost ((loseEntry_down (ring ▸ down)).trans (handleLoss_probe about kind))⟩
      have counting : loseEntry f seen = handleLoss f counted := loseEntry_counted (ring ▸ up) kind (ring ▸ below)
      exact ⟨fun about => lost (counting.trans (handleLoss_none about kind)),
        fun e slots about => lost (counting.trans (handleLoss_poll about)),
        fun e slots about => lost (counting.trans (handleLoss_detached about)),
        fun o c pri about => lost (counting.trans (handleLoss_command about))⟩
    · exact exec_frameArrival h ((arrive_of_sound hg).trans (disposeFrame_of_late (s := at') h0 late))
    · exact exec_frameArrival h ((arrive_of_sound hg).trans (disposeFrame_of_orphan orphan))
    · exact exec_frameArrival_still h ((arrive_of_sound hf.1).trans ((disposeFrame_of_foreign hf.2).trans
        (foreignFrame_of_guarded hg.1 (guarding.2 hg.2)))) hpass
    · exact exec_frameArrival_still h ((arrive_of_sound hf.1).trans ((disposeFrame_of_foreign hf.2).trans
        (foreignFrame_of_other hr fun hn => hg ⟨hn.1, guarding.1 hn.2⟩))) hpass
  · intro at' takes code
    have sound : Sound bs := ⟨hm, hc⟩
    have foreign : Foreign bs := ⟨hs, h63, hp⟩
    have taking : takesRequest at' bs = true ↔ takes := takesRequest_iff sound foreign
    have hpass : at'.passDue = false := quiet_passDue h
    have arrived {t : State} (ht : foreignFrame bs at' = t) : arrive bs at' = t :=
      (arrive_of_sound sound).trans ((disposeFrame_of_foreign foreign).trans ht)
    have now' (ht : takes) : takesNow at' := ⟨quiet_setClock clock h, canTake_of_takesRequest (taking.2 ht)⟩
    have taken (ht : takes) {u : State} (hu : takeBody (byteAt bs 4) code ((payload bs).drop 1) at' = u) :
        exec (.frameArrival clock bs) s = .next (forward (remark 5 bs) u) :=
      exec_frameArrival_still h (arrived ((foreignFrame_of_taken ⟨hk, h0⟩ (taking.2 ht)).trans
        (congrArg (forward (remark 5 bs)) hu))) (hu ▸ takeBody_passDue (s := at'))
    have refused' (ht : takes) (hu : if code = 0x63 then takePart ((payload bs).drop 1) = none
        else decodeRequest code ((payload bs).drop 1) = none) : exec (.frameArrival clock bs) s =
          .next (forward (remark 5 bs) (refused (byteAt bs 4) code .badValue at')) :=
      taken ht ((takeBody_of_unspelled hu).trans (respond_refuse _ hpass))
    refine ⟨fun hn => ?_, fun r ht hcode hr => ?_, refused', fun target part last bytes ht hcode hr => ?_,
      fun ht hempty => ?_⟩
    · exact exec_frameArrival_still h (arrived (foreignFrame_of_untaken ⟨hk, h0⟩ (mt taking.1 hn))) hpass
    · refine ⟨_, _, (exec_rowOf _ r at').trans (request_of_takesNow (now' ht)), taken ht ?_, rfl⟩
      exact (congrArg (takeBody _ · _ at') hcode).trans (takeBody_of_request hr)
    · refine ⟨_, _, exec_loadPart (now' ht) target part last bytes, taken ht ?_, rfl⟩
      exact (congrArg (takeBody _ · _ at') hcode).trans (takeBody_of_part hr)
    · have hcode : code = 0 := congrArg (byteAt · 0) hempty
      have unspelled := refused' ht (by rw [hcode, hempty]; rfl)
      rwa [hcode] at unspelled

end Sys2Proof.Machine
end

section
/-! SUPPORT. The return of an own frame, judged by its kind (R159, R164, R178). -/

namespace Sys2Proof.Machine

open Sys2Proof Sys2Proof.Config

/-! ### Returns -/

/-- R159: the state with a returned entry removed and the loss count at 0. -/
def returned (tag : Nat) (s : State) : State :=
  s.onRing fun r => { r with inFlight := r.inFlight.filter (fun g => g.tag ≠ tag), lossCount := 0 }

section
variable {s : State} {f : InFlight} {bs : List Byte}

theorem returned_eq (tag : Nat) (s : State) :
    (s.onRing fun r => { r with inFlight := dropTag tag r.inFlight, lossCount := 0 }) = returned tag s := by
  rw [State.onRing, dropTag_eq]; rfl

theorem returnOwn_taken {o : Owner} {c : Command} {pri : Bool} (about : f.about = .command o c pri)
    (taken : marked bs markTaken = true) : returnOwn f bs s = reportTaken f.dest (returned f.tag s) := by
  rw [returnOwn, returned_eq, about]; exact if_pos taken

theorem returnOwn_failed {o : Owner} {c : Command} {pri : Bool} (about : f.about = .command o c pri)
    (taken : ¬marked bs markTaken = true) :
    returnOwn f bs s = reportFailed f.dest f.tag c o pri (returned f.tag s) := by
  rw [returnOwn, returned_eq, about]; exact if_neg taken

theorem returnOwn_response (about : f.about = .none) (kind : f.kind ≠ .probe) :
    returnOwn f bs s = returned f.tag s := by
  rw [returnOwn, returned_eq, about]; exact if_neg fun h => kind h.1

/-- R164: a probe that returns out of UP raises the ring. -/
theorem returnOwn_probe (about : f.about = .none) (kind : f.kind = .probe) (down : s.ring.state ≠ .up) :
    returnOwn f bs s = raiseRing (returned f.tag s) := by
  rw [returnOwn, returned_eq, about]
  exact if_pos ⟨kind, Bool.eq_false_iff.2 (mt (ringUp_iff s).1 down)⟩

theorem returnOwn_poll {e : Nat} {slots : List (Option Nat)} {loaded : Bool} (about : f.about = .poll e slots loaded) :
    returnOwn f bs s = returnPoll bs slots (endPoll e loaded (returned f.tag s)) := by
  rw [returnOwn, returned_eq, about]

theorem returnPoll_untaken (slots : List (Option Nat)) (taken : ¬marked bs markTaken = true) :
    returnPoll bs slots s = s := if_neg taken

/-- R159: a poll that was TAKEN and whose slots are as many as it was sent with. -/
theorem returnPoll_delivers {slots : List (Option Nat)} (taken : marked bs markTaken = true)
    (count : byteAt (payload bs) 1 = slots.length) (length : (payload bs).length = 2 + 4 * slots.length) :
    returnPoll bs slots s = deliverSlots (payload bs) slots s :=
  (if_pos taken).trans (if_pos ⟨count, length⟩)

/-- R159: a wrong slot count or length. -/
theorem returnPoll_mismatched {slots : List (Option Nat)} (taken : marked bs markTaken = true)
    (wrong : byteAt (payload bs) 1 ≠ slots.length ∨ (payload bs).length ≠ 2 + 4 * slots.length) :
    returnPoll bs slots s = observe .ringError s :=
  (if_pos taken).trans (if_neg fun h => wrong.elim (absurd h.1) (absurd h.2))

theorem endPoll_passDue (e : Nat) (loaded : Bool) (s : State) : (endPoll e loaded s).passDue = s.passDue := by
  unfold endPoll; split <;> rfl

end

/-- Settles O55, by the kind of the returned frame and its TAKEN mark. -/
theorem returnsAreJudgedByKind : Obligations.ReturnsAreJudgedByKind := by
  intro s clock bs f h hm hc h0 hf gone taken
  have hpass : s.passDue = false := quiet_passDue h
  have marking : marked bs markTaken = true ↔ taken := marked_iff
  have untaken (ht : ¬taken) : ¬marked bs markTaken = true := mt marking.1 ht
  have arrived {t : State} (ht : returnOwn f bs (setClock clock s) = t) : arrive bs (setClock clock s) = t :=
    (arrive_of_sound ⟨hm, hc⟩).trans ((disposeFrame_of_own (s := setClock clock s) h0 hf).trans ht)
  refine ⟨fun o c pri about ht => ?_, fun o c pri about ht => ?_, fun about kind => ?_, fun about kind down => ?_,
    fun e slots loaded about ht => ?_, fun e slots loaded about ht => ?_⟩
  · exact exec_frameArrival_still h (arrived (returnOwn_taken about (marking.2 ht))) hpass
  · exact exec_frameArrival h (arrived (returnOwn_failed about (untaken ht)))
  · exact exec_frameArrival_still h (arrived (returnOwn_response about kind)) hpass
  · exact (exec_frameArrival h (arrived (returnOwn_probe about kind down))).trans
      (congrArg Host.Outcome.next (runPass_of_due rfl))
  · exact exec_frameArrival_still h (arrived ((returnOwn_poll about).trans (returnPoll_untaken slots (untaken ht))))
      ((endPoll_passDue e loaded gone).trans hpass)
  · intro ended
    refine ⟨fun count length => ?_, fun wrong => ?_⟩
    · exact exec_frameArrival h (arrived ((returnOwn_poll about).trans
        (returnPoll_delivers (s := ended) (marking.2 ht) count length)))
    · exact exec_frameArrival h (arrived ((returnOwn_poll about).trans
        (returnPoll_mismatched (s := ended) (marking.2 ht) wrong)))

end Sys2Proof.Machine
end

section
/-! SUPPORT. Frames and parts as bytes: an own frame and a re-marked frame seen through the frame's accessors, and
the body of a LOAD_PART read back. -/
namespace Sys2Proof.Machine
open Sys2Proof Sys2Proof.Config

/-! ### Big-endian bytes and the CRC bytes -/

/-- Section 8.8: an integer of `w` bytes is `w` bytes long. -/
@[simp] theorem length_be (w v : Nat) : (be w v).length = w := by
  induction w with
  | zero => rfl
  | succ w ih => rw [be, List.length_cons, ih]

/-- Section 8.8: an integer of one byte is that byte. -/
theorem be_one (v : Nat) : be 1 v = [BitVec.ofNat 8 v] := by simp [be]

/-- A number below 256 is read back from its byte. -/
theorem toNat_byte {v : Nat} (h : v < 256) : (BitVec.ofNat 8 v).toNat = v := by
  rw [BitVec.toNat_ofNat, Nat.mod_eq_of_lt h]

@[simp] theorem length_withCrc (bs : List Byte) : (withCrc bs).length = bs.length + 2 := by simp [withCrc]

/-- R153: without its two CRC bytes a frame is the bytes that the CRC is over. -/
theorem take_withCrc (bs : List Byte) : (withCrc bs).take bs.length = bs := by simp [withCrc]

/-- R153: the bytes before the CRC bytes are as they were given. -/
theorem getElem?_withCrc {bs : List Byte} {i : Nat} (h : i < bs.length) : (withCrc bs)[i]? = bs[i]? :=
  List.getElem?_append_left h

/-- R153: bytes that get their CRC carry a good one. -/
theorem crcGood_withCrc (bs : List Byte) : crcGood (withCrc bs) = true := by
  rw [crcGood, length_withCrc, Nat.add_sub_cancel, take_withCrc, beq_self_eq_true]

/-! ### Well-formed frames -/

/-- R153: a frame is well formed when its length fits its payload length and its addresses are below 64. -/
theorem malformed_eq_false_iff (bs : List Byte) : malformed bs = false ↔
    bs.length = 8 + byteAt bs 5 ∧ byteAt bs 5 ≤ 124 ∧ byteAt bs 0 ≤ 63 ∧ byteAt bs 1 ≤ 63 := by
  simp only [malformed, Bool.or_eq_false_iff, decide_eq_false_iff_not, Bool.not_eq_false', beq_iff_eq]
  omega

/-- R153: whether a frame is well formed lies in its length, its addresses and its payload length. -/
theorem malformed_congr {as bs : List Byte} (hl : as.length = bs.length) (h0 : as[0]? = bs[0]?) (h1 : as[1]? = bs[1]?)
    (h5 : as[5]? = bs[5]?) : malformed as = malformed bs := by
  have same : ∀ {i : Nat}, as[i]? = bs[i]? → byteAt as i = byteAt bs i := fun h =>
    congrArg (fun b => (b.getD 0).toNat) h
  rw [malformed, hl, same h0, same h1, same h5, malformed]

/-! ### Own frames -/

/-- Section 8.8: an own frame is its header, its payload and its CRC. -/
theorem ownFrame_eq (dest kind tag : Nat) (pay : List Byte) : ownFrame dest kind tag pay =
    withCrc (BitVec.ofNat 8 dest :: 0 :: BitVec.ofNat 8 kind :: 0 :: BitVec.ofNat 8 tag :: BitVec.ofNat 8 pay.length
      :: pay) := by
  simp [ownFrame, be_one]

section
variable (dest kind tag : Nat) (pay : List Byte)

@[simp] theorem length_ownFrame : (ownFrame dest kind tag pay).length = 8 + pay.length := by
  rw [ownFrame_eq, length_withCrc]
  simp only [List.length_cons]
  omega

/-- Section 8.8: the header of an own frame, byte by byte. -/
theorem byteAt_ownFrame :
    byteAt (ownFrame dest kind tag pay) 0 = (BitVec.ofNat 8 dest).toNat
      ∧ byteAt (ownFrame dest kind tag pay) 1 = 0
      ∧ byteAt (ownFrame dest kind tag pay) 2 = (BitVec.ofNat 8 kind).toNat
      ∧ byteAt (ownFrame dest kind tag pay) 3 = 0
      ∧ byteAt (ownFrame dest kind tag pay) 4 = (BitVec.ofNat 8 tag).toNat
      ∧ byteAt (ownFrame dest kind tag pay) 5 = (BitVec.ofNat 8 pay.length).toNat := by
  rw [ownFrame_eq]
  exact ⟨rfl, rfl, rfl, rfl, rfl, rfl⟩

/-- R153: an own frame carries a good CRC. -/
theorem crcGood_ownFrame : crcGood (ownFrame dest kind tag pay) = true := crcGood_withCrc _

end

section
variable {dest kind tag : Nat} {pay : List Byte}

/-- R153: an own frame to a ring address, of a payload that fits, is well formed. -/
theorem malformed_ownFrame (hd : dest < 64) (hp : pay.length ≤ 124) :
    malformed (ownFrame dest kind tag pay) = false := by
  obtain ⟨h0, h1, -, -, -, h5⟩ := byteAt_ownFrame dest kind tag pay
  rw [toNat_byte (by omega)] at h0 h5
  rw [malformed_eq_false_iff, length_ownFrame, h0, h1, h5]
  omega

/-- Section 8.8: an own frame shows its payload. -/
theorem payload_ownFrame (hp : pay.length ≤ 124) : payload (ownFrame dest kind tag pay) = pay := by
  obtain ⟨-, -, -, -, -, h5⟩ := byteAt_ownFrame dest kind tag pay
  rw [payload, h5, toNat_byte (by omega), ownFrame_eq, withCrc]
  simp

end

/-! ### Re-marked frames -/

section
variable {bs : List Byte} (m : Byte)

@[simp] theorem length_remark (h : 2 ≤ bs.length) : (remark m bs).length = bs.length := by
  rw [remark, length_withCrc, List.length_set, List.length_take]
  omega

/-- R153: a re-marked frame carries a good CRC. -/
theorem crcGood_remark (bs : List Byte) : crcGood (remark m bs) = true := crcGood_withCrc _

/-- R153: before its CRC a re-marked frame holds the bytes of the frame with its marks replaced. -/
theorem getElem?_remark {i : Nat} (h : i + 2 < bs.length) :
    (remark m bs)[i]? = ((bs.take (bs.length - 2)).set 3 ((bs[3]?.getD 0) ||| m))[i]? :=
  getElem?_withCrc (by rw [List.length_set, List.length_take]; omega)

/-- R153: a re-marked frame keeps every byte before its CRC but the marks. -/
theorem getElem?_remark_of_ne {i : Nat} (hi : i ≠ 3) (h : i + 2 < bs.length) : (remark m bs)[i]? = bs[i]? := by
  rw [getElem?_remark m h, List.getElem?_set_ne hi.symm, List.getElem?_take_of_lt (by omega)]

/-- R153: a re-marked frame has the new marks set beside those it had. -/
theorem getElem?_remark_marks (h : 5 < bs.length) : (remark m bs)[3]? = bs[3]?.map (· ||| m) := by
  have hl : 3 < (bs.take (bs.length - 2)).length := by rw [List.length_take]; omega
  have h3 : bs[3]? = some bs[3] := List.getElem?_eq_getElem (by omega)
  rw [getElem?_remark m h, List.getElem?_set_self hl, h3]
  rfl

/-- R153: a re-marked frame is as well formed as the frame was. -/
theorem malformed_remark (h : 8 ≤ bs.length) : malformed (remark m bs) = malformed bs := by
  have kept : ∀ i, i ≠ 3 → i < 6 → (remark m bs)[i]? = bs[i]? := fun i hi hlt =>
    getElem?_remark_of_ne m hi (by omega)
  exact malformed_congr (length_remark m (by omega)) (kept 0 (by decide) (by decide)) (kept 1 (by decide) (by decide))
    (kept 5 (by decide) (by decide))

end

/-! ### The body of a LOAD_PART -/

/-- Section 8.8: a flag is read back. -/
theorem takeFlag_flag (b : Bool) (bs : List Byte) : takeFlag (flag b ++ bs) = some (b, bs) := by
  cases b with
  | false => rfl
  | true => rfl

/-- R192: the items of a LOAD_PART are read back from its body. -/
theorem takePart_body {target part : Nat} {bytes : List Byte} (last : Bool) (ht : target < 256) (hp : part < 256)
    (hb : bytes.length ≤ 119) :
    takePart (be 1 target ++ be 1 part ++ flag last ++ be 1 bytes.length ++ bytes) =
      some (target, part, last, bytes) := by
  have body : be 1 target ++ be 1 part ++ flag last ++ be 1 bytes.length ++ bytes =
      BitVec.ofNat 8 target :: BitVec.ofNat 8 part :: (flag last ++ BitVec.ofNat 8 bytes.length :: bytes) := by
    simp [be_one]
  rw [body, takePart, takeFlag_flag]
  simp only [toNat_byte ht, toNat_byte hp, toNat_byte (show bytes.length < 256 by omega), hb, and_self, if_true]

/-- Settles O6: a frame's bytes before its CRC are those it was built from, so each accessor reads what was put
there. -/
theorem framesAndPartsReadBack : Obligations.FramesAndPartsReadBack := by
  refine ⟨fun target part last bytes ht hp hb => takePart_body last ht hp hb, fun dest kind tag pay hd hk ht hp => ?_,
    fun bs m h => ?_⟩
  · obtain ⟨h0, h1, h2, h3, h4, -⟩ := byteAt_ownFrame dest kind tag pay
    exact ⟨malformed_ownFrame hd hp, crcGood_ownFrame dest kind tag pay, h0.trans (toNat_byte (by omega)), h1,
      h2.trans (toNat_byte hk), h3, h4.trans (toNat_byte ht), payload_ownFrame hp⟩
  · have long : 8 ≤ bs.length := by
      obtain ⟨hl, -⟩ := (malformed_eq_false_iff bs).1 h
      omega
    exact ⟨(malformed_remark m long).trans h, crcGood_remark m bs, fun i hi hlt => getElem?_remark_of_ne m hi hlt,
      getElem?_remark_marks m (by omega)⟩

end Sys2Proof.Machine
end

section
/-! SUPPORT. The due poll entry of the greatest lateness (R169, R170), the mode judgment in the words of R172, and
the insertion opportunity at which a poll is sent. -/

namespace Sys2Proof.Machine

open Sys2Proof Sys2Proof.Config

/-! ### The lateness of an entry (R169) -/

/-- R169: an entry is due, with its lateness, when its mark is clear and the tick has reached its next-due tick. -/
theorem lateness_eq_some_iff {tick : Word32} {p : Poll} {l : Nat} : lateness tick p = some l ↔
    p.inFlight = false ∧ (tick - p.nextDue).toNat < 2 ^ 31 ∧ (tick - p.nextDue).toNat = l := by
  rw [lateness, Option.ite_none_right_eq_some, Bool.and_eq_true, Bool.not_eq_true', decide_eq_true_eq, Option.some_inj,
    and_assoc]
  rfl

/-- The lateness of entry `e`; `none` where it is empty or not due. -/
def entryLateness (s : State) (e : Nat) : Option Nat := (pollAt s e).bind (lateness (now s))

theorem entryLateness_eq_some_iff {s : State} {e l : Nat} : entryLateness s e = some l ↔
    ∃ p, pollAt s e = some p ∧ p.inFlight = false ∧ (now s - p.nextDue).toNat < 2 ^ 31
      ∧ (now s - p.nextDue).toNat = l := by
  simp only [entryLateness, Option.bind_eq_some_iff, lateness_eq_some_iff]

/-! ### The latest of the due entries (R170) -/

/-- R170: among the entries below `n`, `best` is the due one of the greatest lateness, the lowest of those that share
it; there is none exactly when no entry is due. -/
def IsLatest (late : Nat → Option Nat) (n : Nat) : Option (Nat × Nat) → Prop
  | none => ∀ i, i < n → late i = none
  | some (e, l) => e < n ∧ late e = some l ∧ ∀ i k, i < n → late i = some k → k < l ∨ (k = l ∧ e ≤ i)

section
variable {late : Nat → Option Nat} {n : Nat}

/-- The next entry replaces the best of those before it exactly when it is later. -/
theorem IsLatest.succ {best : Option (Nat × Nat)} (h : IsLatest late n best) :
    IsLatest late (n + 1) (laterEntry best n (late n)) := by
  match hn : late n, best with
  | none, none =>
    intro i hi
    obtain hi | rfl := Nat.lt_succ_iff_lt_or_eq.1 hi
    · exact h i hi
    · exact hn
  | none, some (e, l) =>
    obtain ⟨he, hl, greatest⟩ := h
    refine ⟨by omega, hl, fun i k hi hk => ?_⟩
    obtain hi | rfl := Nat.lt_succ_iff_lt_or_eq.1 hi
    · exact greatest i k hi hk
    · exact absurd (hn.symm.trans hk) nofun
  | some m, none =>
    refine ⟨by omega, hn, fun i k hi hk => ?_⟩
    obtain hi | rfl := Nat.lt_succ_iff_lt_or_eq.1 hi
    · exact absurd ((h i hi).symm.trans hk) nofun
    · exact .inr ⟨Option.some_inj.1 (hk.symm.trans hn), le_rfl⟩
  | some m, some (e, l) =>
    obtain ⟨he, hl, greatest⟩ := h
    rw [laterEntry]
    split
    case isTrue later =>
      refine ⟨by omega, hn, fun i k hi hk => ?_⟩
      obtain hi | rfl := Nat.lt_succ_iff_lt_or_eq.1 hi
      · have := greatest i k hi hk
        omega
      · exact .inr ⟨Option.some_inj.1 (hk.symm.trans hn), le_rfl⟩
    case isFalse notLater =>
      refine ⟨by omega, hl, fun i k hi hk => ?_⟩
      obtain hi | rfl := Nat.lt_succ_iff_lt_or_eq.1 hi
      · exact greatest i k hi hk
      · have := Option.some_inj.1 (hk.symm.trans hn)
        omega

/-- The scan of the entries in ascending order finds the latest. -/
theorem isLatest_foldl (late : Nat → Option Nat) (n : Nat) :
    IsLatest late n ((List.range n).foldl (fun best e => laterEntry best e (late e)) none) := by
  induction n with
  | zero => exact fun i hi => absurd hi (Nat.not_lt_zero i)
  | succ n ih =>
    rw [List.range_succ, List.foldl_concat]
    exact ih.succ

/-- The latest is one entry: any other that claims it is later, or as late with a lower number. -/
theorem IsLatest.eq_some {best : Option (Nat × Nat)} {e l : Nat} (h : IsLatest late n best)
    (hs : IsLatest late n (some (e, l))) : best = some (e, l) := by
  obtain ⟨he, hl, greatest⟩ := hs
  match best with
  | none => exact absurd ((h e he).symm.trans hl) nofun
  | some (f, m) =>
    obtain ⟨hf, hm, greatest'⟩ := h
    have below := greatest f m hf hm
    have above := greatest' e l he hl
    rw [show f = e by omega, show m = l by omega]

/-- A bound is reached by the latest entry exactly when some due entry reaches it. -/
theorem IsLatest.reaches_iff {best : Option (Nat × Nat)} (h : IsLatest late n best) (b : Nat) :
    (∃ f m, best = some (f, m) ∧ b ≤ m) ↔ ∃ i k, i < n ∧ late i = some k ∧ b ≤ k := by
  match best with
  | none =>
    constructor
    · rintro ⟨_, _, hb, _⟩
      cases hb
    · rintro ⟨i, k, hi, hk, _⟩
      exact absurd ((h i hi).symm.trans hk) nofun
  | some (e, l) =>
    obtain ⟨he, hl, greatest⟩ := h
    constructor
    · rintro ⟨f, m, hb, hm⟩
      cases hb
      exact ⟨e, l, he, hl, hm⟩
    · rintro ⟨i, k, hi, hk, hb⟩
      have := greatest i k hi hk
      exact ⟨e, l, rfl, by omega⟩

end

theorem isLatest_latestPoll (s : State) : IsLatest (entryLateness s) 32 (latestPoll s) :=
  isLatest_foldl (entryLateness s) 32

/-- R170: the due entry that is later than every other, or as late with a lower number, is the latest. -/
theorem latestPoll_eq_some {s : State} {e : Nat} {p : Poll} (he : e < 32) (hp : pollAt s e = some p)
    (clear : p.inFlight = false) (due : (now s - p.nextDue).toNat < 2 ^ 31)
    (first : ∀ i q, i < 32 → i ≠ e → pollAt s i = some q → q.inFlight = false → (now s - q.nextDue).toNat < 2 ^ 31 →
      (now s - q.nextDue).toNat < (now s - p.nextDue).toNat
        ∨ ((now s - q.nextDue).toNat = (now s - p.nextDue).toNat ∧ e < i)) :
    latestPoll s = some (e, (now s - p.nextDue).toNat) := by
  have own : entryLateness s e = some (now s - p.nextDue).toNat :=
    entryLateness_eq_some_iff.2 ⟨p, hp, clear, due, rfl⟩
  refine (isLatest_latestPoll s).eq_some ⟨he, own, fun i k hi hk => ?_⟩
  by_cases other : i = e
  · rw [other] at hk ⊢
    exact .inr ⟨Option.some_inj.1 (hk.symm.trans own), le_rfl⟩
  · obtain ⟨q, hq, mark, reached, rfl⟩ := entryLateness_eq_some_iff.1 hk
    have := first i q hi other hq mark reached
    omega

/-! ### The mode judgment (R172) -/

section
variable (s : State)

/-- R172: SAMPLING is left at the high limit of the queue, or when its front command has waited too long. -/
theorem entersIssuing_iff : entersIssuing s = true ↔ s.sched.params.high ≤ s.sched.queue.length
    ∨ ∃ e, s.sched.queue.head? = some e ∧ s.sched.params.commandStarve ≤ (now s - e.enqueued).toNat := by
  rw [entersIssuing, frontAge, Bool.or_eq_true, decide_eq_true_eq]
  match s.sched.queue.head? with
  | none => simp
  | some e => simp [age]

/-- R172: ISSUING is left at the low limit of the queue, or when a due poll is too late. -/
theorem entersSampling_iff : entersSampling s = true ↔ s.sched.queue.length ≤ s.sched.params.low
    ∨ ∃ e p, e < 32 ∧ pollAt s e = some p ∧ p.inFlight = false ∧ (now s - p.nextDue).toNat < 2 ^ 31
      ∧ s.sched.params.pollStarve ≤ (now s - p.nextDue).toNat := by
  have reaches := (isLatest_latestPoll s).reaches_iff s.sched.params.pollStarve
  have starved : (∃ i k, i < 32 ∧ entryLateness s i = some k ∧ s.sched.params.pollStarve ≤ k) ↔
      ∃ e p, e < 32 ∧ pollAt s e = some p ∧ p.inFlight = false ∧ (now s - p.nextDue).toNat < 2 ^ 31
        ∧ s.sched.params.pollStarve ≤ (now s - p.nextDue).toNat := by
    simp only [entryLateness_eq_some_iff]
    constructor
    · rintro ⟨i, _, hi, ⟨p, hp, clear, due, rfl⟩, hb⟩
      exact ⟨i, p, hi, hp, clear, due, hb⟩
    · rintro ⟨i, p, hi, hp, clear, due, hb⟩
      exact ⟨i, _, hi, ⟨p, hp, clear, due, rfl⟩, hb⟩
  rw [← starved, ← reaches, entersSampling, Bool.or_eq_true, decide_eq_true_eq]
  match latestPoll s with
  | none => simp
  | some (e, l) => simp

variable {s}

theorem judgeMode_of_sampling (h : s.sched.mode = .sampling) : judgeMode s = if entersIssuing s then
    s.onSched fun d => { d with mode := .issuing, toIssuing := d.toIssuing + 1 } else s := by rw [judgeMode, h]

theorem judgeMode_of_issuing (h : s.sched.mode = .issuing) : judgeMode s = if entersSampling s then
    s.onSched fun d => { d with mode := .sampling, toSampling := d.toSampling + 1 } else s := by rw [judgeMode, h]

end

/-! ### The poll that is sent (R169, R170) -/

section
variable {s : State}

/-- R172: the mode judgment leaves the due entry of the greatest lateness. -/
theorem latestPoll_judgeMode (s : State) : latestPoll (judgeMode s) = latestPoll s := by rw [judgeMode_frame]; rfl

theorem pollChoice_of_latest {e l : Nat} {p : Poll} (latest : latestPoll s = some (e, l)) (hp : pollAt s e = some p) :
    pollChoice s = some (.poll e p.config) := by
  rw [pollChoice, latest]
  exact congrArg (Option.map _) hp

/-- R170, R171: with no halt and no response passed over twice, a due poll goes before all in SAMPLING and behind a
command alone in ISSUING. -/
theorem chosen_of_poll {c : Choice} (halt : s.sched.priority = []) (urgent : s.sched.passedOver ≠ 2)
    (turn : s.sched.mode = .sampling ∨ s.sched.queue = []) (poll : pollChoice s = some c) : chosen s = c := by
  match mode : s.sched.mode with
  | .sampling => rw [chosen, choices_sampling mode, halt, urgentResponse_none (.inl urgent), poll]; rfl
  | .issuing =>
    have queue := turn.resolve_left fun hm => nomatch mode.symm.trans hm
    rw [chosen, choices_issuing mode, halt, queue, urgentResponse_none (.inl urgent), poll]; rfl

theorem pollAt_onPoll (s : State) (e i : Nat) (f : Poll → Poll) :
    pollAt (s.onPoll e f) i = if e = i ∧ e < 32 then (pollAt s e).map f else pollAt s i :=
  look_put s.sched.polls e i _

theorem pollAt_passOver (s : State) (i : Nat) : pollAt (passOver s) i = pollAt s i := by
  unfold passOver; split <;> rfl

theorem passOver_ring (s : State) : (passOver s).ring = s.ring := by unfold passOver; split <;> rfl

/-- R171: below 2, the passed-over count rises by one at what is sent before a front response. -/
theorem passOver_passedOver (h : s.sched.passedOver < 2) : (passOver s).sched.passedOver =
    if s.ring.responses = [] then s.sched.passedOver else s.sched.passedOver + 1 := by
  simp only [passOver, List.isEmpty_iff]
  split
  · rfl
  · exact min_eq_right (by omega)

/-- R169: a poll entry sent, under a tag given. -/
theorem sendPoll_eq {tag : Nat} (h : nextTag s.ring.inFlight s.ring.tagCounter = tag) (e : Nat) (c : PollConfig) :
    sendPoll e c s = passOver (onAir tag .poll 1 c.node (pollPayload c) (.poll e c.slots false)
      (s.onPoll e fun p => { p with nextDue := now s + BitVec.ofNat 32 p.config.period, inFlight := true })) :=
  congrArg passOver (transmit_eq (u := s.onPoll e _) h _ _ _ _)

/-- R169: the entry sent moves on by its period and gets its mark; no other entry changes. -/
theorem pollAt_sendPoll (s : State) (e : Nat) (c : PollConfig) (i : Nat) : pollAt (sendPoll e c s) i =
    if e = i ∧ e < 32 then (pollAt s e).map fun p =>
      { p with nextDue := now s + BitVec.ofNat 32 p.config.period, inFlight := true }
    else pollAt s i :=
  (pollAt_passOver _ i).trans (pollAt_onPoll s e i _)

/-- R169, R170: in UP, when it is the polls' turn, the due entry of the greatest lateness is sent. -/
theorem exec_insertion_poll (h : quiet s = true) (ht : s.ring.transmitter = none) (hs : s.ring.store = [])
    (hu : s.ring.state = .up) (hr : s.ring.inFlight.length < 4) (halt : s.sched.priority = [])
    (urgent : s.sched.passedOver ≠ 2) (turn : (judgeMode s).sched.mode = .sampling ∨ s.sched.queue = []) {e l : Nat}
    {p : Poll} (latest : latestPoll s = some (e, l)) (hp : pollAt s e = some p) :
    exec .insertionOpportunity s = .next (sendPoll e p.config (judgeMode s)) := by
  have choice := pollChoice_of_latest ((latestPoll_judgeMode s).trans latest) ((pollAt_judgeMode s e).trans hp)
  refine exec_insertion_up h ht hs hu hr (chosen_of_poll ((judgeMode_priority s).trans halt) ?_ ?_ choice) rfl
    ((passOver_passDue _).trans ((judgeMode_passDue s).trans (quiet_passDue h)))
  · rwa [judgeMode_passedOver]
  · rwa [judgeMode_queue]

end

/-- Settles O50: the judgment by the two conditions of R172, and the poll that the scan of the entries finds. -/
theorem modesAreJudgedAndPollsSent : Obligations.ModesAreJudgedAndPollsSent := by
  refine ⟨fun s => ⟨fun mode leaves => ?_, fun mode stays => ?_, fun mode leaves => ?_, fun mode stays => ?_⟩,
    fun s e p h ht hs hu hr turn halt passed he hp clear due first => ?_⟩
  · exact (judgeMode_of_sampling mode).trans (if_pos ((entersIssuing_iff s).2 leaves))
  · exact (judgeMode_of_sampling mode).trans (if_neg fun leaves => stays ((entersIssuing_iff s).1 leaves))
  · exact (judgeMode_of_issuing mode).trans (if_pos ((entersSampling_iff s).2 leaves))
  · exact (judgeMode_of_issuing mode).trans (if_neg fun leaves => stays ((entersSampling_iff s).1 leaves))
  · have latest := latestPoll_eq_some he hp clear due first
    have tick : now (judgeMode s) = now s := congrArg Station.tick (judgeMode_station s)
    have moved := pollAt_sendPoll (judgeMode s) e p.config
    refine ⟨_, exec_insertion_poll h ht hs hu hr halt (by omega) turn latest hp, ?_, fun i other => ?_, ?_, ?_⟩
    · rw [moved, if_pos ⟨rfl, he⟩, pollAt_judgeMode, hp, tick]; rfl
    · rw [moved, if_neg fun same => other same.1.symm, pollAt_judgeMode]
    · rw [sendPoll_eq (nextTag_judgeMode s), passOver_ring]; rfl
    · rw [← judgeMode_passedOver s, ← judgeMode_ring s]
      exact passOver_passedOver (by rwa [← judgeMode_passedOver s] at passed)

end Sys2Proof.Machine
end

section
/-! SUPPORT. The log through every command (R182 to R186, R188): a record that the log takes, a trim and a watermark keep it
in order, and nothing else reaches its entries. -/

namespace Sys2Proof.Machine

open Sys2Proof Sys2Proof.Config

/-! ### What leaves the log as it was -/

theorem log_of_desk {s t : State} (h : desk t = desk s) : t.log = s.log := congrArg Desk.log h

section
variable (s : State)

theorem log_present (node : Nat) (c : Command) (o : Owner) : (present node c o s).log = s.log := by
  unfold present; split <;> rfl

theorem log_placeHalt (node : Nat) (c : Command) (o : Owner) : (placeHalt node c o s).log = s.log := by
  obtain ⟨_, _, h⟩ := placeHalt_frame node c o s
  rw [h]

theorem log_setOwner (node : Nat) (o : Option Owner) : (s.setOwner node o).log = s.log := by
  obtain ⟨_, h⟩ := setOwner_frame s node o
  rw [h]

theorem log_releaseNodes : (releaseNodes s).log = s.log := by
  obtain ⟨_, h⟩ := releaseNodes_frame s
  rw [h]

theorem log_bindTo (n : Nat) (b : Binding) (auto : Bool) : (bindTo n b auto s).log = s.log := by
  obtain ⟨_, h⟩ := boundWith_frame s n b auto
  rw [bindTo_eq, h]; split <;> rfl

theorem log_unbind (n : Nat) : (unbind n s).log = s.log := log_setOwner s _ _

theorem log_configurePlacement (c : PlacementConfig) : (configurePlacement c s).log = s.log :=
  (log_setOwner _ _ _).trans ((log_setOwner _ _ _).trans (log_releaseNodes s))

theorem log_unconfigurePlacement : (unconfigurePlacement s).log = s.log := log_releaseNodes s

end

/-! ### The log stays in order -/

/-- R186: in a store in order the mark is judged by the number of entries, whatever the watermark. -/
theorem judgeAttention_watermark {l : TestLog} (h : logInOrder l) (w : Nat) :
    judgeAttention { l with watermark := w } =
      { l with watermark := w, attention := decide (w ≤ l.entries.length) } :=
  congrArg (fun n => { l with watermark := w, attention := decide (w ≤ n) }) (occupancy_of_inOrder h)

/-- R186: a watermark keeps the store in order. -/
theorem watermark_inOrder {l : TestLog} (h : logInOrder l) (w : Nat) :
    logInOrder (judgeAttention { l with watermark := w }) := by
  rw [judgeAttention_watermark h w]
  obtain ⟨bound, next, numbers, head, -⟩ := h
  exact ⟨bound, next, numbers, head, rfl⟩

/-- R182 to R186, R188: the order of the log is an invariant of the desk. -/
theorem keeps_logInOrder : Keeps fun s => logInOrder s.log where
  elsewhere h hd := by rwa [log_of_desk hd]
  reserve r _ h := writeReserve_inOrder r h
  ordinary r _ room h := ordinary_inOrder r h room
  trim seq _ h := trimTo_inOrder seq h
  watermark w _ h := watermark_inOrder h w
  overrun h := h
  present node c o s h := by rwa [log_present s]
  placeHalt node c o s h := by rwa [log_placeHalt s]
  enter _ _ _ _ h := h
  take _ _ _ _ _ h := h
  bind n b auto s _ h := by rwa [log_bindTo s]
  unbind n s _ h := by rwa [log_unbind s]
  configure c s h := by rwa [log_configurePlacement s]
  unconfigure {s} h := by rwa [log_unconfigurePlacement s]
  power _ _ _ := reset_logInOrder

/-- Settles O8: the order of the log is an invariant of the desk, which every step keeps. -/
theorem logStaysInOrder : Obligations.LogStaysInOrder := fun _ _ hs he => kept_step keeps_logInOrder he hs

end Sys2Proof.Machine
end

section
/-! SUPPORT. The entries of a record byte by byte (section 8.8), the writers at their bounds (R184, R185), and the requests
that trim and mark the log (R186, R188, R189). -/

namespace Sys2Proof.Machine

open Sys2Proof Sys2Proof.Config

/-! ### The entries of a record (section 8.8) -/

/-- Section 8.8: the data byte of a record at a place, 0 where the record carries none. -/
def recordByte (r : LogRecord) (j : Nat) : Byte := if j < 63 then r.data[j]?.getD 0 else 0

theorem recordData_getD (r : LogRecord) (j : Nat) : (recordData r)[j]?.getD 0 = recordByte r j := by
  unfold recordData recordByte
  rw [List.getElem?_take]; split <;> rfl

theorem recordLength_eq (r : LogRecord) : recordLength r = 1 + (min 63 r.data.length - 7 + 7) / 8 := by
  rw [recordLength, recordData, List.length_take]

theorem padded_eq_map (k : Nat) (bs : List Byte) : padded k bs = (List.range k).map fun j => bs[j]?.getD 0 := by
  refine List.ext_getElem (by simp [padded]; omega) fun j hj _ => ?_
  have hk : j < k := by simp [padded] at hj; omega
  by_cases hb : j < bs.length
  · simp [padded, hk, hb]
  · simp [padded, List.getElem_append, hb]

/-- Section 8.8: the head entry, with the number of continuations and 7 data bytes. -/
theorem recordEntries_head (seq : Word32) (r : LogRecord) : (recordEntries seq r)[0]? = some
    { seq := seq, tick := r.tick, kind := recordKindCode r.kind, unit := r.unit, slot := r.slot, detail := r.detail
      data := BitVec.ofNat 8 (recordLength r - 1) :: (List.range 7).map (recordByte r) } := by
  simp only [recordEntries, padded_eq_map, be_one, recordData_getD]
  rfl

/-- Section 8.8: a continuation, with its number and the next 8 data bytes. -/
theorem recordEntries_continuation (seq : Word32) (r : LogRecord) {i : Nat} (h : i < recordLength r - 1) :
    (recordEntries seq r)[i + 1]? = some
      { seq := seq + BitVec.ofNat 32 (i + 1), tick := r.tick, kind := 15, unit := r.unit, slot := r.slot, detail := i + 1
        data := (List.range 8).map fun j => recordByte r (7 + 8 * i + j) } := by
  simp [recordEntries, padded_eq_map, h, ← recordData_getD]

/-! ### The writers (R184, R185) -/

section
variable {s : State} (h : logInOrder s.log) (r : LogRecord)
include h

theorem writeOrDrop_of_room (room : s.log.entries.length < 2016) : writeOrDrop r s = s.onLog (appendRecord r) :=
  if_pos (decide_eq_true ((occupancy_of_inOrder h).trans_lt room))

theorem writeOrDrop_of_full (full : 2016 ≤ s.log.entries.length) : writeOrDrop r s = s :=
  if_neg (by rw [ordinaryRoom_of_full (by rwa [occupancy_of_inOrder h])]; nofun)

theorem writeReserve_of_fit (fit : s.log.entries.length + recordLength r ≤ 2048) :
    writeReserve r s = s.onLog (appendRecord r) :=
  writeReserve_of_room (by rwa [occupancy_of_inOrder h])

theorem writeReserve_of_overrun (exceeds : 2048 < s.log.entries.length + recordLength r) :
    writeReserve r s = s.onLog fun l => { l with overrun := true } :=
  if_neg (by rw [occupancy_of_inOrder h]; exact Nat.not_le.2 exceeds)

end

/-! ### TRIM_LOG, SET_WATERMARK and CLEAR_OVERRUN (R186, R188, R189) -/

/-- R188: behind the named entry the rest of its record goes and the next record on stays. -/
theorem drop_eq_append_keptEntries (i : Nat) (es : List LogEntry) :
    es.drop (i + 1) = (es.drop (i + 1)).takeWhile continues ++ keptEntries i es :=
  List.takeWhile_append_dropWhile.symm

theorem kind_of_continues {e : LogEntry} (h : continues e = true) : e.kind = 15 := beq_iff_eq.1 h

/-- R188: what a trim leaves: the entries kept, their oldest number, and the mark judged by their number. -/
theorem trimTo_eq {l : TestLog} (h : logInOrder l) (seq : Word32) :
    let kept := keptEntries (seq - l.oldest).toNat l.entries
    trimTo seq l = { l with
      entries := kept
      oldest := l.oldest + BitVec.ofNat 32 (l.entries.length - kept.length)
      attention := decide (l.watermark ≤ kept.length) } := by
  obtain ⟨-, -, -, -, judged⟩ := trimTo_inOrder seq h
  exact congrArg (fun a => { trimTo seq l with attention := a }) judged

section
variable {s : State} (h : takesNow s) (tag : Nat)
include h

theorem exec_trimLog (hl : logInOrder s.log) (seq : Word32) : exec (.trimLog tag seq) s = .next (
    if (seq - s.log.oldest).toNat < s.log.entries.length then
      answered tag 0x59 none (be 4 (trimTo seq s.log).oldest.toNat ++ be 2 (trimTo seq s.log).entries.length)
        (s.onLog (trimTo seq))
    else refused tag 0x59 .notFound s) := by
  have hp := passDue_of_takesNow h
  show request tag 0x59 (actTrimLog seq) s = _
  rw [request_of_takesNow h, ← occupancy_of_inOrder (trimTo_inOrder seq hl)]
  exact congrArg Host.Outcome.next (respond_check_last hp (seqHeld_iff hl seq) (respond_done _ hp))

theorem exec_setWatermark (hl : logInOrder s.log) (w : Nat) : exec (.setWatermark tag w) s = .next (
    if 1 ≤ w ∧ w ≤ 2016 then
      answered tag 0x5A none [] (s.onLog fun l => { l with watermark := w, attention := decide (w ≤ l.entries.length) })
    else refused tag 0x5A .badValue s) := by
  have hp := passDue_of_takesNow h
  have marked : (s.onLog fun l => judgeAttention { l with watermark := w }) =
      s.onLog fun l => { l with watermark := w, attention := decide (w ≤ l.entries.length) } :=
    congrArg (fun l => { s with log := l }) (judgeAttention_watermark hl w)
  show request tag 0x5A (actSetWatermark w) s = _
  rw [request_of_takesNow h, actSetWatermark, marked]
  exact congrArg Host.Outcome.next (respond_check_last hp within_iff (respond_done _ hp))

theorem exec_clearOverrun : exec (.clearOverrun tag) s =
    .next (answered tag 0x5B none [] (s.onLog fun l => { l with overrun := false })) := by
  show request tag 0x5B actClearOverrun s = _
  rw [request_of_takesNow h]
  exact congrArg Host.Outcome.next (respond_done _ (passDue_of_takesNow h))

end

/-- Settles O56: the writers by the room in order, the record entry by entry, and the requests by what stays behind the
named entry. -/
theorem logTakesTrimsAndMarks : Obligations.LogTakesTrimsAndMarks := by
  refine ⟨fun s r hl => ?_, fun s tag h hl => ⟨fun seq past => ?_, fun seq held => ?_, exec_setWatermark h tag hl,
    exec_clearOverrun h tag⟩⟩
  · rw [← recordLength_eq]
    refine ⟨writeOrDrop_of_room hl r, writeOrDrop_of_full hl r, writeReserve_of_fit hl r, writeReserve_of_overrun hl r,
      recordEntries s.log.next r, rfl, recordEntries_length _ r, fun i e he => ?_, rfl⟩
    cases i with
    | zero =>
      cases (recordEntries_head _ r).symm.trans he
      simp [recordKindCode_ne, recordByte]
    | succ i =>
      have hi : i < recordLength r - 1 := by
        have := (List.getElem?_eq_some_iff.1 he).1
        rw [recordEntries_length] at this
        omega
      cases (recordEntries_continuation _ r hi).symm.trans he
      simp [recordByte]
  · rw [exec_trimLog h tag hl, if_neg (Nat.not_lt.2 past)]
  · have spec := keptEntries_spec (seq - s.log.oldest).toNat s.log.entries
    refine ⟨_, _, drop_eq_append_keptEntries _ _, fun e he => kind_of_continues (List.mem_takeWhile_imp he), spec.2, ?_⟩
    rw [exec_trimLog h tag hl, if_pos held]
    exact congrArg (fun l => Host.Outcome.next (answered tag 0x59 none (be 4 l.oldest.toNat ++ be 2 l.entries.length)
      { s with log := l })) (trimTo_eq hl seq)

end Sys2Proof.Machine
end

section
/-! SUPPORT. Request bodies read back item by item (section 8.8): each reader undoes its writer on values that fit. -/

namespace Sys2Proof.Machine

open Sys2Proof Sys2Proof.Config

/-! ### Readers that undo their writers -/

/-- Section 8.8: a value that fits is read back from its bytes, and the bytes after them are left. -/
abbrev ReadsBack {α : Type} (take : Reader α) (put : α → List Byte) (fit : α → Bool) : Prop :=
  ∀ a rest, fit a = true → take (put a ++ rest) = some (a, rest)

theorem fits_iff {w v : Nat} : fits w v = true ↔ v < 256 ^ w := decide_eq_true_iff

/-- Section 8.8: of a value that needs more bytes the low `w` are read back. -/
theorem takeNat_be_mod (w v : Nat) (rest : List Byte) : takeNat w (be w v ++ rest) = some (v % 256 ^ w, rest) := by
  induction w with
  | zero => simp [takeNat, be, Nat.mod_one]
  | succ w ih =>
    have split : v % 256 ^ (w + 1) = v / 256 ^ w % 256 * 256 ^ w + v % 256 ^ w := by
      rw [pow_succ, Nat.mod_mul, Nat.mul_comm, Nat.add_comm]
    simp [takeNat, be, ih, split]

/-- Section 8.8: an item that fits is read, and what is read after it starts behind its bytes. -/
theorem ReadsBack.bind {α β : Type} {take : Reader α} {put : α → List Byte} {fit : α → Bool}
    (back : ReadsBack take put fit) {a : α} {rest : List Byte} {f : α × List Byte → Option β} (h : fit a = true) :
    (take (put a ++ rest) >>= f) = f (a, rest) := by
  rw [back a rest h]; rfl

theorem readsBack_be (w : Nat) : ReadsBack (takeNat w) (be w) (fits w) := fun v rest h => by
  rw [takeNat_be_mod, Nat.mod_eq_of_lt (fits_iff.1 h)]

theorem fitsInt_iff {w : Nat} {v : Int} :
    fitsInt w v = true ↔ -((256 ^ w / 2 : Nat) : Int) ≤ v ∧ v < ((256 ^ w / 2 : Nat) : Int) := by
  rw [fitsInt, Bool.and_eq_true, decide_eq_true_iff, decide_eq_true_iff]

/-- Two's complement: below half the range the value stands for itself, above it for itself less the range. -/
theorem signed_of_emod {M : Nat} {v : Int} (lo : -((M / 2 : Nat) : Int) ≤ v) (hi : v < ((M / 2 : Nat) : Int)) :
    (v % M).toNat < M
      ∧ (if (v % M).toNat < M / 2 then ((v % M).toNat : Int) else ((v % M).toNat : Int) - M) = v := by
  by_cases hv : 0 ≤ v
  · rw [Int.emod_eq_of_lt hv (by omega)]
    split <;> omega
  · rw [← Int.add_emod_right, Int.emod_eq_of_lt (by omega) (by omega)]
    split <;> omega

theorem readsBack_beInt (w : Nat) : ReadsBack (takeInt w) (beInt w) (fitsInt w) := fun v rest h => by
  obtain ⟨lo, hi⟩ := fitsInt_iff.1 h
  obtain ⟨low, signed⟩ := signed_of_emod lo hi
  rw [takeInt, beInt, readsBack_be w _ _ (fits_iff.2 low)]
  simp only [signed]

theorem readsBack_word : ReadsBack takeWord word (fun _ => true) := fun v rest _ => by
  rw [takeWord, word, readsBack_be 4 _ _ (fits_iff.2 v.isLt)]
  simp only [BitVec.ofNat_toNat, BitVec.setWidth_eq]

theorem readsBack_flag : ReadsBack takeFlag flag (fun _ => true) := fun b rest _ => takeFlag_flag b rest

section
variable {α : Type} {take : Reader α} {put : α → List Byte} {fit : α → Bool}

/-- An item that may be absent is read back; absent, its zero bytes are those of the item of zeros. -/
theorem ReadsBack.optionalItem (back : ReadsBack take put fit) {w : Nat} {zero : α} (zeros : be w 0 = put zero)
    (fitting : fit zero = true) :
    ReadsBack (takeOptional take) (fun o => optional w (o.map put)) (fitsOption fit) := fun o rest h => by
  cases o with
  | none => simp [takeOptional, optional, takeFlag, zeros, back zero rest fitting]
  | some a => simp [takeOptional, optional, takeFlag, back a rest h]

theorem takeMany_flatMap (back : ReadsBack take put fit) (xs : List α) (rest : List Byte) (h : xs.all fit = true) :
    takeMany take xs.length (xs.flatMap put ++ rest) = some (xs, rest) := by
  induction xs with
  | nil => rfl
  | cons x xs ih =>
    rw [List.all_cons, Bool.and_eq_true] at h
    simp [takeMany, back x _ h.1, ih h.2]

theorem ReadsBack.countedList (back : ReadsBack take put fit) :
    ReadsBack (takeCounted take) (counted put) (fun xs => fits 1 xs.length && xs.all fit) := fun xs rest h => by
  rw [Bool.and_eq_true] at h
  simp [takeCounted, counted, readsBack_be 1 _ _ h.1, takeMany_flatMap back xs rest h.2]

end

theorem readsBack_optNat (w : Nat) : ReadsBack (takeOptional (takeNat w)) (optNat w) (fitsOption (fits w)) :=
  (readsBack_be w).optionalItem (zero := 0) rfl (fits_iff.2 (Nat.pow_pos (by decide)))

/-! ### Items of requests

Each reader is run from its first item on: `↓` takes an item off the front before `simp` enters what is read after it. -/

theorem readsBack_design : ReadsBack takeDesign putDesign designFits := fun d rest h => by
  simp only [designFits, Bool.and_eq_true] at h
  simp only [putDesign, List.append_assoc]
  simp only [takeDesign, ↓(readsBack_be _).bind, h]; rfl

theorem readsBack_move : ReadsBack takeMove putMove moveFits := fun p rest h => by
  simp only [moveFits, Bool.and_eq_true] at h
  simp only [putMove, List.append_assoc]
  simp only [takeMove, ↓(readsBack_be _).bind, h]; rfl

theorem readsBack_settle : ReadsBack takeSettle putSettle (fun p => stepFits (.holdSettle p)) := fun p rest h => by
  simp only [stepFits, Bool.and_eq_true] at h
  simp only [putSettle, List.append_assoc]
  simp only [takeSettle, ↓(readsBack_be _).bind, h]; rfl

theorem readsBack_extension : ReadsBack takeExtension putExtension extensionFits := fun e rest h => by
  simp only [extensionFits, Bool.and_eq_true] at h
  simp only [putExtension, List.append_assoc]
  simp only [takeExtension, ↓(readsBack_be _).bind, h]; rfl

theorem readsBack_optExtension :
    ReadsBack (takeOptional takeExtension) (fun o => optional 4 (o.map putExtension)) (fitsOption extensionFits) :=
  readsBack_extension.optionalItem (zero := ⟨0, 0⟩) rfl rfl

theorem readsBack_creep : ReadsBack takeCreep putCreep (fun p => stepFits (.holdCreep p)) := fun p rest h => by
  simp only [stepFits, Bool.and_eq_true] at h
  simp only [putCreep, List.append_assoc]
  simp only [takeCreep, ↓(readsBack_be _).bind, ↓(readsBack_beInt _).bind, ↓readsBack_optExtension.bind, h]; rfl

theorem readsBack_lock : ReadsBack takeLock putLock (fun p => stepFits (.lockoff p)) := fun p rest h => by
  simp only [stepFits, Bool.and_eq_true] at h
  simp only [putLock, List.append_assoc]
  simp only [takeLock, ↓(readsBack_be _).bind, h]; rfl

/-- R18: a step is read by the parameters of the kind that its first byte codes. -/
theorem readsBack_step : ReadsBack takeStep putStep stepFits := fun p rest h => by
  have code : fits 1 (stepCode p) = true := by cases p <;> rfl
  rw [takeStep, putStep, List.append_assoc, (readsBack_be 1).bind code]
  cases p with
  | loadTo p => simp only [stepCode, stepParams, readsBack_move.bind h]; rfl
  | unloadTo p => simp only [stepCode, stepParams, readsBack_move.bind h]; rfl
  | holdSettle p => simp only [stepCode, stepParams, readsBack_settle.bind h]; rfl
  | holdCreep p => simp only [stepCode, stepParams, readsBack_creep.bind h]; rfl
  | lockoff p => simp only [stepCode, stepParams, readsBack_lock.bind h]; rfl
  | apparent | cellCheck | finish => rfl

/-- R17: the procedure of a class is a list of steps. -/
theorem readsBack_class : ReadsBack takeClass putClass classFits := fun c rest h => by
  simp only [classFits, Bool.and_eq_true] at h
  simp only [putClass, List.append_assoc]
  simp only [takeClass, ↓(readsBack_be _).bind, ↓readsBack_flag.bind, ↓(readsBack_optNat _).bind,
    ↓readsBack_step.countedList.bind, Bool.and_eq_true, h, and_self]; rfl

/-- R27: a channel's kind decides which parameters follow. -/
theorem readsBack_chanConfig : ReadsBack takeChanConfig putChanConfig chanFits := fun c rest h => by
  have code : fits 1 (kindCode c) = true := by cases c <;> rfl
  simp only [takeChanConfig, putChanConfig.eq_def, List.append_assoc, (readsBack_be 1).bind code]
  cases c with
  | none => rfl
  | _ =>
    simp only [chanFits, Bool.and_eq_true] at h
    simp only [kindCode, List.append_assoc]
    simp only [↓(readsBack_be _).bind, ↓(readsBack_beInt _).bind, h]; rfl

theorem readsBack_breakpoint : ReadsBack takeBreakpoint putBreakpoint breakpointFits := fun p rest h => by
  simp only [breakpointFits, Bool.and_eq_true] at h
  simp only [putBreakpoint, List.append_assoc]
  simp only [takeBreakpoint, ↓(readsBack_be _).bind, ↓(readsBack_beInt _).bind, h]; rfl

theorem readsBack_cellConfig : ReadsBack takeCellConfig putCellConfig cellFits := fun c rest h => by
  simp only [cellFits, Bool.and_eq_true] at h
  simp only [putCellConfig, List.append_assoc]
  simp only [takeCellConfig, ↓(readsBack_be _).bind, h]; rfl

theorem readsBack_binding : ReadsBack takeBinding putBinding bindingFits := fun c rest h => by
  simp only [bindingFits, Bool.and_eq_true] at h
  simp only [putBinding, List.append_assoc]
  simp only [takeBinding, ↓(readsBack_be _).bind, h]; rfl

theorem readsBack_placementConfig : ReadsBack takePlacementConfig putPlacementConfig placementFits := fun c rest h => by
  simp only [placementFits, Bool.and_eq_true] at h
  simp only [putPlacementConfig, List.append_assoc]
  simp only [takePlacementConfig, ↓(readsBack_be _).bind, ↓(readsBack_optNat _).bind, h]; rfl

theorem readsBack_side : ReadsBack takeSide (fun side => be 1 (sideCode side)) (fun _ => true) := fun side _ _ => by
  cases side <;> rfl

theorem readsBack_classifierConfig : ReadsBack takeClassifierConfig putClassifierConfig classifierFits := fun c rest h => by
  simp only [classifierFits, Bool.and_eq_true] at h
  simp only [putClassifierConfig, List.append_assoc]
  simp only [takeClassifierConfig, ↓(readsBack_be _).bind, ↓(readsBack_beInt _).bind,
    ↓readsBack_side.bind, ↓readsBack_flag.bind, h]; rfl

/-- R142: a trip source's code decides which items follow. -/
theorem readsBack_source : ReadsBack takeSource putSource sourceFits := fun c rest h => by
  cases c with
  | channel m t i e =>
    simp only [sourceFits, Bool.and_eq_true] at h
    simp only [putSource, List.append_assoc]
    simp only [takeSource, (readsBack_be 1).bind (a := 0) rfl]
    simp only [↓(readsBack_be _).bind, ↓(readsBack_beInt _).bind, ↓readsBack_flag.bind, h]; rfl
  | events x k =>
    simp only [sourceFits, Bool.and_eq_true] at h
    simp only [putSource, List.append_assoc]
    simp only [takeSource, (readsBack_be 1).bind (a := 1) rfl]
    simp only [↓(readsBack_be _).bind, h]; rfl
  | ringError | gaugeFault => rfl

theorem readsBack_tripConfig :
    ReadsBack takeTripConfig putTripConfig (fun c => sourceFits c.source && fits 2 c.preload) := fun c rest h => by
  rw [Bool.and_eq_true] at h
  simp only [putTripConfig, List.append_assoc]
  simp only [takeTripConfig, ↓readsBack_flag.bind, ↓readsBack_source.bind, ↓(readsBack_be _).bind, h]; rfl

theorem readsBack_pollConfig : ReadsBack takePollConfig putPollConfig pollFits := fun c rest h => by
  simp only [pollFits, Bool.and_eq_true] at h
  simp only [putPollConfig, List.append_assoc]
  simp only [takePollConfig, ↓(readsBack_be _).bind, ↓(readsBack_optNat 1).countedList.bind, Bool.and_eq_true, h,
    and_self]; rfl

theorem readsBack_schedule : ReadsBack takeSchedule putSchedule scheduleFits := fun p rest h => by
  simp only [scheduleFits, Bool.and_eq_true] at h
  simp only [putSchedule, List.append_assoc]
  simp only [takeSchedule, ↓(readsBack_be _).bind, h]; rfl

theorem readsBack_place : ReadsBack takePlace (fun p => be 1 (placeCode p)) (fun _ => true) := fun p _ _ => by
  cases p <;> rfl

theorem readsBack_choice : ReadsBack takeChoice (fun r => be 1 (choiceCode r)) (fun _ => true) := fun r _ _ => by
  cases r <;> rfl

/-! ### Request bodies -/

theorem oneByte_be (f : Nat → Request) {v : Nat} (h : fits 1 v = true) (rest : List Byte) :
    oneByte f (be 1 v ++ rest) = some (f v, rest) := (readsBack_be 1).bind h

/-- A body of two items is read item by item. -/
theorem ReadsBack.pair {α β γ : Type} {take : Reader α} {put : α → List Byte} {fit : α → Bool} {take' : Reader β}
    {put' : β → List Byte} {fit' : β → Bool} (back : ReadsBack take put fit) (back' : ReadsBack take' put' fit')
    {a : α} {b : β} (f : α → β → γ) (h : (fit a && fit' b) = true) (rest : List Byte) :
    (do
      let (a, bs) ← take (put a ++ put' b ++ rest)
      let (b, bs) ← take' bs
      pure (f a b, bs)) = some (f a b, rest) := by
  rw [Bool.and_eq_true] at h
  rw [List.append_assoc, back.bind h.1]
  exact back'.bind h.2

/-- R190: the reader of a request's own code takes exactly the request's body. -/
theorem takeRequest_requestBody (r : Request) (rest : List Byte) (h : requestFits r = true) :
    takeRequest (requestCode r) (requestBody r ++ rest) = some (r, rest) := by
  have number := readsBack_be 1
  cases r with
  | readOrder | readPlacement | readTrip | freeze | thaw | readRing | readPolls | readSchedule | clearOverrun | readLogState
  | readStatus | restart | clearEstop => rfl
  | readAnchor v | withdrawAnchor v | retryAnchor v | readClass v | dequeueStress v | setExclusion v | readChannel v
  | readTable v | readCell v | unbindChannel v | readStress v | haltChannel v | startPlace v | readClassifier v | clearTrip v
  | configRing v | readPending v | readPart v => exact oneByte_be _ h rest
  | loadAnchor v d => exact number.pair readsBack_design _ h rest
  | loadClass v c => exact number.pair readsBack_class _ h rest
  | configChannel v c => exact number.pair readsBack_chanConfig _ h rest
  | loadTrip v c => exact number.pair readsBack_tripConfig _ (by rwa [← Bool.and_assoc]) rest
  | loadTable v bps => exact number.pair readsBack_breakpoint.countedList _ (by rwa [← Bool.and_assoc]) rest
  | startStress n v => exact number.pair number _ h rest
  | enqueueStress v p => exact number.pair readsBack_place _ (by rwa [Bool.and_true]) rest
  | measureCell v r => exact number.pair readsBack_choice _ (by rwa [Bool.and_true]) rest
  | setAutoTake v auto => exact number.pair readsBack_flag _ (by rwa [Bool.and_true]) rest
  | configCell v cfg => exact number.pair (readsBack_cellConfig.optionalItem (zero := ⟨0, 0, 0, 0, 0⟩) rfl rfl) _ h rest
  | configClassifier v cfg =>
    exact number.pair (readsBack_classifierConfig.optionalItem (zero := ⟨0, .above, 0, 0, 0, 0, 0, false⟩) rfl rfl) _ h rest
  | loadPoll v cfg => exact number.pair (readsBack_pollConfig.optionalItem (zero := ⟨0, 0, 0, []⟩) rfl rfl) _ h rest
  | configPlacement cfg =>
    exact (readsBack_placementConfig.optionalItem (zero := ⟨0, 0, 0, 0, 0, 0, 0, none, none, 0, 0, 0⟩) rfl rfl).bind h
  | configSchedule p => exact readsBack_schedule.bind h
  | setWatermark w => exact (readsBack_be 2).bind h
  | trimLog seq => exact readsBack_word.bind rfl
  | setTime minute => exact readsBack_word.bind rfl
  | readLog start count => exact readsBack_word.pair number _ h rest
  | bindChannel n b auto =>
    have items : requestBody (.bindChannel n b auto) ++ rest = be 1 n ++ (putBinding b ++ flag auto ++ rest) := by
      simp only [requestBody, List.append_assoc]
    rw [requestFits, Bool.and_eq_true] at h
    rw [items]
    exact (number.bind h.1).trans (readsBack_binding.pair readsBack_flag _ (by rw [h.2]; rfl) rest)

/-- Settles O5: each item of a body is read back by its reader, and no byte is left over. -/
theorem requestBodiesRoundTrip : Obligations.RequestBodiesRoundTrip := fun r h => by
  have back := takeRequest_requestBody r [] h
  rw [List.append_nil] at back
  rw [decodeRequest, back]; rfl

end Sys2Proof.Machine
end

section
/-! SUPPORT. Long bodies (R192): the parts that LOAD_PART collects, the request that a whole body is, and the part that
READ_PART answers. -/

namespace Sys2Proof.Machine

open Sys2Proof Sys2Proof.Config

/-! ### The code of a decoded request (R190) -/

/-- What a reader answers, if anything, is a request of this code. -/
def OfCode (code : Nat) (o : Option (Request × List Byte)) : Prop := ∀ r rest, o = some (r, rest) → requestCode r = code

theorem OfCode.some {code : Nat} {r : Request} {rest : List Byte} (h : requestCode r = code) :
    OfCode code (some (r, rest)) := fun _ _ e => by cases e; exact h

theorem OfCode.bind {α : Type} {code : Nat} {o : Option α} {f : α → Option (Request × List Byte)}
    (h : ∀ a, OfCode code (f a)) : OfCode code (o >>= f) := fun r rest e => by
  obtain ⟨a, -, e⟩ := Option.bind_eq_some_iff.1 e
  exact h a r rest e

/-- Whatever items its arm takes first, each code's reader ends in the request of that code. -/
theorem ofCode_takeRequest (code : Nat) (body : List Byte) : OfCode code (takeRequest code body) := by
  unfold takeRequest
  split
  case h_51 => exact fun _ _ e => nomatch e
  all_goals
    repeat refine .bind fun _ => ?_
    exact .some rfl

theorem whole_eq_some {α : Type} {o : Option (α × List Byte)} {a : α} (h : whole o = some a) : o = some (a, []) := by
  unfold whole at h
  split at h
  · cases h; rfl
  · cases h

theorem requestCode_of_decodeRequest {code : Nat} {body : List Byte} {r : Request} (h : decodeRequest code body = some r) :
    requestCode r = code := ofCode_takeRequest code body r [] (whole_eq_some h)

/-! ### The assembly store -/

theorem isDue_setAssembly (a : Option Assembly) (s : State) (d : Due) : isDue (setAssembly a s) d = isDue s d := by
  cases d <;> rfl

/-- R192: no row that falls due reads the assembly, so a request is taken with any. -/
theorem takesNow_setAssembly (a : Option Assembly) {s : State} (h : takesNow s) : takesNow (setAssembly a s) := by
  have due : isDue (setAssembly a s) = isDue s := funext (isDue_setAssembly a s)
  have next : nextDue (setAssembly a s) = nextDue s := by rw [nextDue, due, nextDue]
  exact ⟨by rw [quiet, next]; exact h.1, h.2⟩

/-- R192: a part other than part 0 that is not the expected one continues no assembly. -/
theorem assemblyFor_of_unexpected {target part : Nat} {store : Option Assembly} (hp : part ≠ 0)
    (unexpected : ∀ a, store = some a → a.code ≠ target ∨ a.nextPart ≠ part) : assemblyFor target part store = none := by
  cases store with
  | none => exact if_neg hp
  | some a => exact (if_neg hp).trans (if_neg fun ⟨hc, hn⟩ => (unexpected a rfl).elim (· hc) (· hn))

/-- R192: the bytes collected with a part: its own at part 0, and otherwise behind those of the assembly it continues. -/
theorem assemblyFor_of_expected {target part : Nat} {store : Option Assembly} {bytes body : List Byte}
    (expected : (part = 0 ∧ body = bytes) ∨ (part ≠ 0 ∧ ∃ a, store = some a ∧ a.code = target ∧ a.nextPart = part
      ∧ body = a.bytes ++ bytes)) : ∃ a, assemblyFor target part store = some a ∧ a.bytes ++ bytes = body := by
  obtain ⟨h0, rfl⟩ | ⟨hp, a, rfl, hc, hn, rfl⟩ := expected
  · exact ⟨_, if_pos h0, rfl⟩
  · exact ⟨a, (if_neg hp).trans (if_pos ⟨hc, hn⟩), rfl⟩

/-! ### LOAD_PART (R192) -/

section
variable {s : State} {tag target part : Nat} {bytes : List Byte} (last : Bool)

theorem exec_loadPart_of_unowned (h : takesNow s) (ht : target = 0x63 ∨ target = 0x64 ∨ ownedCode target = false) :
    exec (.loadPart tag target part last bytes) s = .next (refused tag 0x63 .badValue s) := by
  have unowned : target = loadPartCode ∨ target = 0x64 ∨ ownedCode target = false ∨ 119 < bytes.length ∨ 255 < part :=
    ht.imp id (.imp id .inl)
  rw [exec_loadPart h, actLoadPart, if_pos unowned]
  exact congrArg Host.Outcome.next (respond_refuse _ (passDue_of_takesNow h))

/-- R192: the target is a request of some block that parts can carry, and the part's number and bytes are in range. -/
def PartInRange (target part : Nat) (bytes : List Byte) : Prop :=
  ¬(target = loadPartCode ∨ target = 0x64 ∨ ownedCode target = false ∨ 119 < bytes.length ∨ 255 < part)

theorem exec_loadPart_of_unexpected (h : takesNow s) (hr : PartInRange target part bytes)
    (ha : assemblyFor target part s.station.assembly = none) :
    exec (.loadPart tag target part last bytes) s = .next (refused tag 0x63 .badValue (setAssembly none s)) := by
  rw [exec_loadPart h, actLoadPart, if_neg hr, ha]
  exact congrArg Host.Outcome.next (respond_refuse _ (passDue_of_takesNow h))

/-- R192: a part that continues an assembly, by the length of the body so far and the last flag. -/
theorem exec_loadPart_of_expected (h : takesNow s) (hr : PartInRange target part bytes) {a : Assembly}
    (ha : assemblyFor target part s.station.assembly = some a) :
    exec (.loadPart tag target part last bytes) s = .next (
      if 1024 < (a.bytes ++ bytes).length then refused tag 0x63 .full (setAssembly none s)
      else if last then respond tag target (handBody target (a.bytes ++ bytes) (setAssembly none s))
      else answered tag 0x63 none []
        (setAssembly (some { code := target, bytes := a.bytes ++ bytes, nextPart := part + 1 }) s)) := by
  have hp := passDue_of_takesNow h
  rw [exec_loadPart h, actLoadPart, if_neg hr, ha]
  refine congrArg Host.Outcome.next ?_
  dsimp only
  split
  · exact respond_refuse _ hp
  · split
    · rfl
    · exact respond_done _ hp

end

/-! ### A whole body handed over (R190) -/

section
variable {s : State} {tag code : Nat} {body : List Byte}

/-- R190, R192: a whole body acts as the request it spells, arrived in a frame of its own. -/
theorem respond_handBody_of_request (h : takesNow s) {r : Request} (hr : decodeRequest code body = some r) :
    .next (respond tag code (handBody code body s)) = exec (rowOf tag r) s := by
  rw [exec_rowOf, request_of_takesNow h, requestCode_of_decodeRequest hr, handBody, hr]

theorem respond_handBody_of_none (h : takesNow s) (hr : decodeRequest code body = none) :
    respond tag code (handBody code body s) = refused tag code .badValue s := by
  rw [handBody, hr]
  exact respond_refuse _ (passDue_of_takesNow h)

/-! ### READ_PART and the codes that no block owns (R190, R192) -/

theorem exec_readPart (h : takesNow s) (part : Nat) : exec (.readPart tag part) s = .next (
    if part < 1 ∨ 255 < part then refused tag 0x64 .badValue s
    else if s.station.longResponse = [] then refused tag 0x64 .notFound s
    else answered tag 0x64 none ((s.station.longResponse.drop (120 * part)).take 120) s) := by
  have hp := passDue_of_takesNow h
  have range : (!within 1 255 part) = true ↔ part < 1 ∨ 255 < part := by
    rw [Bool.not_eq_true', ← Bool.not_eq_true, within_iff]; omega
  show request tag 0x64 (actReadPart part) s = _
  rw [request_of_takesNow h]
  exact congrArg Host.Outcome.next
    (respond_check hp range (respond_check hp List.isEmpty_iff (respond_done _ hp)))

theorem exec_unownedRequestCode (h : takesNow s) (unspelled : spellsRequest code body = false) :
    exec (.unownedRequestCode tag code body) s = .next (refused tag code .badValue s) := by
  show execUnownedRequestCode tag code body s = _
  rw [execUnownedRequestCode, unspelled, if_neg Bool.false_ne_true, request_of_takesNow h]
  exact congrArg Host.Outcome.next (respond_refuse _ (passDue_of_takesNow h))

end

/-- Settles O60: a part by the assembly that it continues and the length of the body so far, a whole body as the request it
spells, and READ_PART by its two checks. -/
theorem longBodiesAreAssembledAndRead : Obligations.LongBodiesAreAssembledAndRead := by
  refine fun s tag h => ⟨fun target part last bytes ht => exec_loadPart_of_unowned last h ht,
    fun target part last bytes h63 h64 owned hp hb => ?_, exec_readPart h, fun code body => exec_unownedRequestCode h⟩
  have inRange : PartInRange target part bytes := by
    rintro (h | h | h | h | h)
    · exact h63 h
    · exact h64 h
    · exact Bool.false_ne_true (h.symm.trans owned)
    · exact Nat.not_lt.2 hb h
    · exact Nat.not_lt.2 hp h
  have emptiedNow := takesNow_setAssembly none h
  refine ⟨fun h0 unexpected => exec_loadPart_of_unexpected last h inRange (assemblyFor_of_unexpected h0 unexpected),
    fun body expected => ?_⟩
  obtain ⟨a, ha, rfl⟩ := assemblyFor_of_expected expected
  rw [exec_loadPart_of_expected last h inRange ha]
  refine ⟨fun long => ?_, fun short more => ?_, fun r short done spelled => ?_, fun short done unspelled => ?_⟩
  · rw [if_pos long]; rfl
  · rw [if_neg (Nat.not_lt.2 short), more]; rfl
  · rw [if_neg (Nat.not_lt.2 short), if_pos done]
    exact respond_handBody_of_request emptiedNow spelled
  · rw [if_neg (Nat.not_lt.2 short), if_pos done]
    exact congrArg Host.Outcome.next (respond_handBody_of_none emptiedNow unspelled)

end Sys2Proof.Machine
end

section
/-! SUPPORT. One step, by the queue it finds (log 4). -/

namespace Sys2Proof.Machine

variable {s : State}

theorem step_of_front (c : Instr) (rest : List Instr) (s : State) :
    step { s with pending := c :: rest } = exec c { s with pending := rest } := rfl

theorem step_of_empty_queue (h : s.pending = []) : step s = .next (settle s) := by rw [step, h]

/-- A quiet machine with no command waiting idles: what it carries out of its own accord is nothing. -/
theorem step_of_quiet (h : s.pending = []) (hq : quiet s = true) : step s = .next s :=
  (step_of_empty_queue h).trans (congrArg Host.Outcome.next (settle_of_quiet hq))

/-- Settles O1, by the two shapes of the queue; a quiet state is one that `settle` leaves alone. -/
theorem stepRunsFrontCommand : Obligations.StepRunsFrontCommand :=
  ⟨step_of_front, fun _ => step_of_empty_queue, fun _ => step_of_quiet⟩

end Sys2Proof.Machine
end
